-- ==== Sys2Proof/Word.lean ====
section
/-! DEFINITION. The word types of the DJ-640's records (R189) and the numbers of its cranes, aisles and lanes. -/

namespace Sys2Proof

/-- One byte of a line. -/
abbrev Byte := BitVec 8

/-- Request references, order ids and sequence numbers (R189). -/
abbrev Word16 := BitVec 16

/-- Tags, pallets, serials, job clock stamps and the duration clock (R189). -/
abbrev Word32 := BitVec 32

/-- Cranes are numbered 0-15: crane 2a is the near crane of aisle a, crane 2a+1 the far crane. -/
abbrev Crane := Fin 16

/-- Aisles are numbered 0-7. -/
abbrev Aisle := Fin 8

/-- Dispatch lanes are numbered 0-7 (R151). -/
abbrev LaneNo := Fin 8

end Sys2Proof
end

