-- ==== Sys2Proof/Config.lean ====
section
/-! DEFINITION. The fixed sizes and limits of the part. The spec leaves no value open, so no value here is free. -/

namespace Sys2Proof.Config

/-- Live jobs the pool holds (R20). -/
def poolSize : Nat := 320
/-- STORE jobs a station inbound queue holds (R21). -/
def stationQueueSize : Nat := 8
/-- Slots a spare list holds (R42). -/
def spareListSize : Nat := 16
/-- Entries of the weighting table (R11). -/
def weightEntries : Nat := 2048
/-- Replies the reply stream holds (R178). -/
def replyStreamSize : Nat := 16
/-- Notices the notice queue holds (R182). -/
def noticeQueueSize : Nat := 32
/-- The bound of every leg time, route time and score (R83, R84, R88). -/
def timeLimit : Nat := 65535
/-- The bound of the 16-bit saturating counts (R123, R176). -/
def countLimit : Nat := 65535
/-- The bound of the saturating trim sums (R91). -/
def sumLimit : Nat := 4294967295
/-- The limits of a trim (R91). -/
def trimLow : Nat := 512
/-- The limits of a trim (R91). -/
def trimHigh : Nat := 2048
/-- Measured legs that bring on a trim update (R94). -/
def trimLegs : Nat := 64
/-- Passes of one request that may reach an invalid result (R119). -/
def passesPerRequest : Nat := 3
/-- A silence count's bound (R167, R169). -/
def silenceBound : Nat := 255
/-- The longest gap between two bytes of a frame, in ms (R175). -/
def frameGapMs : Nat := 20
/-- The length of a pace interval in ms, by its period code (R163). -/
def paceMs (code : Fin 4) : Nat :=
  match code with
  | 0 => 50
  | 1 => 100
  | 2 => 200
  | 3 => 400

end Sys2Proof.Config
end

