-- ==== Sys2Proof/Machine/Arith.lean ====
section
/-! DEFINITION. The manual's arithmetic words (R1), and reading and writing one place of a fixed collection. -/

namespace Sys2Proof.Machine

/-- "Round half up" (R1): n / d + 1/2 with the remainder discarded. -/
def roundHalfUp (n d : Nat) : Nat := (2 * n + d) / (2 * d)

/-- "Ceiling" (R1): the least whole number not below n / d. -/
def ceilDiv (n d : Nat) : Nat := (n + d - 1) / d

/-- "Clamped" (R1): the nearer end of lo..hi replaces a number outside it. -/
def clamp (lo hi n : Nat) : Nat := max lo (min hi n)

/-- A sum saturating at `limit` (R1). -/
def satAdd (limit a b : Nat) : Nat := min limit (a + b)

/-- The difference of two numbers without sign (R80). -/
def absDiff (a b : Nat) : Nat := (a - b) + (b - a)

/-- The distance of d ahead of n, modulo 65536 (R152). -/
def ahead (d n : Word16) : Nat := (d - n).toNat

/-- A serial s is at or before a serial t (R19). -/
def atOrBefore (s t : Word32) : Bool := (t - s).toNat < 2 ^ 31

/-- A place of a fixed collection replaced. -/
def upd {α : Type} {n : Nat} (v : Vector α n) (i : Fin n) (a : α) : Vector α n := v.set i.val a i.isLt

/-- The cranes in crane-number order (R97). -/
def allCranes : List Crane := [0, 1, 2, 3, 4, 5, 6, 7, 8, 9, 10, 11, 12, 13, 14, 15]

end Sys2Proof.Machine
end

