-- ==== Sys2Proof/Syntax.lean ====
section
/-! DEFINITION. The commands of the block: one constructor for each row of spec/opcode_table.json.

A request carries its body (from the request reference on) as the bytes the host sent (R177, R189); a crane
record carries the fields of R194. -/

namespace Sys2Proof

/-- The rate of the management line, selected by the strap pin that power-on reads (chapter 10). -/
inductive LineRate where
  | baud115200
  | baud460800
  deriving DecidableEq, Repr

/-- Why a management frame is dropped, other than for a gap (R175, R176). -/
inductive DropCause where
  | badLength
  | badCheck
  | badStopBit
  | overrun
  deriving DecidableEq, Repr

/-- The mode of a STATUS record (R194). -/
inductive StatusMode where
  | idle
  | busy
  | fault
  deriving DecidableEq, Repr

/-- The commands. -/
inductive Instr where
  /-- POWER_ON (R149): the strap as it stands. -/
  | powerOn (strap : LineRate)
  -- the 31 request kinds in the order of the table of R177, each with its body
  | admitStore (body : List Byte)
  | admitRetrieve (body : List Byte)
  | amendStore (body : List Byte)
  | cancelJob (body : List Byte)
  | queryJob (body : List Byte)
  | enrolCrane (body : List Byte)
  | withdrawCrane (body : List Byte)
  | homeCrane (body : List Byte)
  | abandonOrder (body : List Byte)
  | queryCrane (body : List Byte)
  | setTrim (body : List Byte)
  | setAisleGeometry (body : List Byte)
  | setAislePolicy (body : List Byte)
  | loadWeights (body : List Byte)
  | queryAisle (body : List Byte)
  | setProfile (body : List Byte)
  | setScoring (body : List Byte)
  | addSpare (body : List Byte)
  | removeSpare (body : List Byte)
  | laneOpen (body : List Byte)
  | laneClose (body : List Byte)
  | skipSequence (body : List Byte)
  | queryLane (body : List Byte)
  | setTiming (body : List Byte)
  | hold (body : List Byte)
  | resume (body : List Byte)
  | setNotices (body : List Byte)
  | clearFlags (body : List Byte)
  | setWatch (body : List Byte)
  | queryStatus (body : List Byte)
  | reset (body : List Byte)
  /-- UNKNOWN_REQUEST (R177): a valid frame of an unknown record type, or with a body of one byte. -/
  | unknownRequest (kind : Byte) (body : List Byte)
  /-- MANAGEMENT_FRAME_DROPPED (R176). -/
  | managementFrameDropped (cause : DropCause)
  /-- FRAME_GAP_ABANDON (R175). -/
  | frameGapAbandon
  /-- CRANE_FRAME_DROPPED (R128). -/
  | craneFrameDropped (crane : Crane)
  /-- UNKNOWN_CRANE_RECORD (R128): a valid frame of unknown type or malformed body. -/
  | unknownCraneRecord (crane : Crane)
  -- the eight records of a crane line (R194)
  | accept (crane : Crane) (id : Word16)
  | decline (crane : Crane) (id : Word16) (reason : Byte)
  | legDone (crane : Crane) (id : Word16) (index bay level : Byte)
  | orderDone (crane : Crane) (id : Word16) (bay level : Byte)
  | revoked (crane : Crane) (id : Word16) (started : Bool)
  | fault (crane : Crane) (code bay level : Byte) (id : Word16) (legsDone : Byte)
  | faultClear (crane : Crane) (bay level : Byte)
  | status (crane : Crane) (mode : StatusMode) (id : Word16) (legsDone bay level : Byte) (aboard : Bool)
  /-- PASS_COMPLETION (R117): the pass in flight reaches its decision. -/
  | passCompletion
  /-- PACE_INTERVAL_EXPIRY (R163). -/
  | paceIntervalExpiry
  /-- SILENCE_LIMIT_REACHED (R146). -/
  | silenceLimitReached (crane : Crane)
  /-- HOST_LIMIT_REACHED (R169). -/
  | hostLimitReached
  /-- ACCEPT_TIMER_EXPIRY (R133). -/
  | acceptTimerExpiry (crane : Crane)
  /-- FRAME_TRANSMIT_COMPLETE (R179). -/
  | frameTransmitComplete
  deriving DecidableEq, Repr

end Sys2Proof
end

