-- ==== Sys2Proof/Machine/State.lean ====
section
/-! DEFINITION. The state of the DJ-640 as plain data, block by block as the manual's block overview lists them,
and the state after power-on. -/

namespace Sys2Proof.Machine

/-! ## Places (00_scope.md, chapter 1) -/

/-- The two ends of an aisle, and the stations and cranes that stand there. -/
inductive RailEnd where
  | near
  | far
  deriving DecidableEq, Repr

inductive Side where
  | left
  | right
  deriving DecidableEq, Repr

inductive Depth where
  | front
  | rear
  deriving DecidableEq, Repr

/-- A slot address: one pallet position of the rack. -/
structure Slot where
  aisle : Aisle
  side : Side
  bay : Nat
  level : Nat
  depth : Depth
  deriving DecidableEq, Repr

/-- A station: the near or far end of an aisle. -/
structure Station where
  aisle : Aisle
  side : RailEnd
  deriving DecidableEq, Repr

/-- Where a leg ends: a slot, a station, or (for a yield) a rail position (R131, R191). -/
inductive Place where
  | slot (s : Slot)
  | station (st : Station)
  | rail (aisle : Aisle) (bay level : Nat)
  deriving DecidableEq, Repr

/-- A crane's position: a rail bay and a level (R123). -/
structure Position where
  bay : Nat
  level : Nat
  deriving DecidableEq, Repr

/-- The action at the end of a leg: NONE, PICK or DROP. -/
inductive Action where
  | stay
  | pick
  | drop
  deriving DecidableEq, Repr

/-! ## Job pool (chapter 2) -/

inductive JobState where
  | pending
  | ordered
  | active
  deriving DecidableEq, Repr

/-- The fields that belong to one kind of job (section 2.1). -/
inductive JobKind where
  | store (station : Station) (candidates : List Slot) (chosen : Option Slot) (stalled : Bool)
  | retrieve (slot : Slot) (blocker : Option Word32) (lane : Option (LaneNo × Word16))
  deriving DecidableEq, Repr

/-- A live job (section 2.1, R18). -/
structure Job where
  serial : Word32
  tag : Word32
  pallet : Word32
  cls : Fin 4
  admittedAt : Word32
  state : JobState
  declines : Nat
  kind : JobKind
  deriving DecidableEq, Repr

/-- The edge mode of the pool-level watch (R38). -/
inductive EdgeMode where
  | off
  | rising
  | falling
  | both
  deriving DecidableEq, Repr

/-- The job pool: the live jobs in serial order (R19), the serial counter and the watch (R38).
The station inbound queues are a view of `jobs` (`Pool.stationQueue`, R21). -/
structure Pool where
  jobs : List Job
  serial : Word32
  watchThreshold : Nat
  watchEdges : EdgeMode
  deriving DecidableEq, Repr

/-! ## Reservation table (chapter 3) -/

/-- The use of an entry, with its owner: a job, or the spare list of the slot's aisle (3.1). -/
inductive Use where
  | retrieveSource (tag : Word32)
  | blockerSource (tag : Word32)
  | storeDest (tag : Word32)
  | spareFree
  | spareInUse (tag : Word32)
  deriving DecidableEq, Repr

/-- An entry of the reservation table (R40). -/
structure Entry where
  slot : Slot
  use : Use
  deriving DecidableEq, Repr

/-! ## Span unit (chapter 4) -/

/-- A span (R57): NONE, UNKNOWN or the interval lo..hi. -/
inductive Span where
  | absent
  | unknown
  | bays (lo hi : Nat)
  deriving DecidableEq, Repr

/-- A yield pair (R57). -/
structure YieldPair where
  waiting : Crane
  yielding : Crane
  target : Nat
  deriving DecidableEq, Repr

structure SpanUnit where
  span : Vector Span 16
  pair : Vector (Option YieldPair) 8
  deriving DecidableEq, Repr

/-! ## Cost unit (chapters 1 and 5) -/

inductive CraneFit where
  | nearOnly
  | farOnly
  | both
  deriving DecidableEq, Repr

/-- A geometry record (section 1.2). -/
structure Geometry where
  configured : Bool
  bays : Nat
  levels : Nat
  doubleDeep : Bool
  nearLevel : Nat
  farLevel : Nat
  fit : CraneFit
  gap : Nat
  deriving DecidableEq, Repr

/-- Profile modes 0-3 (section 1.3). -/
inductive ProfileMode where
  | profileA
  | profileB
  | byMark
  | byWindow
  deriving DecidableEq, Repr

/-- Weighting modes 0-3 (section 1.3). -/
inductive WeightingMode where
  | bothRates
  | horizontal
  | vertical
  | forkTime
  deriving DecidableEq, Repr

/-- A policy record (section 1.3). -/
structure Policy where
  profileMode : ProfileMode
  windowBayLo : Nat
  windowBayHi : Nat
  windowLevelLo : Nat
  windowLevelHi : Nat
  windowInvert : Bool
  weighting : Bool
  weightingMode : WeightingMode
  weightingBase : Nat
  bayGroup : Nat
  levelGroup : Nat
  dual : Bool
  dualLimit : Nat
  yieldPenalty : Nat
  deriving DecidableEq, Repr

/-- A weighting table entry (R11). -/
structure Weight where
  mark : Bool
  factor : Nat
  deriving DecidableEq, Repr

/-- A travel profile (section 5.1). -/
structure Profile where
  kx : Nat
  cx : Nat
  ky : Nat
  cy : Nat
  kf : Nat
  kd : Nat
  ks : Nat
  deriving DecidableEq, Repr

/-- The scoring settings (R86). -/
structure Scoring where
  bias0 : Nat
  bias1 : Nat
  bias2 : Nat
  bias3 : Nat
  ageGain : Nat
  ageCap : Nat
  deriving DecidableEq, Repr

/-- A crane's trim, auto-trim enable and accumulators (R91). -/
structure Trim where
  trim : Nat
  auto : Bool
  legs : Nat
  predicted : Nat
  actual : Nat
  deriving DecidableEq, Repr

/-- The cost unit. The weighting table is held sparse: indexes rise, and an index not listed holds mark 0 and
factor 1024, as every entry does after power-on (R11). -/
structure CostUnit where
  geometry : Vector Geometry 8
  policy : Vector Policy 8
  weights : List (Nat × Weight)
  profileA : Profile
  profileB : Profile
  scoring : Scoring
  trims : Vector Trim 16
  deriving DecidableEq, Repr

/-! ## Orders and crane contexts (chapter 7) -/

/-- A leg of an order (R130). -/
structure Leg where
  target : Place
  action : Action
  legMs : Nat
  untrimmed : Nat
  done : Bool
  measured : Option Word32
  valid : Bool
  deriving DecidableEq, Repr

inductive OrderKind where
  | job
  | yield
  | home
  deriving DecidableEq, Repr

inductive OrderState where
  | awaitYield
  | sent
  | revoking
  | running
  | suspended
  deriving DecidableEq, Repr

/-- The relocation an order or a result makes: blocker pallet, FRONT slot f and spare x (R130). -/
structure Relocation where
  blocker : Word32
  front : Slot
  spare : Slot
  deriving DecidableEq, Repr

/-- An order record (R130). The crane is the one whose context holds the record. -/
structure Order where
  id : Word16
  kind : OrderKind
  state : OrderState
  legs : List Leg
  nextLeg : Nat
  storeTag : Option Word32
  retrieveTag : Option Word32
  relocation : Option Relocation
  yieldPartner : Option Crane
  acceptTimer : Nat
  lateAccept : Bool
  lastCapture : Option Word32
  deriving DecidableEq, Repr

/-- The eleven crane states (R124). -/
inductive CraneState where
  | offline
  | syncing
  | idle
  | queued
  | awaitYield
  | ordered
  | running
  | yielding
  | homing
  | faulted
  | lost
  deriving DecidableEq, Repr

inductive Aboard where
  | no
  | yes
  | unknown
  deriving DecidableEq, Repr

/-- The causes of a CRANE STATE event, in the order of the table of R144. -/
inductive StateCause where
  | fault
  | acceptTimeout
  | loadAboard
  | unsettled
  | silence
  | cleared
  | reconciled
  | orderLost
  | withdrawn
  deriving DecidableEq, Repr

/-- A crane context (R123). -/
structure CraneCtx where
  state : CraneState
  position : Option Position
  aboard : Aboard
  order : Option Order
  timeouts : Nat
  homeRequest : Bool
  starved : Bool
  faultCode : Option Byte
  stateCause : Option StateCause
  anomalies : Nat
  lineErrors : Nat
  deriving DecidableEq, Repr

structure OrderUnit where
  cranes : Vector CraneCtx 16
  idCounter : Word16
  deriving DecidableEq, Repr

/-! ## Allotment engine (chapter 6) -/

/-- An entry of the pass request queue (R98). -/
structure QueueEntry where
  crane : Crane
  invalid : Nat
  deriving DecidableEq, Repr

/-- The values a pass latches at its start (R103). -/
structure Latch where
  profileA : Profile
  profileB : Profile
  scoring : Scoring
  trim : Nat
  jobClock : Word32
  stamp : Word32
  position : Option Position
  deriving DecidableEq, Repr

/-- The span unit's answer for a route (R60). -/
inductive SpanAnswer where
  | eligible
  | yieldEligible (target : Nat)
  | ineligible
  deriving DecidableEq, Repr

/-- The store stage's choice so far (R90, R105). -/
structure StorePick where
  tag : Word32
  serial : Word32
  slot : Slot
  sum : Nat
  answer : SpanAnswer
  deriving DecidableEq, Repr

/-- The retrieve stage's best candidate (R109). -/
structure RetrievePick where
  tag : Word32
  serial : Word32
  score : Nat
  legs : List Leg
  relocation : Option Relocation
  answer : SpanAnswer
  deriving DecidableEq, Repr

/-- How far a pass in flight has come (R104, R105, R107). -/
inductive Stage where
  /-- no item examined yet -/
  | start
  /-- the store stage for the head with this tag and serial: the next candidate's index and the best so far -/
  | store (tag serial : Word32) (next : Nat) (best : Option StorePick)
  /-- the retrieve stage: the store chosen, the serial of the last retrieve examined, the best so far -/
  | retrieve (store : Option StorePick) (cursor : Option Word32) (best : Option RetrievePick)
  /-- the retrieve stage is skipped: a store alone (R107) -/
  | storeOnly (store : StorePick)
  deriving DecidableEq, Repr

/-- The pass in flight (R103). -/
structure Pass where
  crane : Crane
  invalid : Nat
  note : Bool
  latch : Latch
  stage : Stage
  sparesEmpty : Bool
  deriving DecidableEq, Repr

/-- The allotment engine: FREE when `pass` is none, EVALUATING otherwise (R100). -/
structure Engine where
  queue : List QueueEntry
  pass : Option Pass
  deriving DecidableEq, Repr

/-! ## Lane unit (chapter 8) -/

/-- A lane record (R151). The delivered set is held in order of distance ahead of next due. -/
structure Lane where
  opened : Bool
  nextDue : Word16
  window : Nat
  delivered : List Word16
  liveJobs : Nat
  deriving DecidableEq, Repr

/-! ## Supervision unit (chapter 9) -/

/-- The five timing settings (R166). -/
structure Timing where
  code : Fin 4
  silenceLimit : Nat
  acceptLimit : Nat
  hostLimit : Nat
  autoRelease : Bool
  deriving DecidableEq, Repr

inductive HoldCause where
  | none
  | command
  | silence
  | aisle
  deriving DecidableEq, Repr

inductive ReleaseCause where
  | none
  | command
  | hostTraffic
  deriving DecidableEq, Repr

/-- The hold record (R174). -/
structure HoldRecord where
  holdCause : HoldCause
  holdAisle : Option Aisle
  holdClock : Word32
  releaseCause : ReleaseCause
  releaseAisle : Option Aisle
  releaseClock : Word32
  deriving DecidableEq, Repr

structure Supervision where
  paceElapsed : Nat
  timing : Timing
  jobClock : Word32
  durationClock : Word32
  silence : Vector Nat 16
  pollPointer : Crane
  roundCount : Word16
  hostSilence : Nat
  holdCommand : Bool
  holdSilence : Bool
  holdAisle : Vector Bool 8
  record : HoldRecord
  deriving DecidableEq, Repr

/-! ## Notice unit and management port (chapter 10) -/

/-- The direction of a POOL LEVEL event (R38). -/
inductive Crossing where
  | rising
  | falling
  deriving DecidableEq, Repr

/-- An event with the body captured when it is raised (R181). -/
inductive Event where
  | jobDone (tag : Word32) (retrieve : Bool) (slot : Slot)
  | jobFailed (tag : Word32) (reason : Byte)
  | jobStranded (tag : Word32) (crane : Crane)
  | relocated (blocker : Word32) (source target : Slot)
  | storeStalled (tag : Word32) (station : Station)
  | sparesEmpty (aisle : Aisle)
  | craneState (crane : Crane) (state : CraneState) (cause : StateCause)
  | laneAdvanced (lane : LaneNo) (nextDue : Word16)
  | poolLevel (count : Nat) (direction : Crossing)
  | holdChange (command silence : Bool) (aisles : Vector Bool 8) (record : HoldRecord)
  | trimUpdated (crane : Crane) (trim : Nat)
  deriving DecidableEq, Repr

/-- What the notice unit keeps for one event class (R181). -/
structure ClassRecord where
  flag : Bool
  missed : Bool
  notice : Bool
  level : Nat
  clearOnSend : Bool
  deriving DecidableEq, Repr

/-- A notice record (R182). -/
structure Notice where
  level : Nat
  stamp : Word32
  event : Event
  deriving DecidableEq, Repr

/-- The notice unit; classes are numbered as in the table of R181. -/
structure NoticeUnit where
  classes : Vector ClassRecord 11
  queue : List Notice
  deriving DecidableEq, Repr

/-- The reply codes in the order of the table of R177. -/
inductive ReplyCode where
  | ok
  | malformed
  | badPlace
  | unknownTag
  | unknownPlace
  | duplicateTag
  | palletBusy
  | slotReserved
  | full
  | laneClosed
  | staleSequence
  | duplicateSequence
  | inProgress
  | inUse
  | wrongState
  | busy
  | range
  deriving DecidableEq, Repr

/-- The items of a QUERY JOB reply (R37). -/
structure JobReport where
  job : Job
  age : Nat
  queuePosition : Option Nat
  order : Option (Crane × Word16)
  waits : Option Word32
  deriving DecidableEq, Repr

/-- A QUEUED crane's place: under evaluation, or its place in the queue from 1 (R102, R148). -/
inductive QueuePlace where
  | underEvaluation
  | standing (place : Nat)
  deriving DecidableEq, Repr

/-- The items of a QUERY CRANE reply (R148). -/
structure CraneReport where
  ctx : CraneCtx
  span : Span
  queue : Option QueuePlace
  trim : Trim
  silence : Nat
  deriving DecidableEq, Repr

/-- The items of a QUERY AISLE reply (R17). -/
structure AisleReport where
  geometry : Geometry
  policy : Policy
  stride : Nat
  rows : Nat
  first : Nat
  last : Nat
  liveJobs : Nat
  spares : Nat
  sparesInUse : Nat
  nearState : CraneState
  farState : CraneState
  held : Bool
  evaluating : Bool
  deriving DecidableEq, Repr

/-- The items of a QUERY STATUS reply (R188). -/
structure StatusReport where
  flags : List Bool
  enabledFlags : List Bool
  missed : List Bool
  noticesQueued : Nat
  noticesByLevel : List Nat
  evaluating : Option (Crane × Nat)
  queueLength : Nat
  holdCommand : Bool
  holdSilence : Bool
  holdAisle : Vector Bool 8
  record : HoldRecord
  liveJobs : Nat
  pendingJobs : Nat
  orderedJobs : Nat
  activeJobs : Nat
  jobClock : Word32
  durationClock : Word32
  timing : Timing
  hostSilence : Nat
  roundCount : Word16
  linkErrors : Nat
  lineErrors : List Nat
  deriving DecidableEq, Repr

/-- The data of a reply: what the owning rule lists. -/
inductive ReplyData where
  | empty
  /-- the serial of a taken admission (R23, R25) -/
  | serial (n : Word32)
  /-- which limit a FULL admission met: the pool or the station's queue (R22) -/
  | fullPool
  | fullQueue
  /-- the trim as taken (R92) -/
  | trim (n : Nat)
  /-- the window as taken (R153) -/
  | window (n : Nat)
  /-- the lane's next due (R160) -/
  | nextDue (n : Word16)
  /-- the settings as taken (R166) -/
  | timing (t : Timing)
  /-- the eleven flags (R186) -/
  | flags (marks : List Bool)
  /-- the threshold as taken (R187) -/
  | threshold (n : Nat)
  | job (r : JobReport)
  | crane (r : CraneReport)
  | aisle (r : AisleReport)
  | lane (r : Lane)
  | status (r : StatusReport)
  deriving DecidableEq, Repr

/-- A reply: reference, the request's record type, code and data (R178, R193). -/
structure Reply where
  ref : Word16
  kind : Byte
  code : ReplyCode
  data : ReplyData
  deriving DecidableEq, Repr

/-- A frame of the management transmitter (R179). -/
inductive TxFrame where
  | reply (r : Reply)
  | notice (n : Notice)
  deriving DecidableEq, Repr

/-- Which of the two sources the last frame came from (R179). -/
inductive TxSource where
  | reply
  | notice
  deriving DecidableEq, Repr

/-- The state of a receiver (R175), with the bytes it has gathered. -/
inductive RxState where
  | hunt
  | length (first : Option Byte)
  | type (len : Nat)
  | body (len : Nat) (kind : Byte) (got : List Byte)
  | check (kind : Byte) (body : List Byte) (first : Option Byte)
  deriving DecidableEq, Repr

/-- A receiver, with the ms since its last byte (R175). -/
structure Receiver where
  state : RxState
  gap : Nat
  deriving DecidableEq, Repr

/-- The management port (R175-R179). -/
structure Port where
  rx : Receiver
  linkErrors : Nat
  replies : List Reply
  tx : Option TxFrame
  lastSent : TxSource
  lineRate : LineRate
  deriving DecidableEq, Repr

/-- A byte as it stands on a line; `good` is whether its stop bit is good (R175). -/
structure LineByte where
  byte : Byte
  good : Bool
  deriving DecidableEq, Repr

/-- The lines: the crane lines' receivers (R128), and (the model's own) the bytes not yet received and the frames that
have left on each line, oldest first. DESIGN CHOICE (log entry 2). -/
structure Lines where
  craneRx : Vector Receiver 16
  hostIn : List LineByte
  craneIn : Vector (List LineByte) 16
  hostOut : List (List Byte)
  craneOut : Vector (List (List Byte)) 16
  deriving DecidableEq, Repr

/-! ## The whole part -/

/-- Why the machine would stop. The spec gives every command an effect in every state, so there is no reason: the
type has no constructor, and nothing raises a fault (safe: no run ends in one). -/
inductive Fault where
  deriving DecidableEq, Repr

/-- Why a command would have no meaning. -/
inductive Refusal where
  /-- A command the model gives no meaning yet: raised by no arm of `exec` (safe). -/
  | notModelled (mnemonic : String)
  deriving DecidableEq, Repr

/-- The state of the DJ-640 with the queue of the commands that wait for it. -/
structure State where
  pending : List Instr
  lines : Lines
  port : Port
  pool : Pool
  table : List Entry
  spans : SpanUnit
  cost : CostUnit
  engine : Engine
  orders : OrderUnit
  lanes : Vector Lane 8
  sup : Supervision
  notices : NoticeUnit
  deriving DecidableEq, Repr

/-! ## The values after power-on -/

/-- Section 1.2, R5. -/
def Geometry.powerOn : Geometry :=
  { configured := false, bays := 1, levels := 1, doubleDeep := false, nearLevel := 1, farLevel := 1,
    fit := .nearOnly, gap := 1 }

/-- Section 1.3, R8. -/
def Policy.powerOn : Policy :=
  { profileMode := .profileA, windowBayLo := 1, windowBayHi := 1, windowLevelLo := 1, windowLevelHi := 1,
    windowInvert := false, weighting := false, weightingMode := .bothRates, weightingBase := 0, bayGroup := 1,
    levelGroup := 1, dual := false, dualLimit := 20000, yieldPenalty := 5000 }

/-- Section 5.1, R75. -/
def Profile.powerOn : Profile :=
  { kx := 7520, cx := 2400, ky := 24000, cy := 1800, kf := 7000, kd := 3500, ks := 6000 }

/-- R86. -/
def Scoring.powerOn : Scoring :=
  { bias0 := 0, bias1 := 2000, bias2 := 6000, bias3 := 15000, ageGain := 10, ageCap := 3000 }

/-- R91. -/
def Trim.powerOn : Trim := { trim := 1024, auto := false, legs := 0, predicted := 0, actual := 0 }

def CostUnit.powerOn : CostUnit :=
  { geometry := .replicate 8 .powerOn, policy := .replicate 8 .powerOn, weights := [],
    profileA := .powerOn, profileB := .powerOn, scoring := .powerOn, trims := .replicate 16 .powerOn }

/-- R19, R38, R39. -/
def Pool.powerOn : Pool := { jobs := [], serial := 0, watchThreshold := 320, watchEdges := .off }

/-- R57. -/
def SpanUnit.powerOn : SpanUnit := { span := .replicate 16 .absent, pair := .replicate 8 none }

/-- R123. -/
def CraneCtx.powerOn : CraneCtx :=
  { state := .offline, position := none, aboard := .unknown, order := none, timeouts := 0, homeRequest := false,
    starved := false, faultCode := none, stateCause := none, anomalies := 0, lineErrors := 0 }

/-- R149. -/
def OrderUnit.powerOn : OrderUnit := { cranes := .replicate 16 .powerOn, idCounter := 0 }

/-- R122. -/
def Engine.powerOn : Engine := { queue := [], pass := none }

/-- R151. -/
def Lane.powerOn : Lane := { opened := false, nextDue := 0, window := 1, delivered := [], liveJobs := 0 }

/-- R163, R166. -/
def Timing.powerOn : Timing :=
  { code := 1, silenceLimit := 30, acceptLimit := 10, hostLimit := 0, autoRelease := false }

/-- R174. -/
def HoldRecord.powerOn : HoldRecord :=
  { holdCause := .none, holdAisle := none, holdClock := 0, releaseCause := .none, releaseAisle := none,
    releaseClock := 0 }

/-- R163 to R174. -/
def Supervision.powerOn : Supervision :=
  { paceElapsed := 0, timing := .powerOn, jobClock := 0, durationClock := 0, silence := .replicate 16 0,
    pollPointer := 15, roundCount := 0, hostSilence := 0, holdCommand := true, holdSilence := false,
    holdAisle := .replicate 8 false, record := .powerOn }

/-- A class with its default level (R181). -/
def ClassRecord.powerOn (level : Nat) : ClassRecord :=
  { flag := false, missed := false, notice := true, level := level, clearOnSend := true }

/-- R181: the classes in the order of its table. -/
def NoticeUnit.powerOn : NoticeUnit :=
  { classes := #v[.powerOn 1, .powerOn 2, .powerOn 3, .powerOn 1, .powerOn 2, .powerOn 2, .powerOn 3, .powerOn 1,
      .powerOn 0, .powerOn 3, .powerOn 0],
    queue := [] }

/-- R175. -/
def Receiver.powerOn : Receiver := { state := .hunt, gap := 0 }

/-- R175 to R179; the line rate is the strap's. -/
def Port.powerOn (strap : LineRate) : Port :=
  { rx := .powerOn, linkErrors := 0, replies := [], tx := none, lastSent := .notice, lineRate := strap }

def Lines.powerOn : Lines :=
  { craneRx := .replicate 16 .powerOn, hostIn := [], craneIn := .replicate 16 [], hostOut := [],
    craneOut := .replicate 16 [] }

/-- The part after power-on with the given strap (R149 and the power-on values of each block). -/
def State.powerOn (strap : LineRate) : State :=
  { pending := [], lines := .powerOn, port := .powerOn strap, pool := .powerOn, table := [], spans := .powerOn,
    cost := .powerOn, engine := .powerOn, orders := .powerOn, lanes := .replicate 8 .powerOn, sup := .powerOn,
    notices := .powerOn }

/-- The part after power-on. DESIGN CHOICE (log entry 3): the strap selects 115,200 baud. -/
def State.reset : State := State.powerOn .baud115200

end Sys2Proof.Machine
end

