-- ==== Sys2Proof/Machine/Ops.lean ====
section
/-! DEFINITION. Cranes and aisles, and the named reads and writes of the state that every meaning is built from. -/

namespace Sys2Proof.Machine

/-! ## Cranes and aisles (00_scope.md) -/

/-- Cranes 2a and 2a+1 are the cranes of aisle a. -/
def aisleOf (x : Crane) : Aisle := ⟨x.val / 2, by omega⟩

/-- Crane 2a is the near crane, crane 2a+1 the far crane. -/
def endOf (x : Crane) : RailEnd := if x.val % 2 = 0 then .near else .far

/-- The crane that stands at an end of an aisle. -/
def craneAt (a : Aisle) (e : RailEnd) : Crane :=
  match e with
  | .near => ⟨2 * a.val, by omega⟩
  | .far => ⟨2 * a.val + 1, by omega⟩

/-- The other crane of the same aisle. -/
def sibling (x : Crane) : Crane :=
  match endOf x with
  | .near => craneAt (aisleOf x) .far
  | .far => craneAt (aisleOf x) .near

/-- The station a crane serves. -/
def stationOf (x : Crane) : Station := { aisle := aisleOf x, side := endOf x }

/-- The crane that serves a station. -/
def craneOf (st : Station) : Crane := craneAt st.aisle st.side

namespace State

/-! ## Reads -/

def crane (s : State) (x : Crane) : CraneCtx := s.orders.cranes.get x
def spanOf (s : State) (x : Crane) : Span := s.spans.span.get x
def pairOf (s : State) (a : Aisle) : Option YieldPair := s.spans.pair.get a
def geometryOf (s : State) (a : Aisle) : Geometry := s.cost.geometry.get a
def policyOf (s : State) (a : Aisle) : Policy := s.cost.policy.get a
def trimOf (s : State) (x : Crane) : Trim := s.cost.trims.get x
def laneOf (s : State) (l : LaneNo) : Lane := s.lanes.get l
def silenceOf (s : State) (x : Crane) : Nat := s.sup.silence.get x
def aisleHeld (s : State) (a : Aisle) : Bool := s.sup.holdAisle.get a

/-- An enrolled crane is a crane in any state but OFFLINE (R6). -/
def enrolled (s : State) (x : Crane) : Bool := (s.crane x).state != .offline

/-- A crane is held when COMMAND or SILENCE is set, or its aisle's per-aisle hold is (R171). -/
def held (s : State) (x : Crane) : Bool :=
  s.sup.holdCommand || s.sup.holdSilence || s.aisleHeld (aisleOf x)

/-- A pass for the crane is being evaluated (R9). -/
def underEvaluation (s : State) (x : Crane) : Bool :=
  match s.engine.pass with
  | some p => p.crane == x
  | none => false

/-! ## Writes -/

def setCrane (s : State) (x : Crane) (c : CraneCtx) : State :=
  { s with orders := { s.orders with cranes := upd s.orders.cranes x c } }

def modCrane (s : State) (x : Crane) (f : CraneCtx → CraneCtx) : State := s.setCrane x (f (s.crane x))

/-- The crane's order, when it holds one, changed. -/
def modOrder (s : State) (x : Crane) (f : Order → Order) : State :=
  s.modCrane x fun c => { c with order := c.order.map f }

def setCraneState (s : State) (x : Crane) (st : CraneState) : State := s.modCrane x fun c => { c with state := st }

/-- One anomaly of the crane, saturating (R129). -/
def anomaly (s : State) (x : Crane) : State :=
  s.modCrane x fun c => { c with anomalies := satAdd Config.countLimit c.anomalies 1 }

def setSpan (s : State) (x : Crane) (sp : Span) : State :=
  { s with spans := { s.spans with span := upd s.spans.span x sp } }

def setPair (s : State) (a : Aisle) (p : Option YieldPair) : State :=
  { s with spans := { s.spans with pair := upd s.spans.pair a p } }

def setTable (s : State) (t : List Entry) : State := { s with table := t }

def setJobs (s : State) (js : List Job) : State := { s with pool := { s.pool with jobs := js } }

def setLane (s : State) (l : LaneNo) (r : Lane) : State := { s with lanes := upd s.lanes l r }

def setTrimOf (s : State) (x : Crane) (t : Trim) : State :=
  { s with cost := { s.cost with trims := upd s.cost.trims x t } }

def setSilence (s : State) (x : Crane) (n : Nat) : State :=
  { s with sup := { s.sup with silence := upd s.sup.silence x n } }

def setEngine (s : State) (e : Engine) : State := { s with engine := e }

def setPass (s : State) (p : Option Pass) : State := { s with engine := { s.engine with pass := p } }

/-- A frame issued on a crane's line (R128). -/
def emit (s : State) (x : Crane) (frame : List Byte) : State :=
  { s with lines := { s.lines with craneOut := upd s.lines.craneOut x (s.lines.craneOut.get x ++ [frame]) } }

/-- What the notice unit and the management port become. -/
def setNotices (s : State) (p : Port) (u : NoticeUnit) : State := { s with port := p, notices := u }

end State

end Sys2Proof.Machine
end

