-- ==== Sys2Proof/Machine/Layout.lean ====
section
/-! DEFINITION. The byte layouts of chapter 11: numbers, places, the reply header and data, the records sent to a crane,
the notice record, the frame envelope with its check, and the receiver of R175. -/

namespace Sys2Proof.Machine

/-! ## Conventions (R189) -/

def byte1 (n : Nat) : List Byte := [BitVec.ofNat 8 n]

/-- Most significant byte first. -/
def byte2 (n : Nat) : List Byte := [BitVec.ofNat 8 (n / 256), BitVec.ofNat 8 n]

def byte4 (n : Nat) : List Byte := byte2 (n / 65536) ++ byte2 (n % 65536)

def word16Bytes (w : Word16) : List Byte := byte2 w.toNat

def word32Bytes (w : Word32) : List Byte := byte4 w.toNat

def flagByte (b : Bool) : List Byte := byte1 b.toNat

/-- An item that may be absent: a presence mark, then the item when it is present. -/
def optBytes {α : Type} (f : α → List Byte) : Option α → List Byte
  | none => byte1 0
  | some a => byte1 1 ++ f a

/-- A list: a one-byte count, then the members. -/
def listBytes {α : Type} (f : α → List Byte) (l : List α) : List Byte := byte1 l.length ++ l.flatMap f

/-- A set of marks as a number: the mark of class n in bit n. -/
def marksNumber : List Bool → Nat
  | [] => 0
  | b :: rest => b.toNat + 2 * marksNumber rest

def marksBytes (marks : List Bool) : List Byte := byte2 (marksNumber marks)

/-- The two-byte number of two received bytes. -/
def number2 (hi lo : Byte) : Nat := hi.toNat * 256 + lo.toNat

def word16Of (hi lo : Byte) : Word16 := BitVec.ofNat 16 (number2 hi lo)

def word32Of (a b c d : Byte) : Word32 := BitVec.ofNat 32 (number2 a b * 65536 + number2 c d)

/-- A received yes/no byte: 0 no, 1 yes, any other value outside its codes, which R189 has refused MALFORMED (where that stands among
a request's checks: log entry 45). -/
def yesNo (b : Byte) : Option Bool :=
  if b = 0 then some false else if b = 1 then some true else none

/-! ## Places (R191, R192) -/

def slotByte0 (s : Slot) : Nat :=
  s.aisle.val + (match s.side with | .left => 0 | .right => 8) + (match s.depth with | .front => 0 | .rear => 16)

def slotBytes (s : Slot) : List Byte := byte1 (slotByte0 s) ++ byte1 s.bay ++ byte1 s.level ++ byte1 0

def stationBytes (st : Station) : List Byte :=
  byte1 (st.aisle.val + (match st.side with | .near => 32 | .far => 64)) ++ byte1 0 ++ byte1 0 ++ byte1 0

def placeBytes : Place → List Byte
  | .slot s => slotBytes s
  | .station st => stationBytes st
  | .rail a bay level => byte1 (a.val + 96) ++ byte1 bay ++ byte1 level ++ byte1 0

/-- A place received from the host (R192): none for kind 3. Bit 7 of byte 0 and the whole of byte 3 are ignored. -/
def placeOf (b0 b1 b2 _b3 : Byte) : Option Place :=
  let aisle : Aisle := ⟨b0.toNat % 8, Nat.mod_lt _ (by decide)⟩
  match b0.toNat / 32 % 4 with
  | 0 => some (.slot
      { aisle := aisle, side := if b0.toNat / 8 % 2 = 0 then .left else .right, bay := b1.toNat,
        level := b2.toNat, depth := if b0.toNat / 16 % 2 = 0 then .front else .rear })
  | 1 => some (.station { aisle := aisle, side := .near })
  | 2 => some (.station { aisle := aisle, side := .far })
  | _ => none

/-- The places of a list of n four-byte places, none when the bytes are not just those or a kind is 3. -/
def placesOf : Nat → List Byte → Option (List Place)
  | 0, [] => some []
  | n + 1, b0 :: b1 :: b2 :: b3 :: rest =>
      match placeOf b0 b1 b2 b3, placesOf n rest with
      | some p, some ps => some (p :: ps)
      | _, _ => none
  | _, _ => none

/-! ## Codes (R189) -/

def craneStateCode : CraneState → Nat
  | .offline => 0 | .syncing => 1 | .idle => 2 | .queued => 3 | .awaitYield => 4 | .ordered => 5 | .running => 6
  | .yielding => 7 | .homing => 8 | .faulted => 9 | .lost => 10

def stateCauseCode : StateCause → Nat
  | .fault => 0 | .acceptTimeout => 1 | .loadAboard => 2 | .unsettled => 3 | .silence => 4 | .cleared => 5
  | .reconciled => 6 | .orderLost => 7 | .withdrawn => 8

def replyCodeNumber : ReplyCode → Nat
  | .ok => 0 | .malformed => 1 | .badPlace => 2 | .unknownTag => 3 | .unknownPlace => 4 | .duplicateTag => 5
  | .palletBusy => 6 | .slotReserved => 7 | .full => 8 | .laneClosed => 9 | .staleSequence => 10
  | .duplicateSequence => 11 | .inProgress => 12 | .inUse => 13 | .wrongState => 14 | .busy => 15 | .range => 16

def aboardCode : Aboard → Nat
  | .no => 0 | .yes => 1 | .unknown => 2

def actionCode : Action → Nat
  | .stay => 0 | .pick => 1 | .drop => 2

def orderKindCode : OrderKind → Nat
  | .job => 0 | .yield => 1 | .home => 2

def orderStateCode : OrderState → Nat
  | .awaitYield => 0 | .sent => 1 | .revoking => 2 | .running => 3 | .suspended => 4

def jobStateCode : JobState → Nat
  | .pending => 0 | .ordered => 1 | .active => 2

def craneFitCode : CraneFit → Nat
  | .nearOnly => 0 | .farOnly => 1 | .both => 2

def profileModeCode : ProfileMode → Nat
  | .profileA => 0 | .profileB => 1 | .byMark => 2 | .byWindow => 3

def weightingModeCode : WeightingMode → Nat
  | .bothRates => 0 | .horizontal => 1 | .vertical => 2 | .forkTime => 3

def holdCauseCode : HoldCause → Nat
  | .none => 0 | .command => 1 | .silence => 2 | .aisle => 3

def releaseCauseCode : ReleaseCause → Nat
  | .none => 0 | .command => 1 | .hostTraffic => 2

/-! ## Records of the state, in the order of their tables -/

def spanBytes : Span → List Byte
  | .absent => byte1 0 ++ byte1 0 ++ byte1 0
  | .unknown => byte1 1 ++ byte1 0 ++ byte1 0
  | .bays lo hi => byte1 2 ++ byte1 lo ++ byte1 hi

def positionBytes : Option Position → List Byte
  | none => byte1 0xFF ++ byte1 0xFF
  | some p => byte1 p.bay ++ byte1 p.level

def geometryBytes (g : Geometry) : List Byte :=
  flagByte g.configured ++ byte1 g.bays ++ byte1 g.levels ++ flagByte g.doubleDeep ++ byte1 g.nearLevel
    ++ byte1 g.farLevel ++ byte1 (craneFitCode g.fit) ++ byte1 g.gap

def policyBytes (p : Policy) : List Byte :=
  byte1 (profileModeCode p.profileMode) ++ byte1 p.windowBayLo ++ byte1 p.windowBayHi ++ byte1 p.windowLevelLo
    ++ byte1 p.windowLevelHi ++ flagByte p.windowInvert ++ flagByte p.weighting
    ++ byte1 (weightingModeCode p.weightingMode) ++ byte2 p.weightingBase ++ byte1 p.bayGroup ++ byte1 p.levelGroup
    ++ flagByte p.dual ++ byte2 p.dualLimit ++ byte2 p.yieldPenalty

def timingBytes (t : Timing) : List Byte :=
  byte1 t.code.val ++ byte1 t.silenceLimit ++ byte1 t.acceptLimit ++ byte1 t.hostLimit ++ flagByte t.autoRelease

/-- The hold causes in two bytes: COMMAND in bit 0, SILENCE in bit 1, aisles 0 to 7 in bits 2 to 9 (R195). -/
def holdCauseBytes (command silence : Bool) (aisles : Vector Bool 8) : List Byte :=
  marksBytes (command :: silence :: aisles.toList)

/-- An aisle of the hold record: FFH when absent (R195). -/
def aisleByte : Option Aisle → List Byte
  | none => byte1 0xFF
  | some a => byte1 a.val

def holdRecordBytes (r : HoldRecord) : List Byte :=
  byte1 (holdCauseCode r.holdCause) ++ aisleByte r.holdAisle ++ word32Bytes r.holdClock
    ++ byte1 (releaseCauseCode r.releaseCause) ++ aisleByte r.releaseAisle ++ word32Bytes r.releaseClock

def laneRefBytes (l : LaneNo × Word16) : List Byte := byte1 l.1.val ++ word16Bytes l.2

/-- A job record in the order of the table of 2.1: the common fields, then those of its kind. A field of the other kind is not
sent, and has no presence mark: DESIGN CHOICE, log entry 20. -/
def jobBytes (j : Job) : List Byte :=
  let retrieve : Bool := match j.kind with | .store .. => false | .retrieve .. => true
  word32Bytes j.serial ++ word32Bytes j.tag ++ flagByte retrieve ++ word32Bytes j.pallet ++ byte1 j.cls.val
    ++ word32Bytes j.admittedAt ++ byte1 (jobStateCode j.state) ++ byte1 j.declines
    ++ match j.kind with
      | .store st cands chosen stalled =>
          stationBytes st ++ listBytes slotBytes cands ++ optBytes slotBytes chosen ++ flagByte stalled
      | .retrieve slot blocker lane =>
          slotBytes slot ++ optBytes word32Bytes blocker ++ optBytes laneRefBytes lane

def legBytes (l : Leg) : List Byte :=
  placeBytes l.target ++ byte1 (actionCode l.action) ++ byte2 l.legMs ++ byte2 l.untrimmed ++ flagByte l.done
    ++ optBytes word32Bytes l.measured ++ flagByte l.valid

/-- The order items of R148. -/
def orderBytes (o : Order) : List Byte :=
  word16Bytes o.id ++ byte1 (orderKindCode o.kind) ++ byte1 (orderStateCode o.state) ++ byte1 o.nextLeg
    ++ flagByte o.lateAccept ++ listBytes legBytes o.legs

/-- A crane context in the order of the table of R123. The current order is sent as its id behind a presence mark: DESIGN CHOICE,
log entry 20. -/
def contextBytes (c : CraneCtx) : List Byte :=
  byte1 (craneStateCode c.state) ++ positionBytes c.position ++ byte1 (aboardCode c.aboard)
    ++ optBytes (fun o => word16Bytes o.id) c.order ++ byte1 c.timeouts ++ flagByte c.homeRequest
    ++ flagByte c.starved ++ optBytes (fun b => [b]) c.faultCode
    ++ optBytes (fun x => byte1 (stateCauseCode x)) c.stateCause ++ byte2 c.anomalies ++ byte2 c.lineErrors

def trimBytes (t : Trim) : List Byte :=
  byte2 t.trim ++ flagByte t.auto ++ byte1 t.legs ++ byte4 t.predicted ++ byte4 t.actual

/-- DESIGN CHOICE (log entry 20): one byte, 0 for under evaluation, else the place. -/
def queuePlaceBytes : QueuePlace → List Byte
  | .underEvaluation => byte1 0
  | .standing n => byte1 n

/-- The waiting item of R37 under the presence rule of R189: absent for a STORE job (DEDUCED, log entry 20); for a RETRIEVE job
the yes/no byte and then, behind a presence mark of its own, the tag waited on. -/
def waitingBytes (j : Job) (waits : Option Word32) : List Byte :=
  match j.kind with
  | .store .. => flagByte false
  | .retrieve .. => flagByte true ++ flagByte waits.isSome ++ optBytes word32Bytes waits

/-! ## Reply data (R193 and the owning rules) -/

/-- The data of a reply. DESIGN CHOICE (log entry 20) for the items whose layout no rule gives: the crane and order id of a job,
the engine's state, and the four notice counts by level and the sixteen line error counts, which are sent as runs of fixed length
without a list's count, level 0 and crane 0 first. -/
def replyDataBytes : ReplyData → List Byte
  | .empty => []
  | .serial n => word32Bytes n
  | .fullPool => byte1 0
  | .fullQueue => byte1 1
  | .trim n => byte2 n
  | .window n => byte1 n
  | .nextDue n => word16Bytes n
  | .timing t => timingBytes t
  | .flags m => marksBytes m
  | .threshold n => byte2 n
  | .job r =>
      jobBytes r.job ++ byte2 r.age ++ optBytes byte1 r.queuePosition
        ++ optBytes (fun (p : Crane × Word16) => byte1 p.1.val ++ word16Bytes p.2) r.order
        ++ waitingBytes r.job r.waits
  | .crane r =>
      contextBytes r.ctx ++ spanBytes r.span ++ optBytes queuePlaceBytes r.queue ++ optBytes orderBytes r.ctx.order
        ++ trimBytes r.trim ++ byte1 r.silence
  | .aisle r =>
      geometryBytes r.geometry ++ policyBytes r.policy ++ byte1 r.stride ++ byte1 r.rows ++ byte2 r.first
        ++ byte2 r.last ++ byte2 r.liveJobs ++ byte1 r.spares ++ byte1 r.sparesInUse
        ++ byte1 (craneStateCode r.nearState) ++ byte1 (craneStateCode r.farState) ++ flagByte r.held
        ++ flagByte r.evaluating
  | .lane r =>
      flagByte (!r.opened) ++ word16Bytes r.nextDue ++ byte1 r.window ++ byte2 r.liveJobs
        ++ listBytes word16Bytes r.delivered
  | .status r =>
      marksBytes r.flags ++ marksBytes r.enabledFlags ++ marksBytes r.missed ++ byte1 r.noticesQueued
        ++ r.noticesByLevel.flatMap byte1 ++ flagByte r.evaluating.isSome
        ++ optBytes (fun (p : Crane × Nat) => byte1 p.1.val ++ byte1 p.2) r.evaluating ++ byte1 r.queueLength
        ++ holdCauseBytes r.holdCommand r.holdSilence r.holdAisle ++ holdRecordBytes r.record ++ byte2 r.liveJobs
        ++ byte2 r.pendingJobs ++ byte2 r.orderedJobs ++ byte2 r.activeJobs ++ word32Bytes r.jobClock
        ++ word32Bytes r.durationClock ++ timingBytes r.timing ++ byte1 r.hostSilence ++ word16Bytes r.roundCount
        ++ byte2 r.linkErrors ++ r.lineErrors.flatMap byte2

/-- The body of a reply frame (R193). -/
def replyBody (r : Reply) : List Byte :=
  word16Bytes r.ref ++ [r.kind] ++ byte1 (replyCodeNumber r.code) ++ replyDataBytes r.data

/-! ## Notices (R195) -/

/-- The class of an event, numbered as in the table of R181. -/
def eventClass : Event → Fin 11
  | .jobDone .. => 0
  | .jobFailed .. => 1
  | .jobStranded .. => 2
  | .relocated .. => 3
  | .storeStalled .. => 4
  | .sparesEmpty .. => 5
  | .craneState .. => 6
  | .laneAdvanced .. => 7
  | .poolLevel .. => 8
  | .holdChange .. => 9
  | .trimUpdated .. => 10

def eventBytes : Event → List Byte
  | .jobDone tag retrieve slot => word32Bytes tag ++ flagByte retrieve ++ slotBytes slot
  | .jobFailed tag reason => word32Bytes tag ++ [reason]
  | .jobStranded tag x => word32Bytes tag ++ byte1 x.val
  | .relocated pallet src dst => word32Bytes pallet ++ slotBytes src ++ slotBytes dst
  | .storeStalled tag st => word32Bytes tag ++ stationBytes st
  | .sparesEmpty a => byte1 a.val
  | .craneState x st cause => byte1 x.val ++ byte1 (craneStateCode st) ++ byte1 (stateCauseCode cause)
  | .laneAdvanced l n => byte1 l.val ++ word16Bytes n
  | .poolLevel n dir => byte2 n ++ byte1 (match dir with | .rising => 0 | .falling => 1)
  | .holdChange command silence aisles r => holdCauseBytes command silence aisles ++ holdRecordBytes r
  | .trimUpdated x n => byte1 x.val ++ byte2 n

/-- The body of a notice frame (R195). -/
def noticeBody (n : Notice) : List Byte :=
  byte1 (eventClass n.event).val ++ byte1 n.level ++ word32Bytes n.stamp ++ eventBytes n.event

/-! ## The frame envelope and its check (R190) -/

/-- One bit of the check: polynomial 1021H, most significant bit first. -/
def crcBit (c : Word16) : Word16 := if c.msb then (c <<< 1) ^^^ 0x1021#16 else c <<< 1

/-- One byte of the check. -/
def crcByte (c : Word16) (b : Byte) : Word16 :=
  crcBit (crcBit (crcBit (crcBit (crcBit (crcBit (crcBit (crcBit (c ^^^ (b.zeroExtend 16 <<< 8)))))))))

/-- The check carried on over bytes, from the value it starts with. -/
def crcFrom (c : Word16) (bytes : List Byte) : Word16 := bytes.foldl crcByte c

/-- The check of a frame: over the length, type and body bytes, from FFFFH. -/
def frameCheck (kind : Byte) (body : List Byte) : Word16 := crcFrom 0xFFFF#16 (byte2 body.length ++ kind :: body)

/-- A frame as it stands on a line. -/
def frameOf (kind : Byte) (body : List Byte) : List Byte :=
  0x5A#8 :: (byte2 body.length ++ kind :: body ++ word16Bytes (frameCheck kind body))

/-- The frame of a reply (record type 70H) or of a notice (71H). -/
def txFrameBytes : TxFrame → List Byte
  | .reply r => frameOf 0x70#8 (replyBody r)
  | .notice n => frameOf 0x71#8 (noticeBody n)

/-! ## The records sent to a crane (R194) -/

def orderFrame (o : Order) : List Byte :=
  frameOf 0x01#8 (word16Bytes o.id ++ byte1 (orderKindCode o.kind)
    ++ listBytes (fun l : Leg => placeBytes l.target ++ byte1 (actionCode l.action)) o.legs)

def revokeFrame (id : Word16) : List Byte := frameOf 0x02#8 (word16Bytes id)

def abortFrame : List Byte := frameOf 0x03#8 [0]

def pollFrame : List Byte := frameOf 0x04#8 [0]

/-! ## The receiver (R175) -/

/-- What a received byte brings about. -/
inductive RxResult where
  | nothing
  | complete (kind : Byte) (body : List Byte)
  | dropped (cause : DropCause)
  deriving DecidableEq, Repr

/-- One byte at a receiver (R175). Overrun is decided when the complete frame is taken (R178). A byte with a bad stop bit in HUNT
is discarded, a 5AH too: DESIGN CHOICE, log entry 41. -/
def rxByte (st : RxState) (b : LineByte) : RxState × RxResult :=
  if b.good then
    match st with
    | .hunt => if b.byte = 0x5A#8 then (.length none, .nothing) else (.hunt, .nothing)
    | .length none => (.length (some b.byte), .nothing)
    | .length (some h) =>
        let n := number2 h b.byte
        if 1 ≤ n ∧ n ≤ 250 then (.type n, .nothing) else (.hunt, .dropped .badLength)
    | .type len => (.body len b.byte [], .nothing)
    | .body len kind got =>
        let got' := got ++ [b.byte]
        if len ≤ got'.length then (.check kind got' none, .nothing) else (.body len kind got', .nothing)
    | .check kind body none => (.check kind body (some b.byte), .nothing)
    | .check kind body (some h) =>
        if word16Of h b.byte = frameCheck kind body then (.hunt, .complete kind body)
        else (.hunt, .dropped .badCheck)
  else
    match st with
    | .hunt => (.hunt, .nothing)
    | _ => (.hunt, .dropped .badStopBit)

/-- Good bytes received one after another; what the last one brings about. -/
def rxBytes (st : RxState) : List Byte → RxState × RxResult
  | [] => (st, .nothing)
  | [b] => rxByte st { byte := b, good := true }
  | b :: rest => rxBytes (rxByte st { byte := b, good := true }).1 rest

end Sys2Proof.Machine
end

