-- ==== Sys2Proof/Machine/Flags.lean ====
section
/-! DEFINITION. Events and their flags, the notice queue, the transmitter and the reply stream (R178, R179, R181 to R184). -/

namespace Sys2Proof.Machine

/-! ## The notice unit -/

/-- What the notice unit keeps for a class. -/
def NoticeUnit.classOf (u : NoticeUnit) (k : Fin 11) : ClassRecord := u.classes.get k

/-- The eleven classes, numbered as in the table of R181. -/
def allClasses : List (Fin 11) := [0, 1, 2, 3, 4, 5, 6, 7, 8, 9, 10]

/-- The record of one class changed. -/
def NoticeUnit.modClass (u : NoticeUnit) (k : Fin 11) (f : ClassRecord → ClassRecord) : NoticeUnit :=
  { u with classes := upd u.classes k (f (u.classOf k)) }

def setFlag (c : ClassRecord) : ClassRecord := { c with flag := true }

def setMissed (c : ClassRecord) : ClassRecord := { c with missed := true }

/-- The missed mark is cleared whenever the flag is (R184). -/
def clearFlag (c : ClassRecord) : ClassRecord := { c with flag := false, missed := false }

/-- The class of a notice. -/
def Notice.cls (n : Notice) : Fin 11 := eventClass n.event

/-- The lowest level queued; 3 bounds every level. -/
def lowestLevel (q : List Notice) : Nat := q.foldl (fun m n => min m n.level) 3

/-- The highest level queued. -/
def highestLevel (q : List Notice) : Nat := q.foldl (fun m n => max m n.level) 0

/-- The youngest notice of a level: the last of the queue with it. -/
def youngestOf (level : Nat) (q : List Notice) : Option Notice := q.reverse.find? (fun n => n.level == level)

/-- The queue without its youngest notice of a level. -/
def withoutYoungest (level : Nat) (q : List Notice) : List Notice :=
  (q.reverse.eraseP (fun n => n.level == level)).reverse

/-- A notice offered to the queue (R182, R183). -/
def NoticeUnit.offer (u : NoticeUnit) (n : Notice) : NoticeUnit :=
  if u.queue.length < Config.noticeQueueSize then { u with queue := u.queue ++ [n] }
  else
    let low := lowestLevel u.queue
    if low < n.level then
      match youngestOf low u.queue with
      | some e => { u with queue := withoutYoungest low u.queue ++ [n] }.modClass e.cls setMissed
      | none => u.modClass n.cls setMissed
    else u.modClass n.cls setMissed

/-- An event reaches the notice unit: the class's flag, then a notice or the missed mark (R181, R182). -/
def NoticeUnit.record (u : NoticeUnit) (e : Event) (clock : Word32) : NoticeUnit :=
  let u1 := u.modClass (eventClass e) setFlag
  let c := u1.classOf (eventClass e)
  if c.notice then u1.offer { level := c.level, stamp := clock, event := e }
  else u1.modClass (eventClass e) setMissed

/-- The notice the queue gives to the transmitter: the oldest of the highest level (R184). -/
def NoticeUnit.next (u : NoticeUnit) : Option Notice :=
  u.queue.find? (fun n => n.level == highestLevel u.queue)

/-- A notice leaves the queue at the start of its transmission, and clear-on-send acts (R184). -/
def NoticeUnit.sent (u : NoticeUnit) (n : Notice) : NoticeUnit :=
  let u1 := { u with queue := u.queue.eraseP (fun m => m.level == n.level) }
  let c := u1.classOf n.cls
  if c.clearOnSend && !(u1.queue.any (fun m => m.cls == n.cls)) && !c.missed then u1.modClass n.cls clearFlag
  else u1

/-! ## The transmitter (R179) -/

/-- The reply at the head of the stream starts. -/
def startReply (p : Port) (r : Reply) : Port :=
  { p with replies := p.replies.tail, tx := some (.reply r), lastSent := .reply }

/-- The notice the queue selected starts. -/
def startNotice (p : Port) (n : Notice) : Port := { p with tx := some (.notice n), lastSent := .notice }

/-- The free transmitter starts a frame when one of its two sources holds one, and alternates when both do. -/
def startTx (p : Port) (u : NoticeUnit) : Port × NoticeUnit :=
  match p.tx with
  | some _ => (p, u)
  | none =>
    match p.replies.head?, u.next with
    | none, none => (p, u)
    | some r, none => (startReply p r, u)
    | none, some n => (startNotice p n, u.sent n)
    | some r, some n =>
      match p.lastSent with
      | .notice => (startReply p r, u)
      | .reply => (startNotice p n, u.sent n)

namespace State

/-- The transmitter acts on what it holds. -/
def transmit (s : State) : State :=
  s.setNotices (startTx s.port s.notices).1 (startTx s.port s.notices).2

/-- A block raises an event (R181, R182); a frame starts at once when it becomes ready while the transmitter is free
(R179, log entry 8). -/
def raise (s : State) (e : Event) : State :=
  (s.setNotices s.port (s.notices.record e s.sup.jobClock)).transmit

/-- A reply joins the tail of the reply stream (R178). -/
def pushReply (s : State) (r : Reply) : State :=
  (s.setNotices { s.port with replies := s.port.replies ++ [r] } s.notices).transmit

/-- A frame of the management line is dropped: the link error count (R176) and the receiver (R175). -/
def dropFrame (s : State) : State :=
  { s with port := { s.port with rx := .powerOn, linkErrors := satAdd Config.countLimit s.port.linkErrors 1 } }

/-- A HOLD CHANGE event with the causes and the record as they stand (R174). -/
def holdChanged (s : State) : State :=
  s.raise (.holdChange s.sup.holdCommand s.sup.holdSilence s.sup.holdAisle s.sup.record)

/-- A CRANE STATE event with the crane's state as it stands; the cause is kept (R144). -/
def craneStateEvent (s : State) (x : Crane) (cause : StateCause) : State :=
  (s.modCrane x fun c => { c with stateCause := some cause }).raise (.craneState x (s.crane x).state cause)

end State

end Sys2Proof.Machine
end

