-- ==== Sys2Proof/Machine/Cost.lean ====
section
/-! DEFINITION. Places and the geometry (R2 to R4), the weighting table (R10 to R14), and the time of a leg and of a
route (R15, R16, R78 to R84). -/

namespace Sys2Proof.Machine

/-! ## Places (chapter 1) -/

/-- The partner of a slot: the other depth of the same aisle, side, bay and level (R3). -/
def Slot.partner (s : Slot) : Slot :=
  { s with depth := match s.depth with | .front => .rear | .rear => .front }

/-- The rail bay of a station (R2). -/
def stationBay (g : Geometry) (e : RailEnd) : Nat :=
  match e with
  | .near => 0
  | .far => g.bays + 1

def stationLevel (g : Geometry) (e : RailEnd) : Nat :=
  match e with
  | .near => g.nearLevel
  | .far => g.farLevel

/-- Whether the crane fit places a crane at an end (R4). -/
def CraneFit.fits (f : CraneFit) (e : RailEnd) : Bool :=
  match f, e with
  | .nearOnly, .near => true
  | .nearOnly, .far => false
  | .farOnly, .near => false
  | .farOnly, .far => true
  | .both, _ => true

namespace State

/-- A slot address is in the geometry (R3). -/
def inGeometry (s : State) (a : Slot) : Bool :=
  let g := s.geometryOf a.aisle
  g.configured && decide (1 ≤ a.bay) && decide (a.bay ≤ g.bays) && decide (1 ≤ a.level) && decide (a.level ≤ g.levels)
    && (match a.depth with | .front => true | .rear => g.doubleDeep)

/-- A station is served (R4). -/
def served (s : State) (st : Station) : Bool :=
  let g := s.geometryOf st.aisle
  g.configured && g.fit.fits st.side

/-- The rail bay and level of a place (R2). -/
def resolve (s : State) (p : Place) : Position :=
  match p with
  | .slot a => { bay := a.bay, level := a.level }
  | .station st =>
      { bay := stationBay (s.geometryOf st.aisle) st.side, level := stationLevel (s.geometryOf st.aisle) st.side }
  | .rail _ bay level => { bay := bay, level := level }

end State

/-! ## The weighting table -/

/-- What every entry holds after power-on, and what an index that is not listed holds (R11). -/
def Weight.default : Weight := { mark := false, factor := 1024 }

/-- Reading one entry. -/
def weightAt : List (Nat × Weight) → Nat → Weight
  | [], _ => Weight.default
  | (j, w) :: rest, i => if j = i then w else weightAt rest i

/-- Writing one entry; the entry is not listed when it holds the power-on value. -/
def weightSet : List (Nat × Weight) → Nat → Weight → List (Nat × Weight)
  | [], i, w => if w = Weight.default then [] else [(i, w)]
  | (j, v) :: rest, i, w =>
      if j < i then (j, v) :: weightSet rest i w
      else if j = i then (if w = Weight.default then rest else (i, w) :: rest)
      else if w = Weight.default then (j, v) :: rest
      else (i, w) :: (j, v) :: rest

/-- Writing a run to consecutive entries (R13). -/
def weightRun : List (Nat × Weight) → Nat → List Weight → List (Nat × Weight)
  | t, _, [] => t
  | t, i, w :: ws => weightRun (weightSet t i w) (i + 1) ws

/-- The canonical form of the table: indexes rise and stay below 2048, and no listed entry holds the power-on value. -/
def Weights.wf (t : List (Nat × Weight)) : Bool :=
  decide (t.Pairwise (fun a b => a.1 < b.1)) && t.all (fun e => decide (e.1 < Config.weightEntries))
    && t.all (fun e => e.2 != Weight.default)

/-- Stride and rows of a weighting range (R10). -/
def stride (p : Policy) (g : Geometry) : Nat := ceilDiv g.bays p.bayGroup

def rows (p : Policy) (g : Geometry) : Nat := ceilDiv g.levels p.levelGroup

/-- The last index of a weighting range is base + rows × stride − 1; this is one more (R10). -/
def rangeEnd (p : Policy) (g : Geometry) : Nat := p.weightingBase + rows p g * stride p g

/-- The entry index of a cell (R12). -/
def cellIndex (p : Policy) (g : Geometry) (bay level : Nat) : Nat :=
  p.weightingBase + (level - 1) / p.levelGroup * stride p g + (bay - 1) / p.bayGroup

namespace State

/-- The mark and factor of a cell: mark 0 and factor 1024 when weighting is disabled (R11, R12). -/
def cellWeight (s : State) (a : Aisle) (bay level : Nat) : Weight :=
  if (s.policyOf a).weighting then
    weightAt s.cost.weights (cellIndex (s.policyOf a) (s.geometryOf a) bay level)
  else Weight.default

/-- A cell is closed (R14). -/
def closed (s : State) (a : Slot) : Bool :=
  let p := s.policyOf a.aisle
  p.weighting && (p.profileMode != .byMark) && (s.cellWeight a.aisle a.bay a.level).mark

end State

/-! ## The time of a leg (chapter 5) -/

/-- The values a computation uses: the two profiles and a trim (R77, R85). -/
structure Values where
  profileA : Profile
  profileB : Profile
  trim : Nat

def Latch.values (l : Latch) : Values := { profileA := l.profileA, profileB := l.profileB, trim := l.trim }

/-- Where a leg starts: the crane's position, or the target of the leg before it (R15, R78). -/
inductive Origin where
  | position (p : Position)
  | place (p : Place)

/-- The governing cell of a leg: its destination's when that is a slot, else its origin's when that is one (R15). -/
def governing (o : Origin) (target : Place) : Option (Nat × Nat) :=
  match target, o with
  | .slot t, _ => some (t.bay, t.level)
  | _, .place (.slot t) => some (t.bay, t.level)
  | _, _ => none

/-- A cell is inside the window of a policy (R16). -/
def insideWindow (p : Policy) (bay level : Nat) : Bool :=
  decide (p.windowBayLo ≤ bay) && decide (bay ≤ p.windowBayHi) && decide (p.windowLevelLo ≤ level)
    && decide (level ≤ p.windowLevelHi)

/-- A rate or fork time scaled by a factor (R79, R81). -/
def scaled (v w : Nat) : Nat := roundHalfUp (v * w) 1024

/-- The effective rates of a leg (R79). -/
def effectiveRates (m : WeightingMode) (p : Profile) (w : Nat) : Nat × Nat :=
  match m with
  | .bothRates => (scaled p.kx w, scaled p.ky w)
  | .horizontal => (scaled p.kx w, p.ky)
  | .vertical => (p.kx, scaled p.ky w)
  | .forkTime => (p.kx, p.ky)

/-- The time of one axis: nothing when it does not move, else the overhead and the rate times the distance (R80). -/
def axisTime (overhead rate distance : Nat) : Nat := if distance = 0 then 0 else 16 * overhead + distance * rate

/-- The fork time of a leg in 1/16 ms (R81). -/
def forkTime (m : WeightingMode) (p : Profile) (w : Nat) (target : Place) (action : Action) : Nat :=
  match action with
  | .stay => 0
  | .pick | .drop =>
    match target with
    | .slot t =>
        let tf := match t.depth with
          | .front => 16 * p.kf
          | .rear => 16 * (p.kf + p.kd)
        match m with
        | .forkTime => scaled tf w
        | _ => tf
    | .station _ => 16 * p.ks
    | .rail .. => 0

/-- The untrimmed prediction of a raw time (R82). -/
def untrimmedOf (raw : Nat) : Nat := min Config.timeLimit (ceilDiv raw 16)

/-- The leg time of a raw time with a trim (R83). -/
def legMsOf (raw trim : Nat) : Nat := min Config.timeLimit (ceilDiv (roundHalfUp (raw * trim) 1024) 16)

namespace State

/-- The profile of a leg (R16). -/
def legProfile (s : State) (v : Values) (a : Aisle) (cell : Option (Nat × Nat)) : Profile :=
  let p := s.policyOf a
  match p.profileMode, cell with
  | .profileA, _ => v.profileA
  | .profileB, _ => v.profileB
  | .byMark, some (bay, level) => if (s.cellWeight a bay level).mark then v.profileB else v.profileA
  | .byMark, none => v.profileA
  | .byWindow, some (bay, level) => if insideWindow p bay level != p.windowInvert then v.profileB else v.profileA
  | .byWindow, none => v.profileA

/-- The factor w of a leg (R16). -/
def legFactor (s : State) (a : Aisle) (cell : Option (Nat × Nat)) : Nat :=
  match cell with
  | some (bay, level) => (s.cellWeight a bay level).factor
  | none => 1024

/-- Where an origin is. -/
def originAt (s : State) (o : Origin) : Position :=
  match o with
  | .position p => p
  | .place p => s.resolve p

/-- The raw time of a leg in 1/16 ms (R78 to R81). -/
def legRaw (s : State) (v : Values) (a : Aisle) (o : Origin) (target : Place) (action : Action) : Nat :=
  let cell := governing o target
  let w := s.legFactor a cell
  let p := s.legProfile v a cell
  let m := (s.policyOf a).weightingMode
  let rates := effectiveRates m p w
  let src := s.originAt o
  let dst := s.resolve target
  max (axisTime p.cx rates.1 (absDiff src.bay dst.bay)) (axisTime p.cy rates.2 (absDiff src.level dst.level))
    + forkTime m p w target action

/-- A leg of an order or a result, not done, with its two predictions (R85, R130). -/
def makeLeg (s : State) (v : Values) (a : Aisle) (o : Origin) (target : Place) (action : Action) : Leg :=
  let raw := s.legRaw v a o target action
  { target := target, action := action, legMs := legMsOf raw v.trim, untrimmed := untrimmedOf raw, done := false,
    measured := none, valid := true }

/-- The legs of a route, each starting where the one before it ends. -/
def makeLegs (s : State) (v : Values) (a : Aisle) : Origin → List (Place × Action) → List Leg
  | _, [] => []
  | o, (target, action) :: rest => s.makeLeg v a o target action :: s.makeLegs v a (.place target) rest

end State

/-- The route time of a list of legs: their leg times summed leg by leg, saturating (R84). -/
def routeMs (legs : List Leg) : Nat := legs.foldl (fun t l => satAdd Config.timeLimit t l.legMs) 0

/-- The bias of a class (R86). -/
def Scoring.bias (s : Scoring) (cls : Fin 4) : Nat :=
  match cls with
  | 0 => s.bias0
  | 1 => s.bias1
  | 2 => s.bias2
  | 3 => s.bias3

/-- An age in pace intervals (R33, R37). -/
def ageOf (clock admittedAt : Word32) : Nat := min 65535 (clock - admittedAt).toNat

/-- The score of a retrieve (R88). -/
def scoreOf (s : Scoring) (cls : Fin 4) (age route penalty : Nat) : Nat :=
  min Config.timeLimit (route + s.bias cls + penalty - min age s.ageCap * s.ageGain)

end Sys2Proof.Machine
end

