-- ==== Sys2Proof/Machine/Table.lean ====
section
/-! DEFINITION. The reservation table and the relocation spares (R40 to R55), and the job pool's lists (R19 to R21, R31). -/

namespace Sys2Proof.Machine

/-! ## The table -/

/-- The job that owns an entry, if a job does. -/
def Use.owner : Use → Option Word32
  | .retrieveSource t => some t
  | .blockerSource t => some t
  | .storeDest t => some t
  | .spareFree => none
  | .spareInUse t => some t

/-- SPARE FREE or SPARE IN USE: the entry of a slot on a spare list (R42). -/
def Use.isSpare : Use → Bool
  | .spareFree => true
  | .spareInUse _ => true
  | _ => false

def Use.isSpareInUse : Use → Bool
  | .spareInUse _ => true
  | _ => false

/-- The use of a slot's entry (R40). -/
def useAt (t : List Entry) (a : Slot) : Option Use := (t.find? (fun e => e.slot == a)).map (·.use)

/-- A new entry, named by its asker only for a slot without one (R40). -/
def addEntry (t : List Entry) (a : Slot) (u : Use) : List Entry := t ++ [{ slot := a, use := u }]

def dropSlot (t : List Entry) (a : Slot) : List Entry := t.filter (fun e => e.slot != a)

/-- The entries of one use removed. -/
def dropUse (t : List Entry) (u : Use) : List Entry := t.filter (fun e => e.use != u)

/-- Every entry a job owns removed (R53). -/
def dropOwner (t : List Entry) (tag : Word32) : List Entry := t.filter (fun e => e.use.owner != some tag)

/-- A change of use keeps the entry and its place (R40, R42). -/
def changeUse (t : List Entry) (old new : Use) : List Entry :=
  t.map (fun e => if e.use = old then { e with use := new } else e)

/-- SPARE FREE at a slot becomes SPARE IN USE of a job, in its place on the list (R49). -/
def claimSpare (t : List Entry) (a : Slot) (tag : Word32) : List Entry :=
  t.map (fun e => if e.slot = a then { e with use := .spareInUse tag } else e)

/-- The entries of the slots on an aisle's spare list, in the list's order (R42). -/
def spareEntries (t : List Entry) (a : Aisle) : List Entry := t.filter (fun e => e.use.isSpare && e.slot.aisle == a)

/-- An aisle's spare list (R42): a view of the table, in which a change of use keeps an entry's place. -/
def Table.spareList (t : List Entry) (a : Aisle) : List Slot := (spareEntries t a).map (·.slot)

/-- The entries of a dispatch reverted for the jobs of an order that did not start (R52). -/
def revertStore (t : List Entry) (tag : Word32) : List Entry := dropUse t (.storeDest tag)

def revertRetrieve (t : List Entry) (tag : Word32) : List Entry :=
  changeUse (dropUse t (.blockerSource tag)) (.spareInUse tag) .spareFree

/-! ## The pool -/

/-- The station of a STORE job. -/
def Job.station? (j : Job) : Option Station :=
  match j.kind with
  | .store st .. => some st
  | .retrieve .. => none

/-- The slot of a RETRIEVE job. -/
def Job.slot? (j : Job) : Option Slot :=
  match j.kind with
  | .store .. => none
  | .retrieve slot .. => some slot

/-- The blocker pallet of a RETRIEVE job. -/
def Job.blocker? (j : Job) : Option Word32 :=
  match j.kind with
  | .store .. => none
  | .retrieve _ blocker _ => blocker

/-- The lane reference of a RETRIEVE job. -/
def Job.lane? (j : Job) : Option (LaneNo × Word16) :=
  match j.kind with
  | .store .. => none
  | .retrieve _ _ lane => lane

def Job.candidates (j : Job) : List Slot :=
  match j.kind with
  | .store _ cands .. => cands
  | .retrieve .. => []

/-- The chosen slot of a STORE job. -/
def Job.chosen? (j : Job) : Option Slot :=
  match j.kind with
  | .store _ _ chosen _ => chosen
  | .retrieve .. => none

def Job.stalled (j : Job) : Bool :=
  match j.kind with
  | .store _ _ _ stalled => stalled
  | .retrieve .. => false

def Job.isRetrieve (j : Job) : Bool :=
  match j.kind with
  | .store .. => false
  | .retrieve .. => true

/-- The aisle a live job is of (R6). -/
def Job.aisle (j : Job) : Aisle :=
  match j.kind with
  | .store st .. => st.aisle
  | .retrieve slot .. => slot.aisle

def Job.setChosen (j : Job) (c : Option Slot) : Job :=
  match j.kind with
  | .store st cands _ stalled => { j with kind := .store st cands c stalled }
  | .retrieve .. => j

def Job.setStalled (j : Job) (b : Bool) : Job :=
  match j.kind with
  | .store st cands chosen _ => { j with kind := .store st cands chosen b }
  | .retrieve .. => j

def Job.setCandidates (j : Job) (c : List Slot) : Job :=
  match j.kind with
  | .store st _ chosen stalled => { j with kind := .store st c chosen stalled }
  | .retrieve .. => j

/-- The blocker pallet cleared when it is this pallet (R32). -/
def Job.clearBlocker (pallet : Word32) (j : Job) : Job :=
  match j.kind with
  | .store .. => j
  | .retrieve slot blocker lane =>
      if blocker = some pallet then { j with kind := .retrieve slot none lane } else j

/-- The live job with a tag (R20). -/
def Pool.find (p : Pool) (tag : Word32) : Option Job := p.jobs.find? (fun j => j.tag == tag)

/-- A station's inbound queue, its head first: the station's STORE jobs in admission order (R21). -/
def Pool.stationQueue (p : Pool) (st : Station) : List Job := p.jobs.filter (fun j => j.station? == some st)

/-- The job changed wherever its tag stands. -/
def modJob (js : List Job) (tag : Word32) (f : Job → Job) : List Job :=
  js.map (fun j => if j.tag = tag then f j else j)

/-- The job a RETRIEVE job waits on: another live RETRIEVE job for its blocker pallet (R31). -/
def Pool.waitsOn (p : Pool) (j : Job) : Option Job :=
  match j.blocker? with
  | none => none
  | some b => p.jobs.find? (fun k => k.isRetrieve && k.pallet == b && k.tag != j.tag)

/-- The live job that names a lane and sequence (R24, R160). -/
def Pool.holder (p : Pool) (l : LaneNo) (d : Word16) : Option Job := p.jobs.find? (fun j => j.lane? == some (l, d))

namespace State

def modJobOf (s : State) (tag : Word32) (f : Job → Job) : State := s.setJobs (modJob s.pool.jobs tag f)

/-- The use of the entry of a slot's partner; in a single-deep aisle there is none (R3). -/
def partnerUse (s : State) (a : Slot) : Option Use :=
  if (s.geometryOf a.aisle).doubleDeep then useAt s.table a.partner else none

/-- A candidate slot is eligible as a store destination (R43). -/
def storeEligible (s : State) (a : Slot) : Bool :=
  (useAt s.table a).isNone && !s.closed a
    && (match a.depth with
        | .rear => (s.partnerUse a).isNone
        | .front =>
          match s.partnerUse a with
          | some (.retrieveSource _) => false
          | some (.storeDest _) => false
          | some (.spareInUse _) => false
          | _ => true)

/-- A RETRIEVE job is eligible on the partner rule (R44). -/
def partnerEligible (s : State) (j : Job) : Bool :=
  match j.slot? with
  | none => true
  | some a =>
    match a.depth, j.blocker? with
    | .rear, some _ => (s.partnerUse a).isNone
    | _, _ => true

/-- A spare is usable as a relocation destination, beside the store slot of a dual route (R45). -/
def spareUsable (s : State) (a : Slot) (store : Option Slot) : Bool :=
  (useAt s.table a == some .spareFree) && !s.closed a && (s.partnerUse a).isNone && (store != some a.partner)

/-- The relocation spare of a blocker's FRONT slot: the usable spare with the least leg time; the earlier on the list
wins a tie (R46). -/
def bestSpare (s : State) (v : Values) (front : Slot) (store : Option Slot) : Option Slot :=
  let legTime (x : Slot) : Nat := (s.makeLeg v front.aisle (.place (.slot front)) (.slot x) .drop).legMs
  ((Table.spareList s.table front.aisle).filter (fun x => s.spareUsable x store)).foldl
    (fun best x =>
      match best with
      | none => some x
      | some b => if legTime x < legTime b then some x else some b) none

/-- A retrieve may leave on its lane (R156). -/
def laneEligible (s : State) (j : Job) : Bool :=
  match j.lane? with
  | none => true
  | some (l, d) => (s.laneOf l).opened && decide (ahead d (s.laneOf l).nextDue < (s.laneOf l).window)

end State

end Sys2Proof.Machine
end

