-- ==== Sys2Proof/Machine/Spans.lean ====
section
/-! DEFINITION. Rail spans: the span of a route, separation, whether a route can run, and taking a reported position
(R57 to R61, R68). -/

namespace Sys2Proof.Machine

/-- The smallest interval that contains a bay and a list of bays (R58). -/
def interval (b : Nat) (bays : List Nat) : Nat × Nat := (bays.foldl min b, bays.foldl max b)

/-- A span as it is tested: UNKNOWN is the whole rail (R59). -/
def testedSpan (g : Geometry) (sp : Span) : Option (Nat × Nat) :=
  match sp with
  | .absent => none
  | .unknown => some (0, g.bays + 1)
  | .bays lo hi => some (lo, hi)

/-- The near and the far crane's spans are separated (R59). -/
def separated (g : Geometry) (near far : Span) : Bool :=
  match testedSpan g near, testedSpan g far with
  | some n, some f => decide (n.2 + g.gap < f.1)
  | _, _ => true

/-- A span is strictly narrower than another (R71): an interval inside another, or NONE after an interval (R73). An interval is
not narrower than UNKNOWN (DESIGN CHOICE, log entry 37), nor than one it reaches out of (DESIGN CHOICE, log entry 36). -/
def narrower (new old : Span) : Bool :=
  match new, old with
  | .bays a b, .bays c d => decide (c ≤ a) && decide (b ≤ d) && decide (b - a < d - c)
  | .absent, .bays _ _ => true
  | _, _ => false

/-- An interval cut to a span (R69). -/
def cutTo (sp : Span) (i : Nat × Nat) : Span :=
  match sp with
  | .bays lo hi => .bays (max lo i.1) (min hi i.2)
  | _ => .bays i.1 i.2

/-- A reported bay brought into range (R2). -/
def takenBay (g : Geometry) (b : Nat) : Nat := min b (g.bays + 1)

/-- A reported level brought into range (R2). -/
def takenLevel (g : Geometry) (l : Nat) : Nat := clamp 1 g.levels l

namespace State

/-- A span for crane x would be separated from its sibling's span as it stands (R59). -/
def clear (s : State) (x : Crane) (sp : Span) : Bool :=
  let g := s.geometryOf (aisleOf x)
  match endOf x with
  | .near => separated g sp (s.spanOf (sibling x))
  | .far => separated g (s.spanOf (sibling x)) sp

/-- The rail bays of a list of places (R58). -/
def targetBays (s : State) (ps : List Place) : List Nat := ps.map (fun p => (s.resolve p).bay)

/-- The span of a route from a position bay (R58). -/
def routeSpan (s : State) (bay : Nat) (ps : List Place) : Span :=
  .bays (interval bay (s.targetBays ps)).1 (interval bay (s.targetBays ps)).2

/-- The yield target for a route span lo..hi of crane x whose IDLE sibling stands at bay q (R61). -/
def yieldTarget (s : State) (x : Crane) (lo hi q : Nat) : Option Nat :=
  let g := s.geometryOf (aisleOf x)
  match endOf x with
  | .far => if g.gap + 1 ≤ lo ∧ lo - (g.gap + 1) ≤ q then some (lo - (g.gap + 1)) else none
  | .near => if q ≤ hi + g.gap + 1 ∧ hi + g.gap + 1 ≤ g.bays + 1 then some (hi + g.gap + 1) else none

/-- Whether a route of crane x, from a position, can run beside its sibling (R60). A crane whose position is not known
has no route to test. -/
def spanAnswer (s : State) (x : Crane) (p : Option Position) (ps : List Place) : SpanAnswer :=
  match p with
  | none => .ineligible
  | some pos =>
    let i := interval pos.bay (s.targetBays ps)
    if s.clear x (.bays i.1 i.2) then .eligible
    else
      match (s.crane (sibling x)).state, (s.crane (sibling x)).position with
      | .idle, some q =>
        match s.yieldTarget x i.1 i.2 q.bay with
        | some t => .yieldEligible t
        | none => .ineligible
      | _, _ => .ineligible

/-- The crane's position becomes known at a bay and level. -/
def setPosition (s : State) (x : Crane) (bay level : Nat) : State :=
  s.modCrane x fun c => { c with position := some { bay := bay, level := level } }

/-- A crane that is neither in an order nor SYNCING holds the single bay of its position (R58; the table of spans by
crane state). DESIGN CHOICE (log entry 9) where R68 has just widened its span. -/
def restSpan (s : State) (x : Crane) : State :=
  match (s.crane x).order, (s.crane x).state, (s.crane x).position, s.spanOf x with
  | none, .idle, some p, .bays _ _ => s.setSpan x (.bays p.bay p.bay)
  | none, .queued, some p, .bays _ _ => s.setSpan x (.bays p.bay p.bay)
  | none, .faulted, some p, .bays _ _ => s.setSpan x (.bays p.bay p.bay)
  | none, .lost, some p, .bays _ _ => s.setSpan x (.bays p.bay p.bay)
  | _, _, _, _ => s

/-- A reported bay and level, brought into range, against the spans as they stand (the table of R68). -/
def takeInRange (s : State) (x : Crane) (b l : Nat) : State :=
  match s.spanOf x with
  | .absent => s
  | .unknown =>
    if s.clear x (.bays b b) then (s.setPosition x b l).setSpan x (.bays b b) else s
  | .bays lo hi =>
    if lo ≤ b ∧ b ≤ hi then s.setPosition x b l
    else if s.clear x (.bays (min lo b) (max hi b)) then
      ((s.setPosition x b l).setSpan x (.bays (min lo b) (max hi b))).anomaly x
    else (s.setPosition x (if b < lo then lo else hi) l).anomaly x

/-- A reported position is brought into range, with an anomaly when it was not in it (R2). -/
def reportRange (s : State) (x : Crane) (b l : Nat) : State :=
  let g := s.geometryOf (aisleOf x)
  if takenBay g b = b ∧ takenLevel g l = l then s else s.anomaly x

/-- A reported position is taken into the crane's context (R2, R68). -/
def takePosition (s : State) (x : Crane) (b l : Nat) : State :=
  let g := s.geometryOf (aisleOf x)
  ((s.reportRange x b l).takeInRange x (takenBay g b) (takenLevel g l)).restSpan x

/-- The position and the span become UNKNOWN (R142, R146). -/
def loseSight (s : State) (x : Crane) : State :=
  (s.modCrane x fun c => { c with position := none }).setSpan x .unknown

end State

end Sys2Proof.Machine
end

