-- ==== Sys2Proof/Machine/Engine.lean ====
section
/-! DEFINITION. Creating and sending an order, triggers, the pass request queue and the start of a pass (R95 to R103, R130, R131),
and a change of span with its shrink (R71). -/

namespace Sys2Proof.Machine

/-- The next value of the order id counter, wrapping from 65535 to 1 (R130). -/
def bumpId (n : Word16) : Word16 := if n = 65535#16 then 1#16 else n + 1#16

/-- The counter increased until its value is the id of no existing order (R130). At most 16 orders exist. -/
def allocId (used : List Word16) : Nat → Word16 → Word16
  | 0, n => n
  | k + 1, n => if bumpId n ∈ used then allocId used k (bumpId n) else bumpId n

/-- The crane state of an order kind (R124, R131). -/
def stateOfKind (k : OrderKind) (st : OrderState) : CraneState :=
  match k with
  | .yield => .yielding
  | .home => .homing
  | .job =>
    match st with
    | .awaitYield => .awaitYield
    | .sent | .revoking => .ordered
    | .running | .suspended => .running

/-- A new order record: no leg done, no late accept, no capture (R130). -/
def Order.new (id : Word16) (kind : OrderKind) (st : OrderState) (legs : List Leg) : Order :=
  { id := id, kind := kind, state := st, legs := legs, nextLeg := 0, storeTag := none, retrieveTag := none,
    relocation := none, yieldPartner := none, acceptTimer := 0, lateAccept := false, lastCapture := none }

namespace State

/-- The ids of the existing orders. -/
def orderIds (s : State) : List Word16 := allCranes.filterMap (fun x => (s.crane x).order.map (·.id))

/-- The id the next order takes (R130). -/
def nextId (s : State) : Word16 := allocId s.orderIds 17 s.orders.idCounter

/-- An order record is created for a crane: the id counter moves on, the order stands in the context (R130), and the
starved mark is cleared (R120). -/
def placeOrder (s : State) (x : Crane) (o : Order) : State :=
  let s1 := s.modCrane x fun c => { c with order := some o, starved := false }
  { s1 with orders := { s1.orders with idCounter := o.id } }

/-- An order is sent (R131): SENT, its accept timer at 0, the crane in the state of its kind. -/
def sendOrder (s : State) (x : Crane) : State :=
  match (s.crane x).order with
  | none => s
  | some o =>
    ((s.modOrder x fun o => { o with state := .sent, acceptTimer := 0 }).setCraneState x
      (stateOfKind o.kind .sent)).emit x (orderFrame o)

/-- The cost unit's values as they stand, for a crane (R85). -/
def valuesNow (s : State) (x : Crane) : Values :=
  { profileA := s.cost.profileA, profileB := s.cost.profileB, trim := (s.trimOf x).trim }

/-- The origin of a crane's first leg: its position; an unknown one counts as the target, which costs no travel. -/
def firstOrigin (p : Option Position) (target : Place) : Origin :=
  match p with
  | some q => .position q
  | none => .place target

/-- The span of a route from a crane's position, when it is known. -/
def claimSpan (s : State) (x : Crane) (p : Option Position) (ps : List Place) : State :=
  match p with
  | some q => s.setSpan x (s.routeSpan q.bay ps)
  | none => s

/-- A HOME order is created and sent (R72, R85, R95, R101). -/
def createHome (s : State) (x : Crane) : State :=
  let home : Place := .station (stationOf x)
  let pos := (s.crane x).position
  let leg := s.makeLeg (s.valuesNow x) (aisleOf x) (firstOrigin pos home) home .stay
  let s1 := s.placeOrder x (Order.new s.nextId .home .sent [leg])
  let s2 := s1.modCrane x fun c => { c with homeRequest := false }
  (s2.claimSpan x pos [home]).sendOrder x

/-- The engine takes a crane for a pass and latches (R103). -/
def startPass (s : State) (x : Crane) (invalid : Nat) (note : Bool) : State :=
  s.setPass (some
    { crane := x, invalid := invalid, note := note,
      latch :=
        { profileA := s.cost.profileA, profileB := s.cost.profileB, scoring := s.cost.scoring,
          trim := (s.trimOf x).trim, jobClock := s.sup.jobClock, stamp := s.pool.serial,
          position := (s.crane x).position },
      stage := .start, sparesEmpty := false })

/-- A crane's entry leaves the queue (R98). -/
def dequeue (s : State) (x : Crane) : State :=
  s.setEngine { s.engine with queue := s.engine.queue.filter (fun e => e.crane != x) }

/-- The engine may take a crane whose home request is set, or one that no hold affects (R100). -/
def mayTake (s : State) (e : QueueEntry) : Bool := (s.crane e.crane).homeRequest || !s.held e.crane

/-- The FREE engine takes cranes until it evaluates one or may take none (R100, R101); each turn takes one off the queue. -/
def engineTake : Nat → State → State
  | 0, s => s
  | n + 1, s =>
    match s.engine.pass, s.engine.queue.find? s.mayTake with
    | none, some e =>
      if (s.crane e.crane).homeRequest then engineTake n ((s.dequeue e.crane).createHome e.crane)
      else (s.dequeue e.crane).startPass e.crane e.invalid false
    | _, _ => s

/-- The engine considers its queue (R100). -/
def engineRun (s : State) : State := engineTake s.engine.queue.length s

/-- An IDLE crane without a home request joins the tail of the queue and is considered at once (R95, R98). -/
def enqueue (s : State) (x : Crane) : State :=
  ((s.setCraneState x .queued).setEngine
    { s.engine with queue := s.engine.queue ++ [{ crane := x, invalid := 0 }] }).engineRun

/-- A trigger for the crane under evaluation sets the deferred trigger note (R95). -/
def noteTrigger (s : State) (x : Crane) : State :=
  match s.engine.pass with
  | some p => if p.crane = x then s.setPass (some { p with note := true }) else s
  | none => s

/-- A trigger reaches a crane (R95). -/
def trigger (s : State) (x : Crane) : State :=
  match (s.crane x).state with
  | .idle => if (s.crane x).homeRequest then s.createHome x else s.enqueue x
  | .queued => s.noteTrigger x
  | _ => s

/-- Triggers in the order of a list (R97). -/
def triggerAll (s : State) (xs : List Crane) : State := xs.foldl trigger s

/-- Each crane of an aisle, the near crane first (R97). -/
def triggerAisle (s : State) (a : Aisle) : State := (s.trigger (craneAt a .near)).trigger (craneAt a .far)

/-- What follows a change of a crane's span from `old`: a shrink triggers the sibling when it carries the starved mark
(R71). -/
def shrunkFrom (s : State) (x : Crane) (old : Span) : State :=
  if narrower (s.spanOf x) old && (s.crane (sibling x)).starved then s.trigger (sibling x) else s

/-- A crane's span changes, with what follows a shrink (R71). -/
def changeSpan (s : State) (x : Crane) (sp : Span) : State := (s.setSpan x sp).shrunkFrom x (s.spanOf x)

/-- A reported position is taken (R2, R68), with what follows when it leaves the span narrower (R71): a LOST crane whose span
RESET with scope JOBS kept comes to its position bay (log entry 36). -/
def reportPosition (s : State) (x : Crane) (b l : Nat) : State := (s.takePosition x b l).shrunkFrom x (s.spanOf x)

/-- The span becomes the crane's position bay (R69, R70); a crane whose position is unknown keeps its span. -/
def spanToPosition (s : State) (x : Crane) : State :=
  match (s.crane x).position with
  | some p => s.changeSpan x (.bays p.bay p.bay)
  | none => s

/-- A crane becomes IDLE; a crane that was LOST is reconciled by it (R144). The triggers of R96 follow. -/
def setIdle (s : State) (x : Crane) : State :=
  let s1 := s.setCraneState x .idle
  if (s.crane x).state = .lost then s1.craneStateEvent x .reconciled else s1

/-- The crane is triggered, and then its sibling (R96). -/
def idleTriggers (s : State) (x : Crane) : State := (s.trigger x).trigger (sibling x)

/-- A crane becomes IDLE other than at the end of a pass (R96). -/
def becomeIdle (s : State) (x : Crane) : State := (s.setIdle x).idleTriggers x

/-- A crane that stops being QUEUED leaves the queue, or its pass is abandoned (R99, R113). Its state has changed before. -/
def leaveEngine (s : State) (x : Crane) : State :=
  if s.underEvaluation x then (s.setPass none).engineRun else s.dequeue x

end State

end Sys2Proof.Machine
end

