-- ==== Sys2Proof/Machine/Operands.lean ====
section
/-! DEFINITION. The fields of the request bodies, read after their reference (R177, R189, R193). Each reader answers none
where the request is refused MALFORMED for its shape: a length that does not match, or a field outside codes whose owning
rule states no reply. -/

namespace Sys2Proof.Machine

/-- A number of one byte that names one of n things: none when it names none of them. -/
def asFin (n : Nat) (b : Byte) : Option (Fin n) := if h : b.toNat < n then some ⟨b.toNat, h⟩ else none

/-- A class, 0-3. -/
def classOf (b : Byte) : Option (Fin 4) := asFin 4 b

/-- A crane, 0-15. -/
def craneOfByte (b : Byte) : Option Crane := asFin 16 b

/-- An aisle, 0-7. -/
def aisleOfByte (b : Byte) : Option Aisle := asFin 8 b

/-- A lane, 0-7. -/
def laneOfByte (b : Byte) : Option LaneNo := asFin 8 b

/-- The slots among places, in order. -/
def slotsIn (ps : List Place) : List Slot :=
  ps.filterMap fun p =>
    match p with
    | .slot a => some a
    | _ => none

/-- A candidate list (R22, R28): 1 to 4 places, none of kind 3, no slot address twice. -/
def candidatesOf (count : Byte) (rest : List Byte) : Option (List Place) :=
  if 1 ≤ count.toNat ∧ count.toNat ≤ 4 then
    match placesOf count.toNat rest with
    | some ps => if (slotsIn ps).Nodup then some ps else none
    | none => none
  else none

/-! ## Jobs -/

/-- ADMIT STORE (R193). -/
structure StoreRequest where
  tag : Word32
  pallet : Word32
  cls : Fin 4
  station : Place
  candidates : List Place
  deriving DecidableEq, Repr

def readAdmitStore : List Byte → Option StoreRequest
  | t0 :: t1 :: t2 :: t3 :: p0 :: p1 :: p2 :: p3 :: c :: s0 :: s1 :: s2 :: s3 :: n :: rest =>
    match classOf c, placeOf s0 s1 s2 s3, candidatesOf n rest with
    | some cls, some st, some cands =>
      some { tag := word32Of t0 t1 t2 t3, pallet := word32Of p0 p1 p2 p3, cls := cls, station := st, candidates := cands }
    | _, _, _ => none
  | _ => none

/-- ADMIT RETRIEVE (R193). -/
structure RetrieveRequest where
  tag : Word32
  pallet : Word32
  cls : Fin 4
  place : Place
  blocker : Option Word32
  lane : Option (LaneNo × Word16)
  deriving DecidableEq, Repr

/-- The optional parts of an ADMIT RETRIEVE by its options byte: the blocker first, then the lane reference (R193). -/
def optionalParts (options : Byte) (rest : List Byte) : Option (Option Word32 × Option (LaneNo × Word16)) :=
  match options.toNat, rest with
  | 0, [] => some (none, none)
  | 1, [b0, b1, b2, b3] => some (some (word32Of b0 b1 b2 b3), none)
  | 2, [l, q0, q1] => (laneOfByte l).map fun n => (none, some (n, word16Of q0 q1))
  | 3, [b0, b1, b2, b3, l, q0, q1] =>
      (laneOfByte l).map fun n => (some (word32Of b0 b1 b2 b3), some (n, word16Of q0 q1))
  | _, _ => none

def readAdmitRetrieve : List Byte → Option RetrieveRequest
  | t0 :: t1 :: t2 :: t3 :: p0 :: p1 :: p2 :: p3 :: c :: s0 :: s1 :: s2 :: s3 :: o :: rest =>
    match classOf c, placeOf s0 s1 s2 s3, optionalParts o rest with
    | some cls, some place, some (blocker, lane) =>
      if blocker = some (word32Of p0 p1 p2 p3) then none
      else
        some { tag := word32Of t0 t1 t2 t3, pallet := word32Of p0 p1 p2 p3, cls := cls, place := place,
               blocker := blocker, lane := lane }
    | _, _, _ => none
  | _ => none

/-- AMEND STORE: tag, count, candidates (R28). -/
def readAmendStore : List Byte → Option (Word32 × List Place)
  | t0 :: t1 :: t2 :: t3 :: n :: rest => (candidatesOf n rest).map fun ps => (word32Of t0 t1 t2 t3, ps)
  | _ => none

/-- CANCEL JOB: tag, skip option (R29). A skip option above 1 (R189) makes the body malformed, before the tag is looked for: DESIGN
CHOICE, log entry 45. -/
def readCancelJob : List Byte → Option (Word32 × Bool)
  | [t0, t1, t2, t3, k] => (yesNo k).map fun skip => (word32Of t0 t1 t2 t3, skip)
  | _ => none

/-- QUERY JOB: tag (R37). -/
def readTag : List Byte → Option Word32
  | [t0, t1, t2, t3] => some (word32Of t0 t1 t2 t3)
  | _ => none

/-! ## Cranes, aisles, lanes and scopes by their number -/

/-- A body of one byte. -/
def readByte : List Byte → Option Byte
  | [b] => some b
  | _ => none

/-- SET TRIM: crane, trim, auto-trim enable (R92). -/
def readSetTrim : List Byte → Option (Byte × Nat × Bool)
  | [x, h, l, a] => (yesNo a).map fun auto => (x, number2 h l, auto)
  | _ => none

/-! ## Aisles -/

/-- SET AISLE GEOMETRY: the record of section 1.2 with its crane fit as the byte received. -/
structure GeometryRequest where
  aisle : Byte
  configured : Bool
  bays : Nat
  levels : Nat
  doubleDeep : Bool
  nearLevel : Nat
  farLevel : Nat
  fit : Byte
  gap : Nat
  deriving DecidableEq, Repr

def craneFitOf (b : Byte) : Option CraneFit :=
  match b.toNat with
  | 0 => some .nearOnly
  | 1 => some .farOnly
  | 2 => some .both
  | _ => none

/-- SET AISLE GEOMETRY: the nine fields of R6. A crane fit byte outside its codes is refused as R6 states with configured yes, at
its check 3. With configured no R6 makes no such check and states no reply for the byte, so the body is malformed (R189;
DEDUCED, log entry 34). -/
def readSetGeometry : List Byte → Option GeometryRequest
  | [a, cfg, b, l, dd, nl, fl, fit, g] =>
    match yesNo cfg, yesNo dd with
    | some configured, some deep =>
      if configured || (craneFitOf fit).isSome then
        some { aisle := a, configured := configured, bays := b.toNat, levels := l.toNat, doubleDeep := deep,
               nearLevel := nl.toNat, farLevel := fl.toNat, fit := fit, gap := g.toNat }
      else none
    | _, _ => none
  | _ => none

/-- SET AISLE POLICY: the record of section 1.3 with its two modes as the bytes received. -/
structure PolicyRequest where
  aisle : Byte
  profileMode : Byte
  weightingMode : Byte
  /-- the record, its two modes still at mode 0 -/
  policy : Policy
  deriving DecidableEq, Repr

def readSetPolicy : List Byte → Option PolicyRequest
  | [a, pm, bl, bh, ll, lh, inv, en, wm, b1, b0, bg, lg, du, d1, d0, y1, y0] =>
    match yesNo inv, yesNo en, yesNo du with
    | some invert, some weighting, some dual =>
      some
        { aisle := a, profileMode := pm, weightingMode := wm,
          policy :=
            { profileMode := .profileA, windowBayLo := bl.toNat, windowBayHi := bh.toNat, windowLevelLo := ll.toNat,
              windowLevelHi := lh.toNat, windowInvert := invert, weighting := weighting,
              weightingMode := .bothRates, weightingBase := number2 b1 b0, bayGroup := bg.toNat,
              levelGroup := lg.toNat, dual := dual, dualLimit := number2 d1 d0, yieldPenalty := number2 y1 y0 } }
    | _, _, _ => none
  | _ => none

def profileModeOf (b : Byte) : Option ProfileMode :=
  match b.toNat with
  | 0 => some .profileA
  | 1 => some .profileB
  | 2 => some .byMark
  | 3 => some .byWindow
  | _ => none

def weightingModeOf (b : Byte) : Option WeightingMode :=
  match b.toNat with
  | 0 => some .bothRates
  | 1 => some .horizontal
  | 2 => some .vertical
  | 3 => some .forkTime
  | _ => none

/-- The entries of a LOAD WEIGHTS: n of two bytes, the mark in bit 15 and the factor, at most 4095, in bits 14-0
(R13, R189). -/
def weightsOf : Nat → List Byte → Option (List Weight)
  | 0, [] => some []
  | n + 1, h :: l :: rest =>
    if number2 h l % 32768 ≤ 4095 then
      (weightsOf n rest).map fun ws => { mark := h.msb, factor := number2 h l % 32768 } :: ws
    else none
  | _, _ => none

/-- LOAD WEIGHTS: start index, a count of 1 to 120, the entries (R13). -/
def readLoadWeights : List Byte → Option (Nat × List Weight)
  | h :: l :: n :: rest =>
    if 1 ≤ n.toNat ∧ n.toNat ≤ 120 then (weightsOf n.toNat rest).map fun ws => (number2 h l, ws) else none
  | _ => none

/-! ## Travel and scoring -/

/-- SET PROFILE: the profile named, then the seven fields (R76). -/
def readSetProfile : List Byte → Option (Byte × Profile)
  | [n, a1, a0, b1, b0, c1, c0, d1, d0, e1, e0, f1, f0, g1, g0] =>
    some (n,
      { kx := number2 a1 a0, cx := number2 b1 b0, ky := number2 c1 c0, cy := number2 d1 d0, kf := number2 e1 e0,
        kd := number2 f1 f0, ks := number2 g1 g0 })
  | _ => none

/-- SET SCORING: the six settings (R86). -/
def readSetScoring : List Byte → Option Scoring
  | [a1, a0, b1, b0, c1, c0, d1, d0, g, k1, k0] =>
    some
      { bias0 := number2 a1 a0, bias1 := number2 b1 b0, bias2 := number2 c1 c0, bias3 := number2 d1 d0,
        ageGain := g.toNat, ageCap := number2 k1 k0 }
  | _ => none

/-! ## Spares -/

/-- ADD SPARE and REMOVE SPARE: a place of kind 0, 1 or 2 (R47, R48). -/
def readPlace : List Byte → Option Place
  | [b0, b1, b2, b3] => placeOf b0 b1 b2 b3
  | _ => none

/-! ## Lanes -/

/-- LANE OPEN: lane, first sequence, window (R153). -/
def readLaneOpen : List Byte → Option (Byte × Word16 × Nat)
  | [l, q1, q0, w] => some (l, word16Of q1 q0, w.toNat)
  | _ => none

/-- SKIP SEQUENCE: lane, sequence (R160). -/
def readSkip : List Byte → Option (Byte × Word16)
  | [l, q1, q0] => some (l, word16Of q1 q0)
  | _ => none

/-! ## Timing, notices and the watch -/

/-- SET TIMING: the period code as received, the three limits and the auto-release enable (R166). -/
def readSetTiming : List Byte → Option (Byte × Nat × Nat × Nat × Bool)
  | [c, sl, al, hl, ar] => (yesNo ar).map fun auto => (c, sl.toNat, al.toNat, hl.toNat, auto)
  | _ => none

/-- The scope of HOLD and RESUME. -/
inductive HoldScope where
  | global
  | aisle (a : Aisle)
  deriving DecidableEq, Repr

/-- FFH is GLOBAL, 0-7 an aisle; none is an aisle number above 7 (R172, R189). -/
def holdScopeOf (b : Byte) : Option HoldScope :=
  if b = 0xFF#8 then some .global else (aisleOfByte b).map .aisle

/-- One entry of SET NOTICES. -/
structure NoticeEntry where
  cls : Fin 11
  notice : Bool
  level : Nat
  clearOnSend : Bool
  deriving DecidableEq, Repr

/-- The entries of SET NOTICES: class, notice enable, level, clear-on-send enable (R185). A yes/no byte above 1 (R189) makes the
body malformed, before any level is checked: DESIGN CHOICE, log entry 45. -/
def noticeEntriesOf : Nat → List Byte → Option (List NoticeEntry)
  | 0, [] => some []
  | n + 1, k :: e :: v :: c :: rest =>
    match asFin 11 k, yesNo e, yesNo c, noticeEntriesOf n rest with
    | some cls, some notice, some clearOnSend, some es =>
      some ({ cls := cls, notice := notice, level := v.toNat, clearOnSend := clearOnSend } :: es)
    | _, _, _, _ => none
  | _, _ => none

/-- SET NOTICES: a count of 1 to 11, the entries, no class twice (R185). -/
def readSetNotices : List Byte → Option (List NoticeEntry)
  | n :: rest =>
    if 1 ≤ n.toNat ∧ n.toNat ≤ 11 then
      match noticeEntriesOf n.toNat rest with
      | some es => if (es.map (·.cls)).Nodup then some es else none
      | none => none
    else none
  | [] => none

/-- CLEAR FLAGS: one mark per class in the bits of a two-byte number (R186, R189). The five bits that no class has are not
read (log entry 11). -/
def readClearFlags : List Byte → Option (Nat)
  | [h, l] => some (number2 h l)
  | _ => none

/-- The mark of class n. -/
def markOf (marks : Nat) (n : Fin 11) : Bool := marks / 2 ^ n.val % 2 = 1

/-- SET WATCH: threshold, edge mode as received (R187). -/
def readSetWatch : List Byte → Option (Nat × Byte)
  | [h, l, m] => some (number2 h l, m)
  | _ => none

def edgeModeOf (b : Byte) : Option EdgeMode :=
  match b.toNat with
  | 0 => some .off
  | 1 => some .rising
  | 2 => some .falling
  | 3 => some .both
  | _ => none

/-- The scope of RESET: ALL or JOBS (R180). -/
inductive ResetScope where
  | all
  | jobs
  deriving DecidableEq, Repr

def resetScopeOf (b : Byte) : Option ResetScope :=
  match b.toNat with
  | 0 => some .all
  | 1 => some .jobs
  | _ => none

end Sys2Proof.Machine
end

