-- ==== Sys2Proof/Machine/Requests.lean ====
section
/-! DEFINITION. Taking a management request: overrun, the clearing of the management silence count, the auto-release of a
SILENCE hold, the reference, and the reply (R170, R177, R178). -/

namespace Sys2Proof.Machine

/-- What the owning block answers: the state after its effects, the reply code and the reply data. -/
abbrev Answer := State × ReplyCode × ReplyData

namespace State

/-- A refused request changes nothing and carries no data (R177, R189). -/
def refuse (s : State) (code : ReplyCode) : Answer := (s, code, .empty)

/-- A taken request without data. -/
def ok (s : State) : Answer := (s, .ok, .empty)

/-- A taken request with data. -/
def okWith (s : State) (d : ReplyData) : Answer := (s, .ok, d)

/-- The IDLE cranes that no hold cause holds: the cranes a release triggers (R173; DEDUCED, log entry 39). -/
def freeIdle (s : State) : List Crane := allCranes.filter (fun x => (s.crane x).state == .idle && !s.held x)

/-- What follows the clearing of hold causes: the engine takes what has become takeable, and the IDLE cranes of `freed`
are triggered in crane-number order (R100, R173). -/
def afterRelease (s : State) (freed : List Crane) : State := s.engineRun.triggerAll freed

/-- The release half of the hold record written (R174). -/
def recordRelease (s : State) (cause : ReleaseCause) (aisle : Option Aisle) : State :=
  { s with sup := { s.sup with record :=
      { s.sup.record with releaseCause := cause, releaseAisle := aisle, releaseClock := s.sup.jobClock } } }

/-- The hold half of the hold record written (R174). -/
def recordHold (s : State) (cause : HoldCause) (aisle : Option Aisle) : State :=
  { s with sup := { s.sup with record :=
      { s.sup.record with holdCause := cause, holdAisle := aisle, holdClock := s.sup.jobClock } } }

/-- The release of a SILENCE hold by host traffic (R170). -/
def autoRelease (s : State) : State :=
  if s.sup.holdSilence && s.sup.timing.autoRelease then
    let s1 := ({ s with sup := { s.sup with holdSilence := false } }.recordRelease .hostTraffic none).holdChanged
    s1.afterRelease s1.freeIdle
  else s

/-- A valid management frame is taken: the management silence count is cleared, and auto-release is tested (R169, R177). -/
def hearHost (s : State) : State := { s with sup := { s.sup with hostSilence := 0 } }.autoRelease

/-- The reply of an answer joins the reply stream after the request's effects (R178). -/
def replyTo (ref : Word16) (kind : Byte) (a : Answer) : State :=
  a.1.pushReply { ref := ref, kind := kind, code := a.2.1, data := a.2.2 }

/-- A request frame completes: overrun when the reply stream is full (R175, R178); MALFORMED with reference 0000H for a
body too short to hold a reference (R177); else the request is taken and its owner answers. -/
def takeRequest (s : State) (kind : Byte) (body : List Byte) (owner : State → List Byte → Answer) : State :=
  if Config.replyStreamSize ≤ s.port.replies.length then s.dropFrame
  else
    match body with
    | r1 :: r0 :: fields => replyTo (word16Of r1 r0) kind (owner s.hearHost fields)
    | _ => replyTo 0#16 kind (s.hearHost.refuse .malformed)

/-- An owner that refuses MALFORMED what its reader does not read. -/
def reading {α : Type} (read : List Byte → Option α) (act : State → α → Answer) (s : State) (fields : List Byte) : Answer :=
  match read fields with
  | some r => act s r
  | none => s.refuse .malformed

/-- A number outside its codes is refused RANGE. -/
def ranged {α : Type} (n : Option α) (act : State → α → Answer) (s : State) : Answer :=
  match n with
  | some a => act s a
  | none => s.refuse .range

end State

end Sys2Proof.Machine
end

