-- ==== Sys2Proof/Machine/AisleRequests.lean ====
section
/-! DEFINITION. The requests of the cost unit: SET AISLE GEOMETRY, SET AISLE POLICY, LOAD WEIGHTS, QUERY AISLE, SET PROFILE, SET
SCORING and SET TRIM (R6, R7, R9, R13, R17, R76, R86, R92). -/

namespace Sys2Proof.Machine

namespace State

/-! ## SET AISLE GEOMETRY -/

/-- Check 3 of R6 on the numbers of a geometry to be configured. -/
def geometryInRange (r : GeometryRequest) : Bool :=
  decide (1 ≤ r.bays) && decide (r.bays ≤ 120) && decide (1 ≤ r.levels) && decide (r.levels ≤ 40)
    && decide (1 ≤ r.nearLevel) && decide (r.nearLevel ≤ r.levels) && decide (1 ≤ r.farLevel)
    && decide (r.farLevel ≤ r.levels) && decide (1 ≤ r.gap) && decide (r.gap ≤ 8)

/-- The record a request with configured yes carries, none where check 3 of R6 refuses it. -/
def geometryFrom (r : GeometryRequest) : Option Geometry :=
  match craneFitOf r.fit with
  | some fit =>
    if geometryInRange r then
      some { configured := true, bays := r.bays, levels := r.levels, doubleDeep := r.doubleDeep,
             nearLevel := r.nearLevel, farLevel := r.farLevel, fit := fit, gap := r.gap }
    else none
  | none => none

/-- The number of live jobs of an aisle (R6). -/
def aisleJobs (s : State) (a : Aisle) : Nat := s.pool.jobs.countP (fun j => j.aisle == a)

/-- Check 5 of R6: a live job, a spare or an enrolled crane of the aisle. -/
def aisleInUse (s : State) (a : Aisle) : Bool :=
  decide (0 < s.aisleJobs a) || !(Table.spareList s.table a).isEmpty || s.enrolled (craneAt a .near)
    || s.enrolled (craneAt a .far)

def setGeometryOf (s : State) (a : Aisle) (g : Geometry) : State :=
  { s with cost := { s.cost with geometry := upd s.cost.geometry a g } }

/-- The geometry is replaced unless a record elsewhere depends on it (R6 check 5, R7). -/
def replaceGeometry (s : State) (a : Aisle) (g : Geometry) : Answer :=
  if s.aisleInUse a then s.refuse .inUse else (s.setGeometryOf a g).ok

/-- SET AISLE GEOMETRY with its checks (R6, R7). With configured no, checks 3 and 4 are not made and the
record returns to its power-on values. -/
def setGeometry (s : State) (r : GeometryRequest) : Answer :=
  match aisleOfByte r.aisle with
  | none => s.refuse .range
  | some a =>
    if r.configured then
      match geometryFrom r with
      | none => s.refuse .range
      | some g =>
        if Config.weightEntries < rangeEnd (s.policyOf a) g then s.refuse .range else s.replaceGeometry a g
    else s.replaceGeometry a .powerOn

/-! ## SET AISLE POLICY -/

/-- Check 2 of R9 on the numbers of a policy. -/
def policyInRange (p : Policy) : Bool :=
  decide (1 ≤ p.windowBayLo) && decide (p.windowBayLo ≤ p.windowBayHi) && decide (p.windowBayHi ≤ 120)
    && decide (1 ≤ p.windowLevelLo) && decide (p.windowLevelLo ≤ p.windowLevelHi) && decide (p.windowLevelHi ≤ 40)
    && decide (p.weightingBase ≤ 2047) && decide (1 ≤ p.bayGroup) && decide (p.bayGroup ≤ 16)
    && decide (1 ≤ p.levelGroup) && decide (p.levelGroup ≤ 16)

/-- The aisle and the record a request carries, none where check 2 of R9 refuses it. -/
def policyFrom (r : PolicyRequest) : Option (Aisle × Policy) :=
  match aisleOfByte r.aisle, profileModeOf r.profileMode, weightingModeOf r.weightingMode with
  | some a, some pm, some wm =>
    if policyInRange r.policy then some (a, { r.policy with profileMode := pm, weightingMode := wm }) else none
  | _, _, _ => none

/-- An allotment pass for a crane of the aisle is being evaluated (R9). -/
def aisleEvaluating (s : State) (a : Aisle) : Bool :=
  match s.engine.pass with
  | some p => aisleOf p.crane == a
  | none => false

def setPolicyOf (s : State) (a : Aisle) (p : Policy) : State :=
  { s with cost := { s.cost with policy := upd s.cost.policy a p } }

/-- SET AISLE POLICY with its checks (R9). -/
def setPolicy (s : State) (r : PolicyRequest) : Answer :=
  match policyFrom r with
  | none => s.refuse .range
  | some (a, p) =>
    if Config.weightEntries < rangeEnd p (s.geometryOf a) then s.refuse .range
    else if s.aisleEvaluating a then s.refuse .busy
    else (s.setPolicyOf a p).ok

/-! ## LOAD WEIGHTS -/

/-- Check 3 of R13: the pass in flight is for an aisle whose enabled range shares an index with the run. -/
def loadBusy (s : State) (start count : Nat) : Bool :=
  match s.engine.pass with
  | some p =>
    let policy := s.policyOf (aisleOf p.crane)
    policy.weighting && decide (max policy.weightingBase start
      < min (start + count) (rangeEnd policy (s.geometryOf (aisleOf p.crane))))
  | none => false

def setWeights (s : State) (w : List (Nat × Weight)) : State := { s with cost := { s.cost with weights := w } }

/-- LOAD WEIGHTS with its checks (R13). -/
def loadWeights (s : State) (r : Nat × List Weight) : Answer :=
  if Config.weightEntries < r.1 + r.2.length then s.refuse .range
  else if s.loadBusy r.1 r.2.length then s.refuse .busy
  else (s.setWeights (weightRun s.cost.weights r.1 r.2)).ok

/-! ## QUERY AISLE -/

def aisleReport (s : State) (a : Aisle) : AisleReport :=
  let g := s.geometryOf a
  let p := s.policyOf a
  { geometry := g, policy := p, stride := stride p g, rows := rows p g, first := p.weightingBase,
    last := rangeEnd p g - 1, liveJobs := s.aisleJobs a, spares := (spareEntries s.table a).length,
    sparesInUse := (spareEntries s.table a).countP (fun e => e.use.isSpareInUse),
    nearState := (s.crane (craneAt a .near)).state, farState := (s.crane (craneAt a .far)).state,
    held := s.aisleHeld a, evaluating := s.aisleEvaluating a }

/-- QUERY AISLE (R17). -/
def queryAisle (s : State) (b : Byte) : Answer :=
  s.ranged (aisleOfByte b) fun s a => s.okWith (.aisle (s.aisleReport a))

/-! ## SET PROFILE, SET SCORING, SET TRIM -/

/-- Check 2 of R76 on the five bounded fields. -/
def profileInRange (p : Profile) : Bool :=
  decide (p.cx ≤ 16383) && decide (p.cy ≤ 16383) && decide (p.kf ≤ 16383) && decide (p.kd ≤ 16383)
    && decide (p.ks ≤ 16383)

/-- SET PROFILE with its checks (R76). -/
def setProfile (s : State) (r : Byte × Profile) : Answer :=
  if !profileInRange r.2 then s.refuse .range
  else
    match r.1.toNat with
    | 0 => State.ok { s with cost := { s.cost with profileA := r.2 } }
    | 1 => State.ok { s with cost := { s.cost with profileB := r.2 } }
    | _ => s.refuse .range

/-- SET SCORING (R86). -/
def setScoring (s : State) (r : Scoring) : Answer := State.ok { s with cost := { s.cost with scoring := r } }

/-- A trim as SET TRIM takes it: the clamped value, the enable, cleared accumulators (R92). -/
def takenTrim (trim : Nat) (auto : Bool) : Trim :=
  { trim := clamp Config.trimLow Config.trimHigh trim, auto := auto, legs := 0, predicted := 0, actual := 0 }

/-- SET TRIM with its checks (R92). -/
def setTrim (s : State) (r : Byte × Nat × Bool) : Answer :=
  s.ranged (craneOfByte r.1) fun s x =>
    (s.setTrimOf x (takenTrim r.2.1 r.2.2)).okWith (.trim (takenTrim r.2.1 r.2.2).trim)

end State

/-! ## The commands -/

/-- SET_TRIM (R92). -/
def execSetTrim (body : List Byte) (s : State) : Host.Outcome State Fault Refusal :=
  .next (s.takeRequest 0x0B#8 body (State.reading readSetTrim State.setTrim))

/-- SET_AISLE_GEOMETRY (R6, R7). -/
def execSetAisleGeometry (body : List Byte) (s : State) : Host.Outcome State Fault Refusal :=
  .next (s.takeRequest 0x0C#8 body (State.reading readSetGeometry State.setGeometry))

/-- SET_AISLE_POLICY (R9). -/
def execSetAislePolicy (body : List Byte) (s : State) : Host.Outcome State Fault Refusal :=
  .next (s.takeRequest 0x0D#8 body (State.reading readSetPolicy State.setPolicy))

/-- LOAD_WEIGHTS (R13). -/
def execLoadWeights (body : List Byte) (s : State) : Host.Outcome State Fault Refusal :=
  .next (s.takeRequest 0x0E#8 body (State.reading readLoadWeights State.loadWeights))

/-- QUERY_AISLE (R17). -/
def execQueryAisle (body : List Byte) (s : State) : Host.Outcome State Fault Refusal :=
  .next (s.takeRequest 0x0F#8 body (State.reading readByte State.queryAisle))

/-- SET_PROFILE (R76). -/
def execSetProfile (body : List Byte) (s : State) : Host.Outcome State Fault Refusal :=
  .next (s.takeRequest 0x10#8 body (State.reading readSetProfile State.setProfile))

/-- SET_SCORING (R86). -/
def execSetScoring (body : List Byte) (s : State) : Host.Outcome State Fault Refusal :=
  .next (s.takeRequest 0x11#8 body (State.reading readSetScoring State.setScoring))

end Sys2Proof.Machine
end

