-- ==== Sys2Proof/Machine/Jobs.lean ====
section
/-! DEFINITION. The pool-level watch, the removal of a job, the lanes' delivery, and what the end of an order does to its jobs
and their entries (R26, R32, R35, R36, R38, R51 to R55, R157 to R161). -/

namespace Sys2Proof.Machine

/-! ## The pool-level watch (R38) -/

/-- The crossing a change of the live count makes, if it makes one. -/
def crossing (threshold old new : Nat) : Option Crossing :=
  if old < threshold ∧ threshold ≤ new then some .rising
  else if threshold ≤ old ∧ new < threshold then some .falling
  else none

/-- The edge mode selects a direction. -/
def EdgeMode.selects (m : EdgeMode) (d : Crossing) : Bool :=
  match m, d with
  | .off, _ => false
  | .rising, .rising => true
  | .rising, .falling => false
  | .falling, .rising => false
  | .falling, .falling => true
  | .both, _ => true

/-! ## Lanes (chapter 8) -/

/-- Next due moves on past the members of the delivered set (R157). -/
def advanceLane : Nat → Word16 → List Word16 → Word16 × List Word16
  | 0, n, set => (n, set)
  | k + 1, n, set => if n ∈ set then advanceLane k (n + 1) (set.filter (fun d => d != n)) else (n, set)

/-- A member joins the delivered set, which is held in order of distance ahead. -/
def insertAhead (n d : Word16) : List Word16 → List Word16
  | [] => [d]
  | e :: rest => if ahead d n < ahead e n then d :: e :: rest else e :: insertAhead n d rest

/-- A sequence is stale (R152): BEHIND or DELIVERED AHEAD. -/
def Lane.stale (r : Lane) (d : Word16) : Bool := decide (32768 ≤ ahead d r.nextDue) || decide (d ∈ r.delivered)

/-- A delivery of sequence d; whether next due moved (R157). -/
def Lane.deliver (r : Lane) (d : Word16) : Lane × Bool :=
  if !r.opened then (r, false)
  else if ahead d r.nextDue = 0 then
    let a := advanceLane r.delivered.length (r.nextDue + 1) r.delivered
    ({ r with nextDue := a.1, delivered := a.2 }, true)
  else if ahead d r.nextDue ≤ 31 ∧ d ∉ r.delivered then
    ({ r with delivered := insertAhead r.nextDue d r.delivered }, false)
  else (r, false)

namespace State

/-- The watch is applied to a change of the live count by one (R38). -/
def watch (s : State) (old new : Nat) : State :=
  match crossing s.pool.watchThreshold old new with
  | some d => if s.pool.watchEdges.selects d then s.raise (.poolLevel new d) else s
  | none => s

/-- A lane's live job count falls by one (R35). -/
def lowerLane (s : State) (lane : Option (LaneNo × Word16)) : State :=
  match lane with
  | some (l, _) => s.setLane l { s.laneOf l with liveJobs := (s.laneOf l).liveJobs - 1 }
  | none => s

/-- A delivery to a lane: the record, and LANE ADVANCED when next due moved (R157, R161). -/
def deliverOnly (s : State) (l : LaneNo) (d : Word16) : State :=
  let r := (s.laneOf l).deliver d
  let s1 := s.setLane l r.1
  if r.2 then s1.raise (.laneAdvanced l r.1.nextDue) else s1

/-- A delivery that moves next due also triggers every crane (R161), at once, also within an ORDER DONE or an abandon (DEDUCED,
log entry 40). -/
def deliver (s : State) (l : LaneNo) (d : Word16) : State :=
  if ((s.laneOf l).deliver d).2 then (s.deliverOnly l d).triggerAll allCranes else s.deliverOnly l d

/-- A job leaves the pool (R35): its lists, its entries, its lane's count, the blocker fields that name its pallet when
`clears` (R32), and the watch. -/
def removeJob (s : State) (tag : Word32) (clears : Bool) : State :=
  match s.pool.find tag with
  | none => s
  | some j =>
    let rest := s.pool.jobs.eraseP (fun k => k.tag == tag)
    let kept := if clears && j.isRetrieve then rest.map (Job.clearBlocker j.pallet) else rest
    (((s.setJobs kept).setTable (dropOwner s.table tag)).lowerLane j.lane?).watch s.pool.jobs.length
      (s.pool.jobs.length - 1)

/-- A job returns to PENDING with its chosen slot absent (R26). -/
def returnJob (s : State) (tag : Word32) : State :=
  s.modJobOf tag fun j => { j with state := .pending }.setChosen none

/-- An accepted job is ACTIVE (R26). -/
def activateJob (s : State) (tag : Word32) : State := s.modJobOf tag fun j => { j with state := .active }

/-- A store completes: its removal with its entry, then JOB DONE with the chosen slot (R36, R51). -/
def completeStore (s : State) (tag : Word32) : State :=
  match (s.pool.find tag).bind Job.chosen? with
  | some slot => (s.removeJob tag true).raise (.jobDone tag false slot)
  | none => s.removeJob tag true

/-- A retrieve completes: its removal with its entry, JOB DONE with its slot, then the delivery of its sequence
with the triggers of a lane advance, before the order ends (R36, R51, R139, R158; log entry 40). -/
def completeRetrieve (s : State) (tag : Word32) : State :=
  match s.pool.find tag with
  | none => s
  | some j =>
    let s1 := s.removeJob tag true
    let s2 := match j.slot? with
      | some slot => s1.raise (.jobDone tag true slot)
      | none => s1
    match j.lane? with
    | some (l, d) => s2.deliver l d
    | none => s2

/-- A job is stranded aboard a crane: its removal, then JOB STRANDED (R36). -/
def strandJob (s : State) (tag : Word32) (x : Crane) : State := (s.removeJob tag true).raise (.jobStranded tag x)

/-- A relocation is counted done: both entries leave the table, the spare its list, and RELOCATED is raised (R51, R55). -/
def relocationDone (s : State) (tag : Word32) (r : Relocation) : State :=
  (s.setTable (dropUse (dropUse s.table (.blockerSource tag)) (.spareInUse tag))).raise
    (.relocated r.blocker r.front r.spare)

/-- A relocation that was not done: f's entry leaves and the spare is SPARE FREE again (R52, R55). -/
def relocationUndone (s : State) (tag : Word32) : State := s.setTable (revertRetrieve s.table tag)

/-- One decline of a job (R27): back to PENDING, or out of the pool with JOB FAILED at the second. -/
def declineJob (s : State) (tag : Word32) (reason : Byte) : State :=
  match s.pool.find tag with
  | none => s
  | some j =>
    if j.declines + 1 < 2 then
      s.modJobOf tag fun k => { k with declines := k.declines + 1, state := .pending }.setChosen none
    else (s.removeJob tag false).raise (.jobFailed tag reason)

/-! ## The jobs of an order -/

/-- The dispatch entries of an order that did not start are reverted (R52). -/
def revertEntries (s : State) (o : Order) : State :=
  let t1 := match o.storeTag with
    | some t => revertStore s.table t
    | none => s.table
  s.setTable (match o.retrieveTag with
    | some t => revertRetrieve t1 t
    | none => t1)

end State

/-- The jobs of an order in the order of the legs. -/
def Order.tags (o : Order) : List Word32 := o.storeTag.toList ++ o.retrieveTag.toList

/-- Leg i is marked done. -/
def Order.legIsDone (o : Order) (i : Nat) : Bool :=
  match o.legs[i]? with
  | some l => l.done
  | none => false

namespace State

/-- The jobs of an order that did not start return to PENDING (R26). -/
def returnJobs (s : State) (o : Order) : State := o.tags.foldl returnJob s

def activateJobs (s : State) (o : Order) : State := o.tags.foldl activateJob s

/-- The store part of a completed order (R51). -/
def endStore (s : State) (o : Order) : State :=
  match o.storeTag with
  | some t => s.completeStore t
  | none => s

/-- The relocation and the retrieve part of a completed order (R51). -/
def endRetrieve (s : State) (o : Order) : State :=
  match o.retrieveTag with
  | none => s
  | some t =>
    match o.relocation with
    | some r => (s.relocationDone t r).completeRetrieve t
    | none => s.completeRetrieve t

/-- The store part of an abandoned order (R54): station pick leg 0, drop leg 1. -/
def abandonStore (s : State) (o : Order) (x : Crane) : State :=
  match o.storeTag with
  | none => s
  | some t =>
    if !o.legIsDone 0 then (s.returnJob t).setTable (revertStore s.table t)
    else if !o.legIsDone 1 then s.strandJob t x
    else s.completeStore t

/-- The relocation and the retrieve part of an abandoned order (R55), whose legs start at index k. -/
def abandonRetrieve (s : State) (o : Order) (x : Crane) : State :=
  let k := if o.storeTag.isSome then 2 else 0
  match o.retrieveTag, o.relocation with
  | none, _ => s
  | some t, none =>
    if !o.legIsDone k then s.returnJob t
    else if !o.legIsDone (k + 1) then s.strandJob t x
    else s.completeRetrieve t
  | some t, some r =>
    if !o.legIsDone k then (s.relocationUndone t).returnJob t
    else if !o.legIsDone (k + 1) then (s.relocationUndone t).strandJob t x
    else if !o.legIsDone (k + 2) then (s.relocationDone t r).returnJob t
    else if !o.legIsDone (k + 3) then (s.relocationDone t r).strandJob t x
    else (s.relocationDone t r).completeRetrieve t

end State

end Sys2Proof.Machine
end

