-- ==== Sys2Proof/Machine/Orders.lean ====
section
/-! DEFINITION. The life of an order: its start, its legs, its endings, the yield pair, and the crane states that follow
(R63 to R70, R93, R94, R132 to R146). -/

namespace Sys2Proof.Machine

/-! ## Marking legs -/

/-- A leg marked done without measurement. -/
def Leg.mark (l : Leg) : Leg := { l with done := true }

/-- The measure-valid flag of leg n cleared (R138). -/
def invalidate (legs : List Leg) (n : Nat) : List Leg := legs.modify n (fun l => { l with valid := false })

/-- The legs below k marked done without measurement; the next leg is then k (R137, R141, R142). -/
def Order.markTo (o : Order) (k : Nat) : Order :=
  { o with
    legs := o.legs.mapIdx (fun i l => if i < k then l.mark else l)
    nextLeg := max o.nextLeg k }

/-- The load aboard field after a leg marked done (R123). -/
def aboardAfter (a : Aboard) (l : Leg) : Aboard :=
  match l.action with
  | .pick => .yes
  | .drop => .no
  | .stay => a

/-- The legs from the next leg up to but not including k. -/
def Order.legsTo (o : Order) (k : Nat) : List Leg := (o.legs.take k).drop o.nextLeg

/-- A legs-done count that an order can have: not above its leg count nor below the legs marked done (R129). -/
def Order.countFits (o : Order) (k : Nat) : Bool := decide (o.nextLeg ≤ k) && decide (k ≤ o.legs.length)

/-- The targets of the legs not yet done. -/
def Order.targetsLeft (o : Order) : List Place := (o.legs.drop o.nextLeg).map (·.target)

namespace State

/-! ## Measured legs (R93, R94, R138) -/

/-- The trim after the update of R94. -/
def updatedTrim (t : Trim) : Nat :=
  if t.predicted = 0 then t.trim
  else clamp Config.trimLow Config.trimHigh (roundHalfUp (1024 * t.actual) t.predicted)

/-- The accumulators after a measured leg (R93). -/
def accumulated (t : Trim) (predicted measured : Nat) : Trim :=
  { t with
    legs := if t.legs < Config.trimLegs then t.legs + 1 else t.legs
    predicted := satAdd Config.sumLimit t.predicted predicted
    actual := satAdd Config.sumLimit t.actual (min 65535 measured) }

/-- A measured leg is handed to the cost unit (R93); at the 64th with auto-trim enabled the trim is updated (R94). -/
def accumulate (s : State) (x : Crane) (predicted measured : Nat) : State :=
  let t := accumulated (s.trimOf x) predicted measured
  if t.auto && decide (Config.trimLegs ≤ t.legs) then
    (s.setTrimOf x { trim := updatedTrim t, auto := t.auto, legs := 0, predicted := 0, actual := 0 }).raise
      (.trimUpdated x (updatedTrim t))
  else s.setTrimOf x t

/-- The duration clock captured as an order's last capture. -/
def capture (s : State) (x : Crane) : State :=
  s.modOrder x fun o => { o with lastCapture := some s.sup.durationClock }

/-- The legs of an order up to k marked done without measurement, with the load aboard field (R137). -/
def markLegs (s : State) (x : Crane) (k : Nat) : State :=
  s.modCrane x fun c =>
    match c.order with
    | none => c
    | some o => { c with order := some (o.markTo k), aboard := (o.legsTo k).foldl aboardAfter c.aboard }

/-- The next leg marked done with its duration measured from the last capture (R137, R138). -/
def measureLeg (s : State) (x : Crane) : State :=
  match (s.crane x).order with
  | none => s
  | some o =>
    match o.legs[o.nextLeg]?, o.lastCapture with
    | some l, some last =>
      let d := s.sup.durationClock - last
      let s1 := (s.markLegs x (o.nextLeg + 1)).modOrder x fun q =>
        { q with legs := q.legs.modify o.nextLeg (fun m => { m with measured := some d }) }
      let s2 := s1.capture x
      if o.kind = .job ∧ l.valid then s2.accumulate x l.untrimmed d.toNat else s2
    | some _, none => (s.markLegs x (o.nextLeg + 1)).capture x
    | none, _ => s

/-- The span narrows to the taken position and the legs not done, cut to the span as it is (R69). -/
def narrowSpan (s : State) (x : Crane) : State :=
  match (s.crane x).order, (s.crane x).position with
  | some o, some p =>
    s.changeSpan x (cutTo (s.spanOf x) (interval p.bay (s.targetBays o.targetsLeft)))
  | _, _ => s

/-! ## States -/

/-- A crane takes the state of its order kind; a LOST crane is reconciled by it (R124, R144). -/
def takeKindState (s : State) (x : Crane) : State :=
  match (s.crane x).order with
  | none => s
  | some o =>
    let s1 := s.setCraneState x (stateOfKind o.kind o.state)
    if (s.crane x).state = .lost then s1.craneStateEvent x .reconciled else s1

/-- A crane becomes FAULTED with a cause (R144). -/
def enterFaulted (s : State) (x : Crane) (cause : StateCause) : State :=
  (s.setCraneState x .faulted).craneStateEvent x cause

/-- The order is RUNNING, its jobs ACTIVE, the timeouts cleared and the clock captured; for a FAULTED crane the order is
SUSPENDED with leg 0 measure-invalid (R132). `proved` is a start shown otherwise than by ACCEPT: leg 0 is measure-invalid
(R134, R135). -/
def startOrder (s : State) (x : Crane) (proved : Bool) : State :=
  match (s.crane x).order with
  | none => s
  | some o =>
    let faulted : Bool := (s.crane x).state == .faulted
    let s1 := s.activateJobs o
    let s2 := s1.modCrane x fun c => { c with timeouts := 0 }
    let s3 := (s2.modOrder x fun q =>
      { q with
        state := if faulted then .suspended else .running
        legs := if proved || faulted then invalidate q.legs 0 else q.legs }).capture x
    if faulted then s3 else s3.takeKindState x

/-- A record that shows a start finds the order SENT or REVOKING (R135). -/
def startIfSent (s : State) (x : Crane) : State :=
  match (s.crane x).order with
  | some o => if o.state = .sent ∨ o.state = .revoking then s.startOrder x true else s
  | none => s

/-- The order goes SUSPENDED, the leg in progress measure-invalid (R138). -/
def suspendOrder (s : State) (x : Crane) : State :=
  s.modOrder x fun o => { o with state := .suspended, legs := invalidate o.legs o.nextLeg }

/-- A crane's order leaves its context. -/
def dropOrder (s : State) (x : Crane) : State := s.modCrane x fun c => { c with order := none }

/-! ## The yield pair (R64 to R66) -/

/-- The waiting crane a YIELD order names (R63). -/
def partnerOf (s : State) (y : Crane) : Option Crane := (s.crane y).order.bind (·.yieldPartner)

/-- The waiting crane's order is discarded (R65, R66): jobs to PENDING, entries reverted, the pair cleared, the YIELD order
without its partner, the span at the position bay. -/
def discardWaiting (s : State) (x : Crane) : State :=
  match (s.crane x).order with
  | none => s
  | some o =>
    let s1 := (s.returnJobs o).revertEntries o
    let s2 := s1.setPair (aisleOf x) none
    let s3 := s2.modOrder (sibling x) fun q => { q with yieldPartner := none }
    (s3.dropOrder x).spanToPosition x

/-- The yield fails for a waiting crane (R65): its order is discarded and it is IDLE, not yet triggered. -/
def releaseWaiting (s : State) (w : Option Crane) : State :=
  match w with
  | some x => (s.discardWaiting x).setIdle x
  | none => s

/-- The triggers of a released waiting crane (R65, R96). -/
def releasedTriggers (s : State) (w : Option Crane) : State :=
  match w with
  | some x => s.idleTriggers x
  | none => s

/-- The yield fails for the partner of crane y's YIELD order, when it has one (R65). -/
def failYield (s : State) (y : Crane) : State := (s.releaseWaiting (s.partnerOf y)).releasedTriggers (s.partnerOf y)

/-- Crane y becomes IDLE; the waiting crane released by the same event is triggered first (R65, R96). -/
def idleAfter (s : State) (w : Option Crane) (y : Crane) : State :=
  ((s.setIdle y).releasedTriggers w).idleTriggers y

/-! ## Giving an order up (R145) -/

/-- An order is given up by its legs done; it ends ABANDONED and the span becomes the last taken position bay. -/
def giveUp (s : State) (x : Crane) : State :=
  match (s.crane x).order with
  | none => s
  | some o =>
    let s1 := match o.kind with
      | .job => (s.abandonStore o x).abandonRetrieve o x
      | _ => s
    (s1.dropOrder x).spanToPosition x

/-- An ORDER LOST abandon, then IDLE and triggered (R142, R145, R146). A waiting crane loses its yield first
(DEDUCED, log entry 10). -/
def orderLostIdle (s : State) (x : Crane) : State :=
  let w := s.partnerOf x
  let s1 := ((s.releaseWaiting w).giveUp x).setCraneState x .idle
  ((s1.craneStateEvent x .orderLost).releasedTriggers w).idleTriggers x

/-- An ORDER LOST abandon, then SYNCING with position and span UNKNOWN (R142, R145, R146). -/
def orderLostSyncing (s : State) (x : Crane) : State :=
  let w := s.partnerOf x
  let s1 := (((s.releaseWaiting w).giveUp x).loseSight x).setCraneState x .syncing
  (s1.craneStateEvent x .orderLost).releasedTriggers w

/-! ## Ends of an order at a crane record -/

/-- The crane's order ends DONE, with its span at the position bay, and the crane becomes IDLE (R139, R140). -/
def endDone (s : State) (x : Crane) (w : Option Crane) : State :=
  ((s.dropOrder x).spanToPosition x).idleAfter w x

/-- The waiting crane's order is sent at the end of the yield (R64). -/
def sendWaiting (s : State) (w : Crane) : State := (s.setPair (aisleOf w) none).sendOrder w

/-- An ORDER DONE for a YIELD order (R64, R67, R140): the span at the position bay; a partner whose claim is separated from
it is sent its order, another one loses its yield. -/
def endYield (s : State) (y : Crane) : State :=
  match s.partnerOf y with
  | none => s.endDone y none
  | some w =>
    let s1 := (s.dropOrder y).spanToPosition y
    if s1.clear w (s1.spanOf w) then (((s1.setIdle y).sendWaiting w)).idleTriggers y
    else (s1.releaseWaiting (some w)).idleAfter (some w) y

/-- What follows a DECLINE (R136): timeouts cleared, the order ended, the span at the position bay, IDLE unless FAULTED. -/
def endDeclined (s : State) (x : Crane) (w : Option Crane) : State :=
  let s1 := ((s.modCrane x fun c => { c with timeouts := 0 }).dropOrder x).spanToPosition x
  if (s.crane x).state = .faulted then s1.releasedTriggers w else s1.idleAfter w x

/-- What follows a REVOKED reporting not started (R134): one more consecutive accept timeout; FAULTED at the second. -/
def endRevoked (s : State) (x : Crane) : State :=
  let n := (s.crane x).timeouts + 1
  let faulted : Bool := (s.crane x).state == .faulted
  let s1 := (s.dropOrder x).spanToPosition x
  if n < 2 then
    let s2 := s1.modCrane x fun c => { c with timeouts := n }
    if faulted then s2 else s2.becomeIdle x
  else
    let s2 := s1.modCrane x fun c => { c with timeouts := 0 }
    if faulted then s2 else s2.enterFaulted x .acceptTimeout

/-- A FAULT CLEAR, or a record that acts as one, from a crane that was FAULTED or LOST (R143, R146), with its position
already passed through R68. -/
def clearFault (s : State) (x : Crane) (cause : StateCause) : State :=
  match (s.crane x).order with
  | some o =>
    let st := if o.state = .suspended then .running else o.state
    ((s.modOrder x fun q => { q with state := st }).setCraneState x (stateOfKind o.kind st)).craneStateEvent x cause
  | none =>
    if s.spanOf x = .unknown then (s.setCraneState x .syncing).craneStateEvent x cause
    else (((s.spanToPosition x).setCraneState x .idle).craneStateEvent x cause).idleTriggers x

/-! ## Timers (R133, R146) -/

/-- An accept timer expires (R133): a REVOKE is issued and the timer restarts; in SENT the order becomes REVOKING and a
yield fails for the partner. -/
def expireAccept (s : State) (x : Crane) : State :=
  match (s.crane x).order with
  | none => s
  | some o =>
    let s1 := (s.modOrder x fun q => { q with state := .revoking, acceptTimer := 0 }).emit x (revokeFrame o.id)
    match o.state with
    | .sent => s1.failYield x
    | .revoking => s1
    | _ => s

/-- A crane's silence count has reached the limit (R146). A SYNCING crane keeps its span as it was, also an interval that RESET
with scope JOBS kept: DESIGN CHOICE, log entry 36. -/
def loseCrane (s : State) (x : Crane) : State :=
  let c := s.crane x
  let lose (t : State) : State := (t.setCraneState x .lost).craneStateEvent x .silence
  match c.state with
  | .offline | .lost => s
  | .syncing | .idle => lose s
  | .queued => (lose s).leaveEngine x
  | .awaitYield => lose (s.discardWaiting x)
  | .ordered | .running | .yielding | .homing | .faulted =>
    match c.order with
    | none => lose s
    | some o =>
      if o.state = .running then (lose (s.suspendOrder x)).failYield x
      else (lose s).failYield x

end State

end Sys2Proof.Machine
end

