-- ==== Sys2Proof/Machine/CraneRecords.lean ====
section
/-! DEFINITION. The records a crane sends: ACCEPT, DECLINE, LEG DONE, ORDER DONE, REVOKED, FAULT, FAULT CLEAR, STATUS, and the
frames that are none of them (R126, R128, R129, R132 to R143, R146). -/

namespace Sys2Proof.Machine

namespace State

/-- A valid frame from a crane (R128): discarded from an OFFLINE crane; else its silence count is cleared. -/
def hearCrane (s : State) (x : Crane) (record : State → State) : State :=
  if s.enrolled x then record (s.setSilence x 0) else s

/-- The crane's current order, when an id names it (R129). -/
def namedOrder (s : State) (x : Crane) (id : Word16) : Option Order :=
  match (s.crane x).order with
  | some o => if o.id = id then some o else none
  | none => none

/-- The anomaly of a legs-done count, in FAULT or STATUS, that the order it names cannot have (R129, R194). -/
def countAnomaly (s : State) (x : Crane) (id : Word16) (legsDone : Nat) : State :=
  match s.namedOrder x id with
  | some o => if o.countFits legsDone then s else s.anomaly x
  | none => s

/-- The anomaly of a FAULT, or of a STATUS in mode IDLE or FAULT, that names an id other than the current order's (R129, R141,
R150; log entry 38). In SYNCING no order is looked up (R126). -/
def nameAnomaly (s : State) (x : Crane) (id : Word16) : State :=
  if (s.namedOrder x id).isSome ∨ id = 0 ∨ (s.crane x).state = .syncing then s else s.anomaly x

/-- An unsettled reconciliation of a LOST crane (R146). -/
def unsettled (s : State) (x : Crane) : State :=
  let s1 := s.anomaly x
  (match (s1.crane x).order with
    | none => (s1.setCraneState x .syncing).craneStateEvent x .reconciled
    | some _ => s1.enterFaulted x .unsettled).emit x pollFrame

/-- A record that is not taken: an anomaly (R129), and from a LOST crane an unsettled reconciliation (R146). -/
def notTaken (s : State) (x : Crane) : State :=
  if (s.crane x).state = .lost then s.unsettled x else s.anomaly x

/-! ## ACCEPT, DECLINE, REVOKED -/

/-- ACCEPT (R132). From a LOST crane only a SENT order takes it (R146, log entry 14). -/
def takeAccept (s : State) (x : Crane) (id : Word16) : State :=
  match s.namedOrder x id with
  | none => s.notTaken x
  | some o =>
    match o.state with
    | .sent => s.startOrder x false
    | .revoking =>
      if (s.crane x).state = .lost then s.unsettled x
      else s.modOrder x fun q => { q with lateAccept := true }
    | .awaitYield | .running | .suspended => s.notTaken x

/-- The jobs of a declined order (R27, R52, R136). -/
def declineJobs (s : State) (o : Order) (reason : Byte) : State :=
  match o.kind with
  | .job => o.tags.foldl (fun t tag => t.declineJob tag reason) (s.revertEntries o)
  | _ => s

/-- A DECLINE that is taken (R65, R136): the yield fails for a partner before anything else. -/
def declineOrder (s : State) (x : Crane) (o : Order) (reason : Byte) : State :=
  let w := s.partnerOf x
  ((s.releaseWaiting w).declineJobs o reason).endDeclined x w

/-- DECLINE (R136); reason 0 is malformed (R194). -/
def takeDecline (s : State) (x : Crane) (id : Word16) (reason : Byte) : State :=
  if reason = 0 then s.notTaken x
  else
    match s.namedOrder x id with
    | none => s.notTaken x
    | some o =>
      match o.state with
      | .sent | .revoking => s.declineOrder x o reason
      | .awaitYield | .running | .suspended => s.notTaken x

/-- A REVOKED reporting not started (R134). -/
def revokeOrder (s : State) (x : Crane) (o : Order) : State :=
  let s1 := if o.lateAccept then s.anomaly x else s
  ((s1.returnJobs o).revertEntries o).endRevoked x

/-- REVOKED (R134). -/
def takeRevoked (s : State) (x : Crane) (id : Word16) (started : Bool) : State :=
  match s.namedOrder x id with
  | none => s.notTaken x
  | some o =>
    match o.state with
    | .revoking => if started then s.startOrder x true else s.revokeOrder x o
    | .sent | .awaitYield | .running | .suspended => s.notTaken x

/-! ## LEG DONE, ORDER DONE -/

/-- The order of a LOST crane that a record shows running: RUNNING and the state of its kind, or a start (R135, R146). -/
def resumeLost (s : State) (x : Crane) : State :=
  match (s.crane x).order with
  | none => s
  | some o =>
    if o.state = .suspended then (s.modOrder x fun q => { q with state := .running }).takeKindState x
    else s.startIfSent x

/-- A LEG DONE on an order taken as RUNNING (R69, R137, R138). -/
def markLegDone (s : State) (x : Crane) (o : Order) (i : Nat) (bay level : Byte) : State :=
  if i < o.nextLeg ∨ o.legs.length ≤ i then s.anomaly x
  else
    let s1 := s.reportPosition x bay.toNat level.toNat
    let s2 := if i = o.nextLeg then s1.measureLeg x else (s1.markLegs x (i + 1)).capture x
    s2.narrowSpan x

/-- LEG DONE (R137); taken in SENT or REVOKING as a start (R135), from a LOST crane after the resumption (R146). -/
def takeLegDone (s : State) (x : Crane) (id : Word16) (i : Nat) (bay level : Byte) : State :=
  match s.namedOrder x id with
  | none =>
    if (s.crane x).state = .lost then (s.reportPosition x bay.toNat level.toNat).unsettled x else s.anomaly x
  | some o =>
    if (s.crane x).state = .lost then (s.resumeLost x).markLegDone x o i bay level
    else
      match o.state with
      | .running => s.markLegDone x o i bay level
      | .sent | .revoking => (s.startOrder x true).markLegDone x o i bay level
      | .awaitYield | .suspended => s.anomaly x

/-- An ORDER DONE on an order taken as RUNNING (R139, R140). -/
def finishOrder (s : State) (x : Crane) (o : Order) (bay level : Byte) : State :=
  let s1 := (s.reportPosition x bay.toNat level.toNat).markLegs x o.legs.length
  match o.kind with
  | .job => ((s1.endStore o).endRetrieve o).endDone x none
  | .yield => s1.endYield x
  | .home => s1.endDone x none

/-- ORDER DONE (R139, R140); taken in SENT or REVOKING as a start (R135), from a LOST crane after the resumption (R146). -/
def takeOrderDone (s : State) (x : Crane) (id : Word16) (bay level : Byte) : State :=
  match s.namedOrder x id with
  | none =>
    if (s.crane x).state = .lost then (s.reportPosition x bay.toNat level.toNat).unsettled x else s.anomaly x
  | some o =>
    if (s.crane x).state = .lost then (s.resumeLost x).finishOrder x o bay level
    else
      match o.state with
      | .running => s.finishOrder x o bay level
      | .sent | .revoking => (s.startOrder x true).finishOrder x o bay level
      | .awaitYield | .suspended => s.anomaly x

/-! ## FAULT -/

/-- A crane in AWAIT YIELD fails (R66, R141, R142): the discard, then the position, then FAULTED with cause FAULT. -/
def faultWaiting (s : State) (x : Crane) (bay level : Byte) : State :=
  (((s.discardWaiting x).setCraneState x .faulted).reportPosition x bay.toNat level.toNat).craneStateEvent x .fault

/-- The rows of R141 for a crane whose position is already taken and which is not in AWAIT YIELD, with the legs-done count
that is in force. A crane that is FAULTED already changes no more, also where its count would show a start (R135); from a
LOST crane the order is left as it stands (log entry 19). -/
def applyFault (s : State) (x : Crane) (legsDone : Nat) : State :=
  match (s.crane x).state with
  | .offline | .awaitYield | .faulted => s
  | .lost | .idle => s.enterFaulted x .fault
  | .syncing => (s.spanToPosition x).enterFaulted x .fault
  | .queued => (s.enterFaulted x .fault).leaveEngine x
  | .ordered | .running | .yielding | .homing =>
    match (s.crane x).order with
    | none => s.enterFaulted x .fault
    | some o =>
      if o.state = .running ∨ 1 ≤ legsDone then
        ((((s.startIfSent x).markLegs x legsDone).suspendOrder x).enterFaulted x .fault).failYield x
      else (s.enterFaulted x .fault).failYield x

/-- The legs-done count of a FAULT that is in force (R141): the count of a fitting FAULT for the current order, the legs
already marked done for one whose count does not fit, and 0 for one that names no order or another. -/
def faultCount (s : State) (x : Crane) (id : Word16) (legsDone : Nat) : Nat :=
  match s.namedOrder x id with
  | some o => if o.countFits legsDone then legsDone else o.nextLeg
  | none => 0

/-- FAULT (R126, R141, R146); fault code 0 is malformed (R194). -/
def takeFault (s : State) (x : Crane) (code bay level : Byte) (id : Word16) (legsDone : Nat) : State :=
  if code = 0 then s.notTaken x
  else
    let k := s.faultCount x id legsDone
    let s1 := ((s.countAnomaly x id legsDone).nameAnomaly x id).modCrane x fun c => { c with faultCode := some code }
    if (s.crane x).state = .awaitYield then s1.faultWaiting x bay level
    else (s1.reportPosition x bay.toNat level.toNat).applyFault x k

/-! ## STATUS and FAULT CLEAR -/

/-- The load aboard value of a STATUS is taken (R123, R142). -/
def takeAboard (s : State) (x : Crane) (aboard : Bool) : State :=
  s.modCrane x fun c => { c with aboard := if aboard then .yes else .no }

/-- A STATUS that ends SYNCING, or that finds a LOST crane without an order (R126, R146): IDLE where the position is known;
a SYNCING crane else stays SYNCING, and a LOST one becomes it (log entry 16). -/
def settleIdle (s : State) (x : Crane) : State :=
  if s.spanOf x = .unknown then
    if (s.crane x).state = .lost then (s.setCraneState x .syncing).craneStateEvent x .reconciled else s
  else (s.spanToPosition x).becomeIdle x

/-- A crane that reports a pallet aboard while it holds no order (R126, R142, R146). -/
def loadAboard (s : State) (x : Crane) : State :=
  match (s.crane x).state with
  | .queued => (s.enterFaulted x .loadAboard).leaveEngine x
  | .syncing => (s.spanToPosition x).enterFaulted x .loadAboard
  | _ => s.enterFaulted x .loadAboard

/-- STATUS from a SYNCING crane, position and load aboard taken (R126). -/
def statusSyncing (s : State) (x : Crane) (mode : StatusMode) (aboard : Bool) : State :=
  match mode, aboard with
  | .idle, false => s.settleIdle x
  | .idle, true => s.loadAboard x
  | .busy, _ => s
  | .fault, _ => s.applyFault x 0

/-- A STATUS BUSY count on the current order: legs marked done up to it; one that does not fit marks nothing (R129, R142). -/
def markCount (s : State) (x : Crane) (legsDone : Nat) : State :=
  match (s.crane x).order with
  | none => s
  | some o => if o.countFits legsDone then s.markLegs x legsDone else s

/-- A crane moves under an order the DJ-640 does not hold, and held none itself (R142, R146). -/
def busyUnknown (s : State) (x : Crane) : State :=
  match (s.crane x).state with
  | .lost => ((s.loseSight x).setCraneState x .syncing).craneStateEvent x .reconciled
  | .queued => ((s.loseSight x).setCraneState x .syncing).leaveEngine x
  | _ => (s.loseSight x).setCraneState x .syncing

/-- STATUS from an IDLE or QUEUED crane (R142). -/
def statusFree (s : State) (x : Crane) (mode : StatusMode) (aboard : Bool) : State :=
  match mode, aboard with
  | .idle, false => s
  | .idle, true => s.loadAboard x
  | .busy, _ => (s.anomaly x).busyUnknown x
  | .fault, _ => s.applyFault x 0

/-- STATUS from a crane whose order is SENT, REVOKING or RUNNING (R142). A STATUS BUSY narrows the span by its position even
where its count does not fit (log entry 23). -/
def statusOrder (s : State) (x : Crane) (o : Order) (mode : StatusMode) (named : Bool) (legsDone : Nat) : State :=
  match mode, named with
  | .idle, _ => if o.state = .running then s.orderLostIdle x else s
  | .busy, true => ((s.startIfSent x).markCount x legsDone).narrowSpan x
  | .busy, false => (s.anomaly x).orderLostSyncing x
  | .fault, _ => s.applyFault x 0

/-- STATUS from a FAULTED crane with an order (R142). -/
def statusFaultedOrder (s : State) (x : Crane) (o : Order) (mode : StatusMode) (named : Bool) (legsDone : Nat) : State :=
  match mode, named with
  | .idle, _ => if o.state = .suspended then s.orderLostIdle x else s
  | .busy, true => ((s.startIfSent x).clearFault x .cleared).markCount x legsDone
  | .busy, false => (s.anomaly x).orderLostSyncing x
  | .fault, _ => s

/-- STATUS from a FAULTED crane without an order (R142). -/
def statusFaultedFree (s : State) (x : Crane) (mode : StatusMode) (aboard : Bool) : State :=
  match mode, aboard with
  | .idle, false => s.clearFault x .cleared
  | .idle, true => s
  | .busy, _ => s.anomaly x
  | .fault, _ => s

/-- STATUS from a LOST crane (R146). -/
def statusLost (s : State) (x : Crane) (mode : StatusMode) (named : Bool) (legsDone : Nat) (aboard : Bool) : State :=
  match mode, (s.crane x).order, named, aboard with
  | .idle, some _, _, _ => s.orderLostIdle x
  | .idle, none, _, false => s.settleIdle x
  | .idle, none, _, true => s.loadAboard x
  | .busy, some _, true, _ => ((s.resumeLost x).markCount x legsDone).narrowSpan x
  | .busy, some _, false, _ => (s.anomaly x).orderLostSyncing x
  | .busy, none, _, _ => (s.anomaly x).busyUnknown x
  | .fault, _, _, _ => s.applyFault x 0

/-- The position a STATUS carries. For a STATUS BUSY from a crane whose span is UNKNOWN it is brought into range (R2) and not
tested (R68): log entry 24. -/
def statusPosition (s : State) (x : Crane) (mode : StatusMode) (bay level : Byte) : State :=
  if mode = .busy ∧ s.spanOf x = .unknown then s.reportRange x bay.toNat level.toNat
  else s.reportPosition x bay.toNat level.toNat

/-- STATUS from a crane in AWAIT YIELD (R142): its position is not taken, so R2 brings none into range (log entry 24). -/
def statusWaiting (s : State) (x : Crane) (mode : StatusMode) (bay level : Byte) (aboard : Bool) : State :=
  match mode with
  | .idle => s
  | .busy => s.anomaly x
  | .fault => (s.faultWaiting x bay level).takeAboard x aboard

/-- The anomalies of what a STATUS says of an order (R129): of its count in every mode, and of its id where the mode's own
rows give no handling (R142; log entry 38). -/
def statusAnomalies (s : State) (x : Crane) (mode : StatusMode) (id : Word16) (legsDone : Nat) : State :=
  match mode with
  | .busy => s.countAnomaly x id legsDone
  | .idle | .fault => (s.countAnomaly x id legsDone).nameAnomaly x id

/-- STATUS (R126, R142, R146). -/
def takeStatus (s : State) (x : Crane) (mode : StatusMode) (id : Word16) (legsDone : Nat) (bay level : Byte)
    (aboard : Bool) : State :=
  let named := (s.namedOrder x id).isSome
  let s0 := s.statusAnomalies x mode id legsDone
  let s1 := (s0.statusPosition x mode bay level).takeAboard x aboard
  match (s.crane x).state, (s.crane x).order with
  | .offline, _ => s
  | .awaitYield, _ => s0.statusWaiting x mode bay level aboard
  | .syncing, _ => s1.statusSyncing x mode aboard
  | .lost, _ => s1.statusLost x mode named legsDone aboard
  | .faulted, some o => s1.statusFaultedOrder x o mode named legsDone
  | .faulted, none => s1.statusFaultedFree x mode aboard
  | _, some o => s1.statusOrder x o mode named legsDone
  | _, none => s1.statusFree x mode aboard

/-- FAULT CLEAR (R126, R143, R146). -/
def takeFaultClear (s : State) (x : Crane) (bay level : Byte) : State :=
  let s1 := s.reportPosition x bay.toNat level.toNat
  match (s.crane x).state with
  | .syncing => (s1.takeAboard x false).settleIdle x
  | .faulted => s1.clearFault x .cleared
  | .lost => s1.clearFault x .reconciled
  | _ => s1.anomaly x

/-! ## Dropped frames (R128) -/

/-- A frame of a crane line is dropped: the line error count and the receiver. -/
def dropCraneFrame (s : State) (x : Crane) : State :=
  let s1 := s.modCrane x fun c => { c with lineErrors := satAdd Config.countLimit c.lineErrors 1 }
  { s1 with lines := { s1.lines with craneRx := upd s1.lines.craneRx x .powerOn } }

end State

/-! ## The commands -/

/-- CRANE_FRAME_DROPPED (R128), whatever the receiver's state (DESIGN CHOICE, log entry 42). -/
def execCraneFrameDropped (x : Crane) (s : State) : Host.Outcome State Fault Refusal := .next (s.dropCraneFrame x)

/-- UNKNOWN_CRANE_RECORD (R128, R129; from a LOST crane R146). -/
def execUnknownCraneRecord (x : Crane) (s : State) : Host.Outcome State Fault Refusal :=
  .next (s.hearCrane x fun t => t.notTaken x)

/-- ACCEPT (R132). -/
def execAccept (x : Crane) (id : Word16) (s : State) : Host.Outcome State Fault Refusal :=
  .next (s.hearCrane x fun t => t.takeAccept x id)

/-- DECLINE (R136). -/
def execDecline (x : Crane) (id : Word16) (reason : Byte) (s : State) : Host.Outcome State Fault Refusal :=
  .next (s.hearCrane x fun t => t.takeDecline x id reason)

/-- LEG_DONE (R137). -/
def execLegDone (x : Crane) (id : Word16) (index bay level : Byte) (s : State) : Host.Outcome State Fault Refusal :=
  .next (s.hearCrane x fun t => t.takeLegDone x id index.toNat bay level)

/-- ORDER_DONE (R139, R140). -/
def execOrderDone (x : Crane) (id : Word16) (bay level : Byte) (s : State) : Host.Outcome State Fault Refusal :=
  .next (s.hearCrane x fun t => t.takeOrderDone x id bay level)

/-- REVOKED (R134). -/
def execRevoked (x : Crane) (id : Word16) (started : Bool) (s : State) : Host.Outcome State Fault Refusal :=
  .next (s.hearCrane x fun t => t.takeRevoked x id started)

/-- FAULT (R141). -/
def execFault (x : Crane) (code bay level : Byte) (id : Word16) (legsDone : Byte) (s : State) :
    Host.Outcome State Fault Refusal :=
  .next (s.hearCrane x fun t => t.takeFault x code bay level id legsDone.toNat)

/-- FAULT_CLEAR (R143). -/
def execFaultClear (x : Crane) (bay level : Byte) (s : State) : Host.Outcome State Fault Refusal :=
  .next (s.hearCrane x fun t => t.takeFaultClear x bay level)

/-- STATUS (R142). -/
def execStatus (x : Crane) (mode : StatusMode) (id : Word16) (legsDone bay level : Byte) (aboard : Bool) (s : State) :
    Host.Outcome State Fault Refusal :=
  .next (s.hearCrane x fun t => t.takeStatus x mode id legsDone.toNat bay level aboard)

end Sys2Proof.Machine
end

