-- ==== Sys2Proof/Machine/CraneRequests.lean ====
section
/-! DEFINITION. The crane requests of the order unit: ENROL CRANE, WITHDRAW CRANE, HOME CRANE, ABANDON ORDER, QUERY CRANE (R125,
R127, R145, R147, R148). -/

namespace Sys2Proof.Machine

namespace State

/-- The effect of a taken ENROL CRANE (R125, R73). -/
def takeEnrol (s : State) (x : Crane) : State :=
  let s1 := s.modCrane x fun c =>
    { c with state := .syncing, position := none, aboard := .unknown, timeouts := 0, homeRequest := false,
             starved := false, faultCode := none, stateCause := none }
  ((s1.setSpan x .unknown).setSilence x 0).emit x pollFrame

/-- ENROL CRANE with its checks (R125). -/
def enrol (s : State) (b : Byte) : Answer :=
  s.ranged (craneOfByte b) fun s x =>
    if s.enrolled x then s.refuse .wrongState
    else if !s.served (stationOf x) then s.refuse .badPlace
    else (s.takeEnrol x).ok

/-- Check 4 of R127. -/
def withdrawBusy (s : State) (x : Crane) : Bool :=
  match (s.crane x).order, (s.crane x).state with
  | some _, _ => true
  | none, .queued | none, .awaitYield | none, .ordered | none, .running | none, .yielding | none, .homing => true
  | none, _ => false

/-- The effect of a taken WITHDRAW CRANE (R127); the change of span may trigger the sibling (R71), last. -/
def takeWithdraw (s : State) (x : Crane) : State :=
  let was := (s.crane x).state
  let s1 := (s.modCrane x fun c =>
    { c with state := .offline, position := none, aboard := .unknown, homeRequest := false,
             starved := false }).setSilence x 0
  let s2 := if was = .faulted ∨ was = .lost then s1.craneStateEvent x .withdrawn else s1
  s2.changeSpan x .absent

/-- WITHDRAW CRANE with its checks (R127). -/
def withdraw (s : State) (b : Byte) : Answer :=
  s.ranged (craneOfByte b) fun s x =>
    if !s.enrolled x then s.refuse .wrongState
    else if s.withdrawBusy x then s.refuse .inProgress
    else (s.takeWithdraw x).ok

/-- A home request is set where it was clear: an IDLE crane is triggered, a QUEUED one becomes takeable (R100, R147). -/
def takeHome (s : State) (x : Crane) : State :=
  let s1 := s.modCrane x fun c => { c with homeRequest := true }
  match (s.crane x).state with
  | .idle => s1.trigger x
  | .queued => s1.engineRun
  | _ => s1

/-- HOME CRANE with its checks (R147). -/
def homeCrane (s : State) (b : Byte) : Answer :=
  s.ranged (craneOfByte b) fun s x =>
    if !s.enrolled x then s.refuse .wrongState
    else if (s.crane x).homeRequest then s.ok
    else (s.takeHome x).ok

/-- ABANDON ORDER with its checks (R145). -/
def abandonOrder (s : State) (b : Byte) : Answer :=
  s.ranged (craneOfByte b) fun s x =>
    if ((s.crane x).state = .faulted ∨ (s.crane x).state = .lost) ∧ (s.crane x).order.isSome then
      ((s.emit x abortFrame).giveUp x).ok
    else s.refuse .wrongState

/-- A QUEUED crane's place (R102). -/
def queuePlace (s : State) (x : Crane) : Option QueuePlace :=
  if (s.crane x).state = .queued then
    if s.underEvaluation x then some .underEvaluation
    else some (.standing (s.engine.queue.findIdx (fun e => e.crane == x) + 1))
  else none

def craneReport (s : State) (x : Crane) : CraneReport :=
  { ctx := s.crane x, span := s.spanOf x, queue := s.queuePlace x, trim := s.trimOf x, silence := s.silenceOf x }

/-- QUERY CRANE (R148). -/
def queryCrane (s : State) (b : Byte) : Answer :=
  s.ranged (craneOfByte b) fun s x => s.okWith (.crane (s.craneReport x))

end State

/-! ## The commands -/

/-- ENROL_CRANE (R125). -/
def execEnrolCrane (body : List Byte) (s : State) : Host.Outcome State Fault Refusal :=
  .next (s.takeRequest 0x06#8 body (State.reading readByte State.enrol))

/-- WITHDRAW_CRANE (R127). -/
def execWithdrawCrane (body : List Byte) (s : State) : Host.Outcome State Fault Refusal :=
  .next (s.takeRequest 0x07#8 body (State.reading readByte State.withdraw))

/-- HOME_CRANE (R147). -/
def execHomeCrane (body : List Byte) (s : State) : Host.Outcome State Fault Refusal :=
  .next (s.takeRequest 0x08#8 body (State.reading readByte State.homeCrane))

/-- ABANDON_ORDER (R145). -/
def execAbandonOrder (body : List Byte) (s : State) : Host.Outcome State Fault Refusal :=
  .next (s.takeRequest 0x09#8 body (State.reading readByte State.abandonOrder))

/-- QUERY_CRANE (R148). -/
def execQueryCrane (body : List Byte) (s : State) : Host.Outcome State Fault Refusal :=
  .next (s.takeRequest 0x0A#8 body (State.reading readByte State.queryCrane))

end Sys2Proof.Machine
end

