-- ==== Sys2Proof/Machine/Events.lean ====
section
/-! DEFINITION. The events of the clocks and of the lines: the pace interval expiry with the counts and the poll rotation, the
limits, the accept timers, dropped management frames, and the end of a transmission (R133, R146, R163 to R169, R175, R176, R179). -/

namespace Sys2Proof.Machine

namespace State

/-! ## The limits -/

/-- A crane's silence count stands at or above the limit while the crane is neither OFFLINE nor LOST (R146, R167). -/
def silenceReached (s : State) (x : Crane) : Bool :=
  decide (s.sup.timing.silenceLimit ≤ s.silenceOf x) && s.enrolled x && (s.crane x).state != .lost

/-- The supervision unit reports a crane whose count has reached the limit (R167). -/
def serviceSilence (s : State) (x : Crane) : State := if s.silenceReached x then s.loseCrane x else s

/-- The management silence count equals a host limit that is not off, while SILENCE is clear (R169). -/
def hostReached (s : State) : Bool :=
  s.sup.timing.hostLimit != 0 && s.sup.hostSilence == s.sup.timing.hostLimit && !s.sup.holdSilence

/-- SILENCE is set, with the hold half of the record and HOLD CHANGE (R169, R174). -/
def setSilenceHold (s : State) : State :=
  ({ s with sup := { s.sup with holdSilence := true } }.recordHold .silence none).holdChanged

def serviceHost (s : State) : State := if s.hostReached then s.setSilenceHold else s

/-- An order waits for its acceptance with its accept timer at the limit (R133). -/
def acceptReached (s : State) (x : Crane) : Bool :=
  match (s.crane x).order with
  | some o =>
    (o.state == .sent || o.state == .revoking) && decide (s.sup.timing.acceptLimit ≤ o.acceptTimer)
  | none => false

def serviceAccept (s : State) (x : Crane) : State := if s.acceptReached x then s.expireAccept x else s

/-! ## The counts of an expiry -/

/-- The silence count of an enrolled crane rises (R167). -/
def countSilence (s : State) (x : Crane) : State :=
  if s.enrolled x then s.setSilence x (satAdd Config.silenceBound (s.silenceOf x) 1) else s

/-- The accept timer of an order in SENT or REVOKING rises (R133). -/
def countAccept (s : State) (x : Crane) : State :=
  s.modOrder x fun o =>
    if o.state = .sent ∨ o.state = .revoking then { o with acceptTimer := o.acceptTimer + 1 } else o

/-- The job clock rises first (R164), and a new interval begins (R163). -/
def tickPace (s : State) : State :=
  { s with sup := { s.sup with jobClock := s.sup.jobClock + 1#32, paceElapsed := 0 } }

/-- The management silence count rises (R169). -/
def countHost (s : State) : State :=
  { s with sup := { s.sup with hostSilence := satAdd Config.silenceBound s.sup.hostSilence 1 } }

/-! ## The poll rotation (R168) -/

/-- The crane that stands n + 1 places after another, wrapping from 15 to 0. -/
def after (x : Crane) (n : Nat) : Crane := ⟨(x.val + 1 + n) % 16, Nat.mod_lt _ (by decide)⟩

/-- The sixteen cranes from the one after the pointer to the pointer's own. -/
def rotation (pointer : Crane) : List Crane := (List.range 16).map (after pointer)

/-- The crane to poll: the first enrolled one whose count before this expiry's increase was 1 or more. -/
def pollCandidate (s : State) (before : Crane → Nat) : Option Crane :=
  (rotation s.sup.pollPointer).find? (fun x => s.enrolled x && decide (1 ≤ before x))

/-- The pointer moves to the polled crane; a move that wraps counts a round. -/
def movePointer (s : State) (x : Crane) : State :=
  { s with sup := { s.sup with
      pollPointer := x
      roundCount := if x ≤ s.sup.pollPointer then s.sup.roundCount + 1#16 else s.sup.roundCount } }

/-- The poll rotation at an expiry, with the counts as they stood before the increase. -/
def poll (s : State) (before : Crane → Nat) : State :=
  match s.pollCandidate before with
  | some x => (s.movePointer x).emit x pollFrame
  | none => s

/-! ## The expiry -/

/-- A pace interval expires (R163): the job clock and every count first, then what the counts bring about. The order of
the blocks is DESIGN CHOICE (log entry 6). -/
def paceExpires (s : State) : State :=
  let s1 := (allCranes.foldl countAccept (allCranes.foldl countSilence s.tickPace)).countHost
  let s2 := allCranes.foldl serviceSilence s1
  let s3 := s2.poll s.silenceOf
  allCranes.foldl serviceAccept s3.serviceHost

/-! ## The transmitter -/

/-- The frame in transmission has left the line whole, and the transmitter is free (R179). -/
def transmitted (s : State) : State :=
  match s.port.tx with
  | none => s
  | some f =>
    State.transmit
      { s with
        port := { s.port with tx := none }
        lines := { s.lines with hostOut := s.lines.hostOut ++ [txFrameBytes f] } }

end State

/-! ## The commands -/

/-- MANAGEMENT_FRAME_DROPPED, for any of its causes (R175, R176), whatever the receiver's state (DESIGN CHOICE, log entry 42). -/
def execManagementFrameDropped (_cause : DropCause) (s : State) : Host.Outcome State Fault Refusal := .next s.dropFrame

/-- FRAME_GAP_ABANDON (R175, R176): the abandonment of a frame, counted whatever the receiver's state (DESIGN CHOICE, log entry
42). -/
def execFrameGapAbandon (s : State) : Host.Outcome State Fault Refusal := .next s.dropFrame

/-- PACE_INTERVAL_EXPIRY (R163). -/
def execPaceIntervalExpiry (s : State) : Host.Outcome State Fault Refusal := .next s.paceExpires

/-- SILENCE_LIMIT_REACHED: the supervision unit's report of a crane whose count has reached the limit (R146, R167). -/
def execSilenceLimitReached (x : Crane) (s : State) : Host.Outcome State Fault Refusal := .next (s.serviceSilence x)

/-- HOST_LIMIT_REACHED (R169). -/
def execHostLimitReached (s : State) : Host.Outcome State Fault Refusal := .next s.serviceHost

/-- ACCEPT_TIMER_EXPIRY (R133). -/
def execAcceptTimerExpiry (x : Crane) (s : State) : Host.Outcome State Fault Refusal := .next (s.serviceAccept x)

/-- FRAME_TRANSMIT_COMPLETE (R179). -/
def execFrameTransmitComplete (s : State) : Host.Outcome State Fault Refusal := .next s.transmitted

end Sys2Proof.Machine
end

