-- ==== Sys2Proof/Machine/JobRequests.lean ====
section
/-! DEFINITION. The requests of the job pool and of the reservation table: ADMIT STORE, ADMIT RETRIEVE, AMEND STORE, CANCEL JOB,
QUERY JOB, ADD SPARE, REMOVE SPARE (R22 to R30, R37, R47, R48). -/

namespace Sys2Proof.Machine

namespace State

/-- A candidate is a slot in the geometry of the given aisle (R22 check 3, R28 check 5). -/
def candidateFits (s : State) (a : Aisle) (p : Place) : Bool :=
  match p with
  | .slot c => s.inGeometry c && c.aisle == a
  | _ => false

/-- A live job has the pallet (R20). -/
def palletBusy (s : State) (pallet : Word32) : Bool := s.pool.jobs.any (fun j => j.pallet == pallet)

/-- A job joins the end of the pool's list with the counter's next value as its serial (R19), and the watch is applied to
the rise (R38). -/
def addJob (s : State) (j : Job) : State :=
  { s with pool := { s.pool with jobs := s.pool.jobs ++ [j], serial := j.serial } }.watch s.pool.jobs.length
    (s.pool.jobs.length + 1)

/-- A new job record (R18). -/
def newJob (s : State) (tag pallet : Word32) (cls : Fin 4) (kind : JobKind) : Job :=
  { serial := s.pool.serial + 1#32, tag := tag, pallet := pallet, cls := cls, admittedAt := s.sup.jobClock,
    state := .pending, declines := 0, kind := kind }

/-! ## ADMIT STORE -/

/-- The effect of a taken ADMIT STORE (R23). -/
def takeStore (s : State) (r : StoreRequest) (st : Station) : Answer :=
  let j := s.newJob r.tag r.pallet r.cls (.store st (slotsIn r.candidates) none false)
  ((s.addJob j).trigger (craneOf st)).okWith (.serial j.serial)

/-- ADMIT STORE with its checks (R22). -/
def admitStore (s : State) (r : StoreRequest) : Answer :=
  match r.station with
  | .station st =>
    if !s.served st then s.refuse .badPlace
    else if !(r.candidates.all (s.candidateFits st.aisle)) then s.refuse .badPlace
    else if (s.pool.find r.tag).isSome then s.refuse .duplicateTag
    else if s.palletBusy r.pallet then s.refuse .palletBusy
    else if Config.poolSize ≤ s.pool.jobs.length then (s, .full, .fullPool)
    else if Config.stationQueueSize ≤ (s.pool.stationQueue st).length then (s, .full, .fullQueue)
    else s.takeStore r st
  | _ => s.refuse .badPlace

/-! ## ADMIT RETRIEVE -/

/-- A lane's live job count rises by one (R25). -/
def raiseLane (s : State) (lane : Option (LaneNo × Word16)) : State :=
  match lane with
  | some (l, _) => s.setLane l { s.laneOf l with liveJobs := (s.laneOf l).liveJobs + 1 }
  | none => s

/-- The effect of a taken ADMIT RETRIEVE (R25). -/
def takeRetrieve (s : State) (r : RetrieveRequest) (a : Slot) : Answer :=
  let j := s.newJob r.tag r.pallet r.cls (.retrieve a r.blocker r.lane)
  let s1 := (s.setTable (addEntry s.table a (.retrieveSource r.tag))).raiseLane r.lane
  ((s1.addJob j).triggerAisle a.aisle).okWith (.serial j.serial)

/-- The lane checks 7 to 9 of R24. -/
def laneRefusal (s : State) (lane : Option (LaneNo × Word16)) : Option ReplyCode :=
  match lane with
  | none => none
  | some (l, d) =>
    if !(s.laneOf l).opened then some .laneClosed
    else if (s.laneOf l).stale d then some .staleSequence
    else if (s.pool.holder l d).isSome then some .duplicateSequence
    else none

/-- ADMIT RETRIEVE with its checks (R24). -/
def admitRetrieve (s : State) (r : RetrieveRequest) : Answer :=
  match r.place with
  | .slot a =>
    if !s.inGeometry a then s.refuse .badPlace
    else if r.blocker.isSome && (a.depth == .front || !(s.geometryOf a.aisle).doubleDeep) then s.refuse .badPlace
    else if (s.pool.find r.tag).isSome then s.refuse .duplicateTag
    else if s.palletBusy r.pallet then s.refuse .palletBusy
    else if (useAt s.table a).isSome then s.refuse .slotReserved
    else
      match s.laneRefusal r.lane with
      | some code => s.refuse code
      | none => if Config.poolSize ≤ s.pool.jobs.length then (s, .full, .fullPool) else s.takeRetrieve r a
  | _ => s.refuse .badPlace

/-! ## AMEND STORE -/

/-- AMEND STORE with its checks (R28). -/
def amendStore (s : State) (r : Word32 × List Place) : Answer :=
  match s.pool.find r.1 with
  | none => s.refuse .unknownTag
  | some j =>
    match j.station? with
    | none => s.refuse .wrongState
    | some st =>
      if j.state ≠ .pending then s.refuse .inProgress
      else if !(r.2.all (s.candidateFits st.aisle)) then s.refuse .badPlace
      else
        ((s.modJobOf r.1 fun k => (k.setCandidates (slotsIn r.2)).setStalled false).trigger (craneOf st)).ok

/-! ## CANCEL JOB -/

/-- The delivery of a cancelled job's sequence with skip yes (R30, R159). -/
def skipDelivery (s : State) (j : Job) (skip : Bool) : State :=
  match j.lane?, skip with
  | some (l, d), true => s.deliver l d
  | _, _ => s

/-- The triggers of a cancel (R30): the station's crane for the head of its queue, each crane of a retrieve's aisle. The
triggers of a lane advance come before them (log entry 12). -/
def cancelTriggers (s : State) (j : Job) (wasHead : Bool) : State :=
  match j.kind with
  | .store st .. => if wasHead then s.trigger (craneOf st) else s
  | .retrieve slot .. => s.triggerAisle slot.aisle

/-- The job is the head of its station queue. -/
def isHead (s : State) (j : Job) : Bool :=
  match j.station? with
  | some st => ((s.pool.stationQueue st).head?.map (·.tag)) == some j.tag
  | none => false

/-- CANCEL JOB with its checks (R29, R30). -/
def cancelJob (s : State) (r : Word32 × Bool) : Answer :=
  match s.pool.find r.1 with
  | none => s.refuse .unknownTag
  | some j =>
    if j.state ≠ .pending then s.refuse .inProgress
    else (((s.removeJob r.1 false).skipDelivery j r.2).cancelTriggers j (s.isHead j)).ok

/-! ## QUERY JOB -/

/-- The order that holds a job: its crane and id. -/
def orderOf (s : State) (tag : Word32) : Option (Crane × Word16) :=
  allCranes.findSome? fun x =>
    match (s.crane x).order with
    | some o => if tag ∈ o.tags then some (x, o.id) else none
    | none => none

/-- The position of a store in its station queue, 1 for the head (R37). -/
def queuePosition (s : State) (j : Job) : Option Nat :=
  j.station?.map fun st => (s.pool.stationQueue st).findIdx (fun k => k.tag == j.tag) + 1

def jobReport (s : State) (j : Job) : JobReport :=
  { job := j, age := ageOf s.sup.jobClock j.admittedAt, queuePosition := s.queuePosition j, order := s.orderOf j.tag,
    waits := (s.pool.waitsOn j).map (·.tag) }

/-- QUERY JOB (R37). -/
def queryJob (s : State) (tag : Word32) : Answer :=
  match s.pool.find tag with
  | none => s.refuse .unknownTag
  | some j => s.okWith (.job (s.jobReport j))

/-! ## Spares -/

/-- ADD SPARE with its checks (R47). -/
def addSpare (s : State) (p : Place) : Answer :=
  match p with
  | .slot a =>
    if !s.inGeometry a then s.refuse .badPlace
    else if (useAt s.table a).isSome then s.refuse .slotReserved
    else if Config.spareListSize ≤ (Table.spareList s.table a.aisle).length then s.refuse .full
    else ((s.setTable (addEntry s.table a .spareFree)).triggerAisle a.aisle).ok
  | _ => s.refuse .badPlace

/-- REMOVE SPARE with its checks (R48). -/
def removeSpare (s : State) (p : Place) : Answer :=
  match p with
  | .slot a =>
    if !s.inGeometry a then s.refuse .badPlace
    else
      match useAt s.table a with
      | some .spareFree => (s.setTable (dropSlot s.table a)).ok
      | some (.spareInUse _) => s.refuse .inProgress
      | _ => s.refuse .unknownPlace
  | _ => s.refuse .badPlace

end State

/-! ## The commands -/

/-- ADMIT_STORE (R22, R23). -/
def execAdmitStore (body : List Byte) (s : State) : Host.Outcome State Fault Refusal :=
  .next (s.takeRequest 0x01#8 body (State.reading readAdmitStore State.admitStore))

/-- ADMIT_RETRIEVE (R24, R25). -/
def execAdmitRetrieve (body : List Byte) (s : State) : Host.Outcome State Fault Refusal :=
  .next (s.takeRequest 0x02#8 body (State.reading readAdmitRetrieve State.admitRetrieve))

/-- AMEND_STORE (R28). -/
def execAmendStore (body : List Byte) (s : State) : Host.Outcome State Fault Refusal :=
  .next (s.takeRequest 0x03#8 body (State.reading readAmendStore State.amendStore))

/-- CANCEL_JOB (R29, R30). -/
def execCancelJob (body : List Byte) (s : State) : Host.Outcome State Fault Refusal :=
  .next (s.takeRequest 0x04#8 body (State.reading readCancelJob State.cancelJob))

/-- QUERY_JOB (R37). -/
def execQueryJob (body : List Byte) (s : State) : Host.Outcome State Fault Refusal :=
  .next (s.takeRequest 0x05#8 body (State.reading readTag State.queryJob))

/-- ADD_SPARE (R47). -/
def execAddSpare (body : List Byte) (s : State) : Host.Outcome State Fault Refusal :=
  .next (s.takeRequest 0x12#8 body (State.reading readPlace State.addSpare))

/-- REMOVE_SPARE (R48). -/
def execRemoveSpare (body : List Byte) (s : State) : Host.Outcome State Fault Refusal :=
  .next (s.takeRequest 0x13#8 body (State.reading readPlace State.removeSpare))

end Sys2Proof.Machine
end

