-- ==== Sys2Proof/Machine/LaneRequests.lean ====
section
/-! DEFINITION. The requests of the lane unit: LANE OPEN, LANE CLOSE, SKIP SEQUENCE, QUERY LANE (R153, R154, R160, R162). -/

namespace Sys2Proof.Machine

namespace State

/-- A lane as LANE OPEN leaves it (R153). -/
def openedLane (first : Word16) (window : Nat) (liveJobs : Nat) : Lane :=
  { opened := true, nextDue := first, window := clamp 1 32 window, delivered := [], liveJobs := liveJobs }

/-- LANE OPEN with its checks (R153). -/
def laneOpen (s : State) (r : Byte × Word16 × Nat) : Answer :=
  s.ranged (laneOfByte r.1) fun s l =>
    if (s.laneOf l).opened then s.refuse .wrongState
    else
      ((s.setLane l (openedLane r.2.1 r.2.2 (s.laneOf l).liveJobs)).triggerAll allCranes).okWith
        (.window (clamp 1 32 r.2.2))

/-- LANE CLOSE with its checks (R154). -/
def laneClose (s : State) (b : Byte) : Answer :=
  s.ranged (laneOfByte b) fun s l =>
    if !(s.laneOf l).opened then s.refuse .wrongState
    else if 0 < (s.laneOf l).liveJobs then s.refuse .inUse
    else (s.setLane l { s.laneOf l with opened := false }).ok

/-- The effect of a taken SKIP SEQUENCE: the delivery, then one round of triggers (R160, R161). -/
def takeSkip (s : State) (l : LaneNo) (d : Word16) : Answer :=
  let s1 := (s.deliverOnly l d).triggerAll allCranes
  s1.okWith (.nextDue (s1.laneOf l).nextDue)

/-- SKIP SEQUENCE with its checks (R160). The OK of check 4 carries the next due as well (log entry 13). -/
def skipSequence (s : State) (r : Byte × Word16) : Answer :=
  s.ranged (laneOfByte r.1) fun s l =>
    if !(s.laneOf l).opened then s.refuse .laneClosed
    else if (s.laneOf l).stale r.2 then s.okWith (.nextDue (s.laneOf l).nextDue)
    else if 32 ≤ ahead r.2 (s.laneOf l).nextDue then s.refuse .range
    else if (s.pool.holder l r.2).isSome then s.refuse .inUse
    else s.takeSkip l r.2

/-- QUERY LANE (R162). -/
def queryLane (s : State) (b : Byte) : Answer :=
  s.ranged (laneOfByte b) fun s l => s.okWith (.lane (s.laneOf l))

end State

/-! ## The commands -/

/-- LANE_OPEN (R153). -/
def execLaneOpen (body : List Byte) (s : State) : Host.Outcome State Fault Refusal :=
  .next (s.takeRequest 0x14#8 body (State.reading readLaneOpen State.laneOpen))

/-- LANE_CLOSE (R154). -/
def execLaneClose (body : List Byte) (s : State) : Host.Outcome State Fault Refusal :=
  .next (s.takeRequest 0x15#8 body (State.reading readByte State.laneClose))

/-- SKIP_SEQUENCE (R160). -/
def execSkipSequence (body : List Byte) (s : State) : Host.Outcome State Fault Refusal :=
  .next (s.takeRequest 0x16#8 body (State.reading readSkip State.skipSequence))

/-- QUERY_LANE (R162). -/
def execQueryLane (body : List Byte) (s : State) : Host.Outcome State Fault Refusal :=
  .next (s.takeRequest 0x17#8 body (State.reading readByte State.queryLane))

end Sys2Proof.Machine
end

