-- ==== Sys2Proof/Machine/Pass.lean ====
section
/-! DEFINITION. The allotment pass: its items, its decision, the re-check at its completion, and the dispatch (R49, R50, R62, R63,
R87 to R90, R103 to R121). -/

namespace Sys2Proof.Machine

/-- The result of a pass that found work (R111): the jobs it serves, each with its serial, for a tag may be taken again by
another job (R20); the chosen store slot, the relocation and the legs. -/
structure PassResult where
  storeTag : Option Word32
  storeSerial : Option Word32
  storeSlot : Option Slot
  retrieveTag : Option Word32
  retrieveSerial : Option Word32
  relocation : Option Relocation
  legs : List Leg
  deriving DecidableEq, Repr

/-- The places of a route, in order. -/
def PassResult.places (r : PassResult) : List Place := r.legs.map (·.target)

/-- The store part of a route: the pick at the station and the drop at the slot (R111). -/
def storePart (st : Station) (a : Slot) : List (Place × Action) := [(.station st, .pick), (.slot a, .drop)]

/-- The retrieve part of a route, with its relocation when it relocates (R87, R111). -/
def retrievePart (st : Station) (a : Slot) (reloc : Option (Slot × Slot)) : List (Place × Action) :=
  (match reloc with
    | some (front, spare) => [(.slot front, .pick), (.slot spare, .drop)]
    | none => [])
    ++ [(.slot a, .pick), (.station st, .drop)]

namespace State

/-! ## Items of a pass (R104) -/

/-- The head the store stage is about (R34, R105): PENDING and at or before the stamp. -/
def stageHead (s : State) (p : Pass) : Option Job :=
  match (s.pool.stationQueue (stationOf p.crane)).head? with
  | some j => if j.state = .pending ∧ atOrBefore j.serial p.latch.stamp then some j else none
  | none => none

/-- The legs of a route as the pass computes them, from its latched position and values (R85, R103). -/
def passLegs (s : State) (p : Pass) (route : List (Place × Action)) : List Leg :=
  match route with
  | [] => []
  | (target, _) :: _ => s.makeLegs p.latch.values (aisleOf p.crane) (firstOrigin p.latch.position target) route

/-- The span answer for a route of the pass (R60, R103). -/
def passAnswer (s : State) (p : Pass) (route : List (Place × Action)) : SpanAnswer :=
  s.spanAnswer p.crane p.latch.position (route.map (·.1))

/-- The yield penalty a span answer brings (R88, R90). -/
def penaltyOf (s : State) (p : Pass) (a : SpanAnswer) : Nat :=
  match a with
  | .yieldEligible _ => (s.policyOf (aisleOf p.crane)).yieldPenalty
  | _ => 0

/-- One candidate of the store stage (R90): the earlier placed of equal sums stands. DESIGN CHOICE (log entry 43): the leg time
and the yield penalty are summed in full, without saturation at 65535. -/
def considerSlot (s : State) (p : Pass) (tag serial : Word32) (a : Slot) (best : Option StorePick) : Option StorePick :=
  if s.storeEligible a then
    let route := storePart (stationOf p.crane) a
    let answer := s.passAnswer p route
    let leg := s.makeLeg p.latch.values (aisleOf p.crane) (.place (.station (stationOf p.crane))) (.slot a) .drop
    let pick : StorePick :=
      { tag := tag, serial := serial, slot := a, sum := leg.legMs + s.penaltyOf p answer, answer := answer }
    match answer, best with
    | .ineligible, _ => best
    | _, none => some pick
    | _, some b => if pick.sum < b.sum then some pick else best
  else best

/-- The job a pass is about, when it is live: the one with the serial the pass met (R20). -/
def passJob (s : State) (tag serial : Word32) : Option Job :=
  match s.pool.find tag with
  | some j => if j.serial = serial then some j else none
  | none => none

/-- The stage of the pass in flight changed. -/
def setStage (s : State) (p : Pass) (st : Stage) : State := s.setPass (some { p with stage := st })

/-- The store stage yields nothing: the head is stalled, with STORE STALLED when it was not (R106). -/
def stallHead (s : State) (p : Pass) (tag serial : Word32) : State :=
  match s.passJob tag serial with
  | none => s
  | some j =>
    let s1 := s.modJobOf tag (fun k => k.setStalled true)
    if j.stalled then s1 else s1.raise (.storeStalled tag (stationOf p.crane))

/-- The end of the store stage (R106, R107). -/
def endStoreStage (s : State) (p : Pass) (tag serial : Word32) (best : Option StorePick) : State :=
  match best with
  | none => (s.stallHead p tag serial).setStage p (.retrieve none none none)
  | some pick =>
    (s.modJobOf tag (fun k => k.setStalled false)).setStage p
      (if (s.policyOf (aisleOf p.crane)).dual then .retrieve (some pick) none none else .storeOnly pick)

/-- The next retrieve the pool supplies (R34): PENDING, of the aisle, at or before the stamp, after the last examined. -/
def nextRetrieve (s : State) (p : Pass) (cursor : Option Word32) : Option Job :=
  s.pool.jobs.find? fun j =>
    j.isRetrieve && j.aisle == aisleOf p.crane && j.state == .pending && atOrBefore j.serial p.latch.stamp
      && (match cursor with
          | some c => !atOrBefore j.serial c
          | none => true)

/-- The relocation of a retrieve candidate (R46): none where it needs none, some none where no spare is usable. -/
def relocationFor (s : State) (p : Pass) (j : Job) (a : Slot) (store : Option Slot) : Option (Option Relocation) :=
  match j.blocker? with
  | none => none
  | some b =>
    some ((s.bestSpare p.latch.values a.partner store).map fun x => { blocker := b, front := a.partner, spare := x })

/-- SPARES EMPTY, once a pass (R108). -/
def noSpares (s : State) (p : Pass) : State :=
  if p.sparesEmpty then s else s.raise (.sparesEmpty (aisleOf p.crane))

/-- Check 5, the score and the comparison (R88, R89, R107, R109). -/
def scoreRetrieve (s : State) (p : Pass) (j : Job) (a : Slot) (store : Option StorePick) (reloc : Option Relocation)
    (best : Option RetrievePick) : Option RetrievePick :=
  let st := stationOf p.crane
  let route := (match store with | some k => storePart st k.slot | none => [])
    ++ retrievePart st a (reloc.map fun r => (r.front, r.spare))
  let answer := s.passAnswer p route
  let legs := s.passLegs p route
  let own := match store with | some _ => legs.drop 2 | none => legs
  let score := scoreOf p.latch.scoring j.cls (ageOf p.latch.jobClock j.admittedAt) (routeMs own) (s.penaltyOf p answer)
  match answer, best with
  | .ineligible, _ => best
  | _, none => some { tag := j.tag, serial := j.serial, score := score, legs := legs, relocation := reloc, answer := answer }
  | _, some b =>
    if score < b.score then
      some { tag := j.tag, serial := j.serial, score := score, legs := legs, relocation := reloc, answer := answer }
    else best

/-- One retrieve of the retrieve stage: the five checks of R107 in their order. -/
def considerRetrieve (s : State) (p : Pass) (j : Job) (a : Slot) (store : Option StorePick)
    (best : Option RetrievePick) : State :=
  let passed := Stage.retrieve store (some j.serial) best
  if (s.pool.waitsOn j).isSome || !s.laneEligible j then s.setStage p passed
  else
    match s.relocationFor p j a (store.map (·.slot)) with
    | some none => (s.noSpares p).setStage { p with sparesEmpty := true } passed
    | none =>
      if s.partnerEligible j then
        s.setStage p (.retrieve store (some j.serial) (s.scoreRetrieve p j a store none best))
      else s.setStage p passed
    | some (some r) =>
      if s.partnerEligible j then
        s.setStage p (.retrieve store (some j.serial) (s.scoreRetrieve p j a store (some r) best))
      else s.setStage p passed

/-- One item of the pass in flight (R104); none when the stages are ended and the decision is next. A store stage goes on at
the next place of the candidate list as it stands, and keeps the best it has met: DESIGN CHOICE where AMEND STORE has
replaced the list (R112), log entry 35. -/
def passItem (s : State) (p : Pass) : Option State :=
  match p.stage with
  | .start =>
    match s.stageHead p with
    | some j => some (s.setStage p (.store j.tag j.serial 0 none))
    | none => some (s.setStage p (.retrieve none none none))
  | .store tag serial k best =>
    match (s.passJob tag serial).bind (fun j => j.candidates[k]?) with
    | some a => some (s.setStage p (.store tag serial (k + 1) (s.considerSlot p tag serial a best)))
    | none => some (s.endStoreStage p tag serial best)
  | .retrieve store cursor best =>
    match s.nextRetrieve p cursor with
    | none => none
    | some j =>
      match j.slot? with
      | some a => some (s.considerRetrieve p j a store best)
      | none => none
  | .storeOnly _ => none

/-- The items left, examined one after another; the bound is more than the items there can be. -/
def passItems : Nat → State → State
  | 0, s => s
  | n + 1, s =>
    match s.engine.pass with
    | none => s
    | some p =>
      match s.passItem p with
      | some t => passItems n t
      | none => s

/-- A bound on the items of a pass: every candidate, every job, and the turns of the stages. -/
def itemBound (s : State) : Nat :=
  s.pool.jobs.length + (s.pool.jobs.map (fun j => j.candidates.length)).sum + 3

/-! ## The decision (R110, R111) -/

/-- A store alone. -/
def storeResult (s : State) (p : Pass) (k : StorePick) : PassResult :=
  { storeTag := some k.tag, storeSerial := some k.serial, storeSlot := some k.slot, retrieveTag := none,
    retrieveSerial := none, relocation := none,
    legs := s.passLegs p (storePart (stationOf p.crane) k.slot) }

/-- A retrieve, alone or beside a store. -/
def retrieveResult (store : Option StorePick) (b : RetrievePick) : PassResult :=
  { storeTag := store.map (·.tag), storeSerial := store.map (·.serial), storeSlot := store.map (·.slot),
    retrieveTag := some b.tag, retrieveSerial := some b.serial, relocation := b.relocation, legs := b.legs }

/-- The decision (R110). -/
def decision (s : State) (p : Pass) : Option PassResult :=
  match p.stage with
  | .storeOnly k => some (s.storeResult p k)
  | .retrieve (some k) _ (some b) =>
    if b.score ≤ (s.policyOf (aisleOf p.crane)).dualLimit then some (retrieveResult (some k) b)
    else some (s.storeResult p k)
  | .retrieve (some k) _ none => some (s.storeResult p k)
  | .retrieve none _ (some b) => some (retrieveResult none b)
  | _ => none

/-! ## The re-check (R117) -/

/-- The checks of the store part. The job must be the one the pass met: another with its tag is not it (log entry 15). -/
def storeValid (s : State) (x : Crane) (r : PassResult) : Bool :=
  match r.storeTag, r.storeSlot with
  | some tag, some a =>
    match (s.pool.stationQueue (stationOf x)).head? with
    | some j =>
      j.tag == tag && some j.serial == r.storeSerial && j.state == .pending && decide (a ∈ j.candidates)
        && s.storeEligible a
    | none => false
  | _, _ => true

/-- The checks of the retrieve part. The job must be the one the pass met, a retrieve whose FRONT slot is the relocation's
(log entry 15). -/
def retrieveValid (s : State) (r : PassResult) : Bool :=
  match r.retrieveTag with
  | none => true
  | some tag =>
    match s.pool.find tag with
    | none => false
    | some j =>
      some j.serial == r.retrieveSerial && j.isRetrieve && j.state == .pending && (s.pool.waitsOn j).isNone
        && (j.blocker?.isSome == r.relocation.isSome)
        && (match r.relocation with
            | some q => j.slot?.map Slot.partner == some q.front && s.spareUsable q.spare r.storeSlot
            | none => true)
        && s.partnerEligible j && s.laneEligible j

/-- The span answer for the whole route, from the crane's position as it stands (R60, R117). -/
def resultAnswer (s : State) (x : Crane) (r : PassResult) : SpanAnswer :=
  s.spanAnswer x (s.crane x).position r.places

/-- The answer by which a valid result is dispatched; INELIGIBLE when any check fails (R117). -/
def recheck (s : State) (p : Pass) (r : PassResult) : SpanAnswer :=
  if (s.crane p.crane).position == p.latch.position && s.storeValid p.crane r && s.retrieveValid r then
    s.resultAnswer p.crane r
  else .ineligible

/-! ## The dispatch (R118) -/

/-- The dispatch conversions of a store (R49). -/
def convertStore (t : List Entry) (r : PassResult) : List Entry :=
  match r.storeTag, r.storeSlot with
  | some tag, some a => addEntry t a (.storeDest tag)
  | _, _ => t

/-- The dispatch conversions of a relocation (R49). -/
def convertRetrieve (t : List Entry) (r : PassResult) : List Entry :=
  match r.retrieveTag, r.relocation with
  | some tag, some q => claimSpare (addEntry t q.front (.blockerSource tag)) q.spare tag
  | _, _ => t

/-- The jobs of a result are ORDERED, the store with its chosen slot and its stalled mark clear (R26). -/
def orderJobs (s : State) (r : PassResult) : State :=
  let s1 := match r.storeTag with
    | some tag => s.modJobOf tag fun j => (({ j with state := .ordered }).setChosen r.storeSlot).setStalled false
    | none => s
  match r.retrieveTag with
  | some tag => s1.modJobOf tag fun j => { j with state := .ordered }
  | none => s1

/-- The JOB order of a result (R118, R130). -/
def jobOrder (s : State) (st : OrderState) (r : PassResult) : Order :=
  { Order.new s.nextId .job st r.legs with
    storeTag := r.storeTag, retrieveTag := r.retrieveTag, relocation := r.relocation }

/-- A claim without a yield: the span is set and the order sent (R62). -/
def dispatchSent (s : State) (x : Crane) (r : PassResult) : State :=
  ((s.placeOrder x (s.jobOrder .sent r)).claimSpan x (s.crane x).position r.places).sendOrder x

/-- The YIELD order for the sibling y of the waiting crane x (R61, R63, R85, R131). -/
def sendYield (s : State) (p : Pass) (x y : Crane) (t : Nat) : State :=
  match (s.crane y).position with
  | none => s
  | some q =>
    let place : Place := .rail (aisleOf y) t q.level
    let v : Values := { p.latch.values with trim := (s.trimOf y).trim }
    let leg := s.makeLeg v (aisleOf y) (.position q) place .stay
    let o := { Order.new s.nextId .yield .sent [leg] with yieldPartner := some x }
    ((((s.placeOrder y o).claimSpan y (some q) [place]).setPair (aisleOf x)
      (some { waiting := x, yielding := y, target := t })).sendOrder y)

/-- A claim with a yield: the order waits, and the sibling is asked to step aside (R63). -/
def dispatchWaiting (s : State) (p : Pass) (x : Crane) (t : Nat) (r : PassResult) : State :=
  (((s.placeOrder x (s.jobOrder .awaitYield r)).claimSpan x (s.crane x).position r.places).setCraneState x
    .awaitYield).sendYield p x (sibling x) t

/-- A valid result is dispatched (R118). -/
def dispatch (s : State) (p : Pass) (r : PassResult) (a : SpanAnswer) : State :=
  let s1 := (s.setTable (convertRetrieve (convertStore s.table r) r)).orderJobs r
  let s2 := match a with
    | .yieldEligible t => s1.dispatchWaiting p p.crane t r
    | _ => s1.dispatchSent p.crane r
  (s2.setPass none).engineRun

/-! ## The ends of a pass -/

/-- The crane's request ends with the crane IDLE and starved (R115, R119); the note or a home request triggers it (R121).
DESIGN CHOICE (log entry 44): that trigger acts before the engine, now FREE, takes its next crane (R100). -/
def endStarved (s : State) (p : Pass) : State :=
  let s1 := (s.setPass none).modCrane p.crane fun c => { c with state := .idle, starved := true }
  (if p.note || (s1.crane p.crane).homeRequest then s1.trigger p.crane else s1).engineRun

/-- A hold at completion: the crane returns to the head of the queue (R116). -/
def putAside (s : State) (p : Pass) : State :=
  State.engineRun { s with engine :=
    { queue := { crane := p.crane, invalid := p.invalid } :: s.engine.queue, pass := none } }

/-- An invalid result: another pass, or the end of the request at the third (R119). -/
def rerun (s : State) (p : Pass) : State :=
  if p.invalid + 1 < Config.passesPerRequest then s.startPass p.crane (p.invalid + 1) p.note else s.endStarved p

/-- The pass reaches its decision, which is dealt with in the same step (R115 to R119). -/
def completePass (s : State) (p : Pass) : State :=
  match s.decision p with
  | none => s.endStarved p
  | some r =>
    if s.held p.crane then s.putAside p
    else
      match s.recheck p r with
      | .ineligible => s.rerun p
      | a => s.dispatch p r a

/-- PASS_COMPLETION: the items left, then the decision. With no pass in flight there is nothing to complete. -/
def passCompletes (s : State) : State :=
  let s1 := passItems s.itemBound s
  match s1.engine.pass with
  | some p => s1.completePass p
  | none => s1

end State

/-- PASS_COMPLETION (R115 to R119). -/
def execPassCompletion (s : State) : Host.Outcome State Fault Refusal := .next s.passCompletes

end Sys2Proof.Machine
end

