-- ==== Sys2Proof/Machine/SupervisionRequests.lean ====
section
/-! DEFINITION. The requests of the supervision unit and of the notice unit: SET TIMING, HOLD, RESUME, SET NOTICES, CLEAR FLAGS, SET
WATCH (R166, R172, R173, R185 to R187). -/

namespace Sys2Proof.Machine

namespace State

/-! ## SET TIMING -/

/-- The settings as taken (R166). -/
def takenTiming (code : Fin 4) (silence accept host : Nat) (auto : Bool) : Timing :=
  { code := code, silenceLimit := max 2 silence, acceptLimit := max 1 accept, hostLimit := host, autoRelease := auto }

/-- The settings replaced in one step; a new period code restarts the interval (R166). -/
def replaceTiming (s : State) (t : Timing) : State :=
  { s with sup := { s.sup with
      timing := t
      paceElapsed := if t.code = s.sup.timing.code then s.sup.paceElapsed else 0 } }

/-- SET TIMING with its checks (R166). -/
def setTiming (s : State) (r : Byte × Nat × Nat × Nat × Bool) : Answer :=
  s.ranged (asFin 4 r.1) fun s code =>
    let t := takenTiming code r.2.1 r.2.2.1 r.2.2.2.1 r.2.2.2.2
    (s.replaceTiming t).okWith (.timing t)

/-! ## HOLD and RESUME -/

/-- A scope's cause is set (R172). -/
def causeSet (s : State) (sc : HoldScope) : Bool :=
  match sc with
  | .global => s.sup.holdCommand
  | .aisle a => s.aisleHeld a

/-- A scope's cause is set, with the hold half of the record (R172, R174). -/
def setCause (s : State) (sc : HoldScope) : State :=
  match sc with
  | .global => { s with sup := { s.sup with holdCommand := true } }.recordHold .command none
  | .aisle a =>
    { s with sup := { s.sup with holdAisle := upd s.sup.holdAisle a true } }.recordHold .aisle (some a)

/-- HOLD with its checks (R172). -/
def holdRequest (s : State) (b : Byte) : Answer :=
  s.ranged (holdScopeOf b) fun s sc => if s.causeSet sc then s.ok else (s.setCause sc).holdChanged.ok

/-- A RESUME names a cause that is set (R173). -/
def causeToClear (s : State) (sc : HoldScope) : Bool :=
  match sc with
  | .global => s.sup.holdCommand || s.sup.holdSilence
  | .aisle a => s.aisleHeld a

/-- A scope's causes cleared, with the release half of the record (R173, R174). -/
def clearCauses (s : State) (sc : HoldScope) : State :=
  match sc with
  | .global =>
    { s with sup := { s.sup with holdCommand := false, holdSilence := false } }.recordRelease .command none
  | .aisle a =>
    { s with sup := { s.sup with holdAisle := upd s.sup.holdAisle a false } }.recordRelease .command (some a)

/-- The IDLE cranes a release frees (R173): all of them for GLOBAL, those of the aisle for an aisle scope. A crane under
evaluation is not among them, so a release sets no note (DEDUCED, log entry 39). -/
def freedBy (s : State) (sc : HoldScope) : List Crane :=
  match sc with
  | .global => s.freeIdle
  | .aisle a => s.freeIdle.filter (fun x => aisleOf x == a)

/-- RESUME with its checks (R173). -/
def resumeRequest (s : State) (b : Byte) : Answer :=
  s.ranged (holdScopeOf b) fun s sc =>
    if s.causeToClear sc then
      let s1 := (s.clearCauses sc).holdChanged
      (s1.afterRelease (s1.freedBy sc)).ok
    else s.ok

/-! ## SET NOTICES, CLEAR FLAGS, SET WATCH -/

/-- The settings of one class replaced (R185). -/
def applyEntry (u : NoticeUnit) (e : NoticeEntry) : NoticeUnit :=
  u.modClass e.cls fun c => { c with notice := e.notice, level := e.level, clearOnSend := e.clearOnSend }

/-- SET NOTICES with its checks (R185). -/
def setNoticeEntries (s : State) (es : List NoticeEntry) : Answer :=
  if es.any (fun e => decide (3 < e.level)) then s.refuse .range
  else State.ok { s with notices := es.foldl applyEntry s.notices }

/-- The eleven flags. -/
def flagsOf (u : NoticeUnit) : List Bool := u.classes.toList.map (·.flag)

/-- The flags and missed marks of the marked classes cleared (R186). -/
def clearMarked (u : NoticeUnit) (marks : Nat) : NoticeUnit :=
  allClasses.foldl (fun v k => if markOf marks k then v.modClass k clearFlag else v) u

/-- CLEAR FLAGS (R186). -/
def clearFlags (s : State) (marks : Nat) : Answer :=
  okWith { s with notices := clearMarked s.notices marks } (.flags (flagsOf (clearMarked s.notices marks)))

/-- SET WATCH with its checks (R187). -/
def setWatch (s : State) (r : Nat × Byte) : Answer :=
  s.ranged (edgeModeOf r.2) fun s m =>
    okWith { s with pool := { s.pool with watchThreshold := min Config.poolSize r.1, watchEdges := m } }
      (.threshold (min Config.poolSize r.1))

end State

/-! ## The commands -/

/-- SET_TIMING (R166). -/
def execSetTiming (body : List Byte) (s : State) : Host.Outcome State Fault Refusal :=
  .next (s.takeRequest 0x18#8 body (State.reading readSetTiming State.setTiming))

/-- HOLD (R172). -/
def execHold (body : List Byte) (s : State) : Host.Outcome State Fault Refusal :=
  .next (s.takeRequest 0x19#8 body (State.reading readByte State.holdRequest))

/-- RESUME (R173). -/
def execResume (body : List Byte) (s : State) : Host.Outcome State Fault Refusal :=
  .next (s.takeRequest 0x1A#8 body (State.reading readByte State.resumeRequest))

/-- SET_NOTICES (R185). -/
def execSetNotices (body : List Byte) (s : State) : Host.Outcome State Fault Refusal :=
  .next (s.takeRequest 0x1B#8 body (State.reading readSetNotices State.setNoticeEntries))

/-- CLEAR_FLAGS (R186). -/
def execClearFlags (body : List Byte) (s : State) : Host.Outcome State Fault Refusal :=
  .next (s.takeRequest 0x1C#8 body (State.reading readClearFlags State.clearFlags))

/-- SET_WATCH (R187). -/
def execSetWatch (body : List Byte) (s : State) : Host.Outcome State Fault Refusal :=
  .next (s.takeRequest 0x1D#8 body (State.reading readSetWatch State.setWatch))

end Sys2Proof.Machine
end

