-- ==== Sys2Proof/Machine/StatusReset.lean ====
section
/-! DEFINITION. QUERY STATUS, RESET with both scopes, the requests no kind names, and power-on (R149, R150, R177, R180, R188 and
the reset values each block states). -/

namespace Sys2Proof.Machine

/-- An order that has been sent (R150). -/
def Order.wasSent (o : Order) : Bool := o.state != .awaitYield

/-- A crane context after RESET with scope JOBS (R150). -/
def CraneCtx.resetJobs (c : CraneCtx) : CraneCtx :=
  let d := { c with order := none, homeRequest := false, starved := false }
  match c.state with
  | .offline => d
  | _ => { d with state := .syncing, timeouts := 0, stateCause := none }

/-- A trim with its accumulators cleared (R91). -/
def Trim.cleared (t : Trim) : Trim := { t with legs := 0, predicted := 0, actual := 0 }

namespace State

/-! ## QUERY STATUS -/

def missedOf (u : NoticeUnit) : List Bool := u.classes.toList.map (·.missed)

/-- Each flag taken together with its class's notice enable (R188). -/
def enabledFlagsOf (u : NoticeUnit) : List Bool := u.classes.toList.map (fun c => c.flag && c.notice)

def jobsIn (s : State) (st : JobState) : Nat := s.pool.jobs.countP (fun j => j.state == st)

/-- The crane under evaluation and its pass number (R102). -/
def evaluatingNow (s : State) : Option (Crane × Nat) := s.engine.pass.map fun p => (p.crane, p.invalid + 1)

def statusReport (s : State) : StatusReport :=
  { flags := flagsOf s.notices, enabledFlags := enabledFlagsOf s.notices, missed := missedOf s.notices,
    noticesQueued := s.notices.queue.length,
    noticesByLevel := [0, 1, 2, 3].map (fun v => s.notices.queue.countP (fun n => n.level == v)),
    evaluating := s.evaluatingNow, queueLength := s.engine.queue.length, holdCommand := s.sup.holdCommand,
    holdSilence := s.sup.holdSilence, holdAisle := s.sup.holdAisle, record := s.sup.record,
    liveJobs := s.pool.jobs.length, pendingJobs := s.jobsIn .pending, orderedJobs := s.jobsIn .ordered,
    activeJobs := s.jobsIn .active, jobClock := s.sup.jobClock, durationClock := s.sup.durationClock,
    timing := s.sup.timing, hostSilence := s.sup.hostSilence, roundCount := s.sup.roundCount,
    linkErrors := s.port.linkErrors, lineErrors := allCranes.map (fun x => (s.crane x).lineErrors) }

/-- QUERY STATUS: a body of the reference alone (R188). -/
def queryStatus (s : State) (fields : List Byte) : Answer :=
  match fields with
  | [] => s.okWith (.status s.statusReport)
  | _ => s.refuse .malformed

/-! ## RESET -/

/-- RESET with scope ALL: as power-on, apart from the line rate and from the receivers, the transmitter and the reply
stream, which run on (R180). -/
def resetAll (s : State) : State :=
  { State.powerOn s.port.lineRate with
    pending := s.pending
    lines := s.lines
    port := { s.port with linkErrors := 0 } }

/-- The crane's span under RESET with scope JOBS: kept, but for a crane in AWAIT YIELD, which has not moved (R74). -/
def resetSpan (s : State) (x : Crane) : State :=
  match (s.crane x).state, (s.crane x).position with
  | .awaitYield, some p => s.setSpan x (.bays p.bay p.bay)
  | _, _ => s

/-- ABORT to a crane whose order has been sent (R150). -/
def abortSent (s : State) (x : Crane) : State :=
  match (s.crane x).order with
  | some o => if o.wasSent then s.emit x abortFrame else s
  | none => s

/-- An enrolled crane is polled and its silence count cleared (R150). -/
def pollEnrolled (s : State) (x : Crane) : State :=
  if s.enrolled x then (s.setSilence x 0).emit x pollFrame else s

/-- One crane under RESET with scope JOBS (R74, R91, R150). -/
def resetCrane (s : State) (x : Crane) : State :=
  let s1 := ((s.abortSent x).resetSpan x).pollEnrolled x
  (s1.modCrane x CraneCtx.resetJobs).setTrimOf x (s1.trimOf x).cleared

/-- What RESET with scope JOBS does to the blocks that hold no crane (R39, R56, R74, R122, R151, R169, R171, R181). -/
def resetRest (s : State) : State :=
  { s with
    pool := { s.pool with jobs := [] }
    table := []
    spans := { s.spans with pair := .replicate 8 none }
    engine := .powerOn
    lanes := .replicate 8 .powerOn
    sup := { s.sup with holdCommand := true, hostSilence := 0 }
    notices := { allClasses.foldl (fun u k => u.modClass k clearFlag) s.notices with queue := [] } }

/-- RESET with scope JOBS (R180). -/
def resetJobs (s : State) : State := (allCranes.foldl resetCrane s).resetRest

/-- RESET with its checks (R180). -/
def resetRequest (s : State) (b : Byte) : Answer :=
  s.ranged (resetScopeOf b) fun s sc =>
    match sc with
    | .all => s.resetAll.ok
    | .jobs => s.resetJobs.ok

/-! ## Power-on -/

/-- Power-on: every block in its power-on state, with the strap as it stands. The commands that wait and the bytes the
other ends have put on the lines are not the part's (log entry 2). -/
def powerUp (s : State) (strap : LineRate) : State :=
  { State.powerOn strap with
    pending := s.pending
    lines := { Lines.powerOn with hostIn := s.lines.hostIn, craneIn := s.lines.craneIn } }

end State

/-! ## The commands -/

/-- QUERY_STATUS (R188). -/
def execQueryStatus (body : List Byte) (s : State) : Host.Outcome State Fault Refusal :=
  .next (s.takeRequest 0x1E#8 body State.queryStatus)

/-- RESET (R180). -/
def execReset (body : List Byte) (s : State) : Host.Outcome State Fault Refusal :=
  .next (s.takeRequest 0x1F#8 body (State.reading readByte State.resetRequest))

/-- UNKNOWN_REQUEST: the port answers MALFORMED itself (R177). -/
def execUnknownRequest (kind : Byte) (body : List Byte) (s : State) : Host.Outcome State Fault Refusal :=
  .next (s.takeRequest kind body (fun t _ => t.refuse .malformed))

/-- POWER_ON (R149). -/
def execPowerOn (strap : LineRate) (s : State) : Host.Outcome State Fault Refusal := .next (s.powerUp strap)

end Sys2Proof.Machine
end

