-- ==== Sys2Proof/Machine/Dispatch.lean ====
section
/-! DEFINITION. One arm for each row of spec/opcode_table.json: the command's effect on everything but the queue. -/

namespace Sys2Proof.Machine

/-- The effect of a command. -/
def exec (i : Instr) (s : State) : Host.Outcome State Fault Refusal :=
  match i with
  | .powerOn strap => Sys2Proof.Machine.execPowerOn strap s
  | .admitStore body => Sys2Proof.Machine.execAdmitStore body s
  | .admitRetrieve body => Sys2Proof.Machine.execAdmitRetrieve body s
  | .amendStore body => Sys2Proof.Machine.execAmendStore body s
  | .cancelJob body => Sys2Proof.Machine.execCancelJob body s
  | .queryJob body => Sys2Proof.Machine.execQueryJob body s
  | .enrolCrane body => Sys2Proof.Machine.execEnrolCrane body s
  | .withdrawCrane body => Sys2Proof.Machine.execWithdrawCrane body s
  | .homeCrane body => Sys2Proof.Machine.execHomeCrane body s
  | .abandonOrder body => Sys2Proof.Machine.execAbandonOrder body s
  | .queryCrane body => Sys2Proof.Machine.execQueryCrane body s
  | .setTrim body => Sys2Proof.Machine.execSetTrim body s
  | .setAisleGeometry body => Sys2Proof.Machine.execSetAisleGeometry body s
  | .setAislePolicy body => Sys2Proof.Machine.execSetAislePolicy body s
  | .loadWeights body => Sys2Proof.Machine.execLoadWeights body s
  | .queryAisle body => Sys2Proof.Machine.execQueryAisle body s
  | .setProfile body => Sys2Proof.Machine.execSetProfile body s
  | .setScoring body => Sys2Proof.Machine.execSetScoring body s
  | .addSpare body => Sys2Proof.Machine.execAddSpare body s
  | .removeSpare body => Sys2Proof.Machine.execRemoveSpare body s
  | .laneOpen body => Sys2Proof.Machine.execLaneOpen body s
  | .laneClose body => Sys2Proof.Machine.execLaneClose body s
  | .skipSequence body => Sys2Proof.Machine.execSkipSequence body s
  | .queryLane body => Sys2Proof.Machine.execQueryLane body s
  | .setTiming body => Sys2Proof.Machine.execSetTiming body s
  | .hold body => Sys2Proof.Machine.execHold body s
  | .resume body => Sys2Proof.Machine.execResume body s
  | .setNotices body => Sys2Proof.Machine.execSetNotices body s
  | .clearFlags body => Sys2Proof.Machine.execClearFlags body s
  | .setWatch body => Sys2Proof.Machine.execSetWatch body s
  | .queryStatus body => Sys2Proof.Machine.execQueryStatus body s
  | .reset body => Sys2Proof.Machine.execReset body s
  | .unknownRequest kind body => Sys2Proof.Machine.execUnknownRequest kind body s
  | .managementFrameDropped cause => Sys2Proof.Machine.execManagementFrameDropped cause s
  | .frameGapAbandon => Sys2Proof.Machine.execFrameGapAbandon s
  | .craneFrameDropped x => Sys2Proof.Machine.execCraneFrameDropped x s
  | .unknownCraneRecord x => Sys2Proof.Machine.execUnknownCraneRecord x s
  | .accept x id => Sys2Proof.Machine.execAccept x id s
  | .decline x id reason => Sys2Proof.Machine.execDecline x id reason s
  | .legDone x id index bay level => Sys2Proof.Machine.execLegDone x id index bay level s
  | .orderDone x id bay level => Sys2Proof.Machine.execOrderDone x id bay level s
  | .revoked x id started => Sys2Proof.Machine.execRevoked x id started s
  | .fault x code bay level id legsDone => Sys2Proof.Machine.execFault x code bay level id legsDone s
  | .faultClear x bay level => Sys2Proof.Machine.execFaultClear x bay level s
  | .status x mode id legsDone bay level aboard => Sys2Proof.Machine.execStatus x mode id legsDone bay level aboard s
  | .passCompletion => Sys2Proof.Machine.execPassCompletion s
  | .paceIntervalExpiry => Sys2Proof.Machine.execPaceIntervalExpiry s
  | .silenceLimitReached x => Sys2Proof.Machine.execSilenceLimitReached x s
  | .hostLimitReached => Sys2Proof.Machine.execHostLimitReached s
  | .acceptTimerExpiry x => Sys2Proof.Machine.execAcceptTimerExpiry x s
  | .frameTransmitComplete => Sys2Proof.Machine.execFrameTransmitComplete s

end Sys2Proof.Machine
end

