-- ==== Sys2Proof/Decode.lean ====
section
/-! DEFINITION. From the frames of the lines to commands (R177, R189, R194), and back. The rows of spec/opcode_table.json
give no bits, so no word spells a command. -/

namespace Sys2Proof

/-- The command that a word spells by the table's bits: the table gives no row any bits, so no word spells one. -/
def decodeTableWord (_nbits _w : Nat) : Option Instr := none

namespace Machine

/-! ## The management line -/

/-- The command of a valid management frame: one of the 31 request kinds, numbered 01H to 1FH (R189), or one that the port
answers itself: an unknown record type, or a body too short to hold a reference (R177). -/
def requestOf (kind : Byte) (body : List Byte) : Instr :=
  if body.length < 2 then .unknownRequest kind body
  else
    match kind.toNat with
    | 0x01 => .admitStore body
    | 0x02 => .admitRetrieve body
    | 0x03 => .amendStore body
    | 0x04 => .cancelJob body
    | 0x05 => .queryJob body
    | 0x06 => .enrolCrane body
    | 0x07 => .withdrawCrane body
    | 0x08 => .homeCrane body
    | 0x09 => .abandonOrder body
    | 0x0A => .queryCrane body
    | 0x0B => .setTrim body
    | 0x0C => .setAisleGeometry body
    | 0x0D => .setAislePolicy body
    | 0x0E => .loadWeights body
    | 0x0F => .queryAisle body
    | 0x10 => .setProfile body
    | 0x11 => .setScoring body
    | 0x12 => .addSpare body
    | 0x13 => .removeSpare body
    | 0x14 => .laneOpen body
    | 0x15 => .laneClose body
    | 0x16 => .skipSequence body
    | 0x17 => .queryLane body
    | 0x18 => .setTiming body
    | 0x19 => .hold body
    | 0x1A => .resume body
    | 0x1B => .setNotices body
    | 0x1C => .clearFlags body
    | 0x1D => .setWatch body
    | 0x1E => .queryStatus body
    | 0x1F => .reset body
    | _ => .unknownRequest kind body

/-- The record type and the body of a request. -/
def requestBytes : Instr → Option (Byte × List Byte)
  | .admitStore b => some (0x01#8, b)
  | .admitRetrieve b => some (0x02#8, b)
  | .amendStore b => some (0x03#8, b)
  | .cancelJob b => some (0x04#8, b)
  | .queryJob b => some (0x05#8, b)
  | .enrolCrane b => some (0x06#8, b)
  | .withdrawCrane b => some (0x07#8, b)
  | .homeCrane b => some (0x08#8, b)
  | .abandonOrder b => some (0x09#8, b)
  | .queryCrane b => some (0x0A#8, b)
  | .setTrim b => some (0x0B#8, b)
  | .setAisleGeometry b => some (0x0C#8, b)
  | .setAislePolicy b => some (0x0D#8, b)
  | .loadWeights b => some (0x0E#8, b)
  | .queryAisle b => some (0x0F#8, b)
  | .setProfile b => some (0x10#8, b)
  | .setScoring b => some (0x11#8, b)
  | .addSpare b => some (0x12#8, b)
  | .removeSpare b => some (0x13#8, b)
  | .laneOpen b => some (0x14#8, b)
  | .laneClose b => some (0x15#8, b)
  | .skipSequence b => some (0x16#8, b)
  | .queryLane b => some (0x17#8, b)
  | .setTiming b => some (0x18#8, b)
  | .hold b => some (0x19#8, b)
  | .resume b => some (0x1A#8, b)
  | .setNotices b => some (0x1B#8, b)
  | .clearFlags b => some (0x1C#8, b)
  | .setWatch b => some (0x1D#8, b)
  | .queryStatus b => some (0x1E#8, b)
  | .reset b => some (0x1F#8, b)
  | .unknownRequest k b => some (k, b)
  | .powerOn _ | .managementFrameDropped _ | .frameGapAbandon | .craneFrameDropped _ | .unknownCraneRecord _
  | .accept _ _ | .decline _ _ _ | .legDone _ _ _ _ _ | .orderDone _ _ _ _ | .revoked _ _ _ | .fault _ _ _ _ _ _
  | .faultClear _ _ _ | .status _ _ _ _ _ _ _ | .passCompletion | .paceIntervalExpiry | .silenceLimitReached _
  | .hostLimitReached | .acceptTimerExpiry _ | .frameTransmitComplete => none

/-! ## The crane lines -/

def statusModeOf (b : Byte) : Option StatusMode :=
  match b.toNat with
  | 0 => some .idle
  | 1 => some .busy
  | 2 => some .fault
  | _ => none

def statusModeCode : StatusMode → Nat
  | .idle => 0
  | .busy => 1
  | .fault => 2

/-- The command of a valid frame of a crane line (R194): one of the eight records, numbered 11H to 18H (R189), or one whose
type is unknown or whose body does not match its type (R128). -/
def craneRecordOf (x : Crane) (kind : Byte) (body : List Byte) : Instr :=
  match kind.toNat, body with
  | 0x11, [h, l] => .accept x (word16Of h l)
  | 0x12, [h, l, r] => if r = 0 then .unknownCraneRecord x else .decline x (word16Of h l) r
  | 0x13, [h, l, i, b, v] => .legDone x (word16Of h l) i b v
  | 0x14, [h, l, b, v] => .orderDone x (word16Of h l) b v
  | 0x15, [h, l, st] =>
    match yesNo st with
    | some started => .revoked x (word16Of h l) started
    | none => .unknownCraneRecord x
  | 0x16, [c, b, v, h, l, n] => if c = 0 then .unknownCraneRecord x else .fault x c b v (word16Of h l) n
  | 0x17, [b, v] => .faultClear x b v
  | 0x18, [m, h, l, n, b, v, a] =>
    match statusModeOf m, yesNo a with
    | some mode, some aboard => .status x mode (word16Of h l) n b v aboard
    | _, _ => .unknownCraneRecord x
  | _, _ => .unknownCraneRecord x

/-- The line, the record type and the body of a crane record (R194). -/
def craneRecordBytes : Instr → Option (Crane × Byte × List Byte)
  | .accept x id => some (x, 0x11#8, word16Bytes id)
  | .decline x id r => some (x, 0x12#8, word16Bytes id ++ [r])
  | .legDone x id i b v => some (x, 0x13#8, word16Bytes id ++ [i, b, v])
  | .orderDone x id b v => some (x, 0x14#8, word16Bytes id ++ [b, v])
  | .revoked x id st => some (x, 0x15#8, word16Bytes id ++ flagByte st)
  | .fault x c b v id n => some (x, 0x16#8, [c, b, v] ++ word16Bytes id ++ [n])
  | .faultClear x b v => some (x, 0x17#8, [b, v])
  | .status x m id n b v a => some (x, 0x18#8, byte1 (statusModeCode m) ++ word16Bytes id ++ [n, b, v] ++ flagByte a)
  | .powerOn _ | .admitStore _ | .admitRetrieve _ | .amendStore _ | .cancelJob _ | .queryJob _ | .enrolCrane _
  | .withdrawCrane _ | .homeCrane _ | .abandonOrder _ | .queryCrane _ | .setTrim _ | .setAisleGeometry _
  | .setAislePolicy _ | .loadWeights _ | .queryAisle _ | .setProfile _ | .setScoring _ | .addSpare _ | .removeSpare _
  | .laneOpen _ | .laneClose _ | .skipSequence _ | .queryLane _ | .setTiming _ | .hold _ | .resume _ | .setNotices _
  | .clearFlags _ | .setWatch _ | .queryStatus _ | .reset _ | .unknownRequest _ _ | .managementFrameDropped _
  | .frameGapAbandon | .craneFrameDropped _ | .unknownCraneRecord _ | .passCompletion | .paceIntervalExpiry
  | .silenceLimitReached _ | .hostLimitReached | .acceptTimerExpiry _ | .frameTransmitComplete => none

/-! ## What a receiver brings about (R175, R128) -/

/-- The commands of a byte of the management line. -/
def managementCommand : RxResult → List Instr
  | .nothing => []
  | .complete kind body => [requestOf kind body]
  | .dropped cause => [.managementFrameDropped cause]

/-- The commands of a byte of a crane line. -/
def craneCommand (x : Crane) : RxResult → List Instr
  | .nothing => []
  | .complete kind body => [craneRecordOf x kind body]
  | .dropped _ => [.craneFrameDropped x]

end Machine

end Sys2Proof
end

