-- ==== Sys2Proof/Machine/Idle.lean ====
section
/-! DEFINITION. What the part does by itself while no command waits: the receivers take bytes, the engine examines an item of its
pass, the clocks run (R104, R163, R165, R175). DESIGN CHOICE (log entry 1): one small unit for each step. -/

namespace Sys2Proof.Machine

/-- A receiver after a byte. -/
def Receiver.take (r : Receiver) (b : LineByte) : Receiver := { state := (rxByte r.state b).1, gap := 0 }

/-- A receiver after one millisecond without a byte: the gap runs in any state but HUNT (R175). -/
def Receiver.wait (r : Receiver) : Receiver :=
  match r.state with
  | .hunt => { r with gap := 0 }
  | _ => { r with gap := r.gap + 1 }

/-- The gap since the last byte of a frame is more than 20 ms (R175). -/
def Receiver.expired (r : Receiver) : Bool := r.state != .hunt && decide (Config.frameGapMs < r.gap)

namespace State

/-- Commands join the end of the queue. -/
def append (s : State) (cs : List Instr) : State := { s with pending := s.pending ++ cs }

/-- One byte of the management line. -/
def receiveHost (s : State) (b : LineByte) (rest : List LineByte) : State :=
  append
    { s with port := { s.port with rx := s.port.rx.take b }, lines := { s.lines with hostIn := rest } }
    (managementCommand (rxByte s.port.rx.state b).2)

/-- One byte of a crane line. -/
def receiveCrane (s : State) (x : Crane) (b : LineByte) (rest : List LineByte) : State :=
  append
    { s with lines := { s.lines with
        craneRx := upd s.lines.craneRx x ((s.lines.craneRx.get x).take b)
        craneIn := upd s.lines.craneIn x rest } }
    (craneCommand x (rxByte (s.lines.craneRx.get x).state b).2)

/-- The lowest crane line that holds a byte, with its bytes. -/
def craneByte (s : State) : Option (Crane × LineByte × List LineByte) :=
  allCranes.findSome? fun x =>
    match s.lines.craneIn.get x with
    | b :: rest => some (x, b, rest)
    | [] => none

/-- The receivers after one millisecond without a byte. -/
def waitLines (s : State) : State :=
  { s with
    port := { s.port with rx := s.port.rx.wait }
    lines := { s.lines with craneRx := allCranes.foldl (fun v x => upd v x (v.get x).wait) s.lines.craneRx } }

/-- The frames that a gap abandons (R175). -/
def gapCommands (s : State) : List Instr :=
  (if s.port.rx.expired then [.frameGapAbandon] else [])
    ++ (allCranes.filter (fun x => (s.lines.craneRx.get x).expired)).map .craneFrameDropped

/-- The pace interval timer expires at the end of its interval (R163). -/
def paceCommands (s : State) : List Instr :=
  if Config.paceMs s.sup.timing.code ≤ s.sup.paceElapsed then [.paceIntervalExpiry] else []

/-- The duration clock and the pace interval timer run on by one millisecond (R163, R165). -/
def runClocks (s : State) : State :=
  { s with sup := { s.sup with
      durationClock := s.sup.durationClock + 1#32, paceElapsed := s.sup.paceElapsed + 1 } }

/-- One millisecond. -/
def tick (s : State) : State :=
  let s1 := s.runClocks.waitLines
  s1.append (s1.paceCommands ++ s1.gapCommands)

/-- The engine examines one item of its pass; with none left the pass completes (R104). -/
def workPass (s : State) (p : Pass) : State :=
  match s.passItem p with
  | some t => t
  | none => s.append [.passCompletion]

/-- One step of the part with no command waiting: a byte of the management line, else of a crane line, else an item of
the pass in flight, else a millisecond. -/
def idle (s : State) : State :=
  match s.lines.hostIn, s.craneByte, s.engine.pass with
  | b :: rest, _, _ => s.receiveHost b rest
  | [], some (x, b, rest), _ => s.receiveCrane x b rest
  | [], none, some p => s.workPass p
  | [], none, none => s.tick

end State

end Sys2Proof.Machine
end

