-- ==== Sys2Proof/Safety.lean ====
section
/-! DEFINITION. What the part never leaves: the bounds that the spec states as laws, and that every step keeps. -/

namespace Sys2Proof.Machine

namespace State

/-- The trim of every crane lies within 512 to 2048 (R91). -/
def trimsInLaw (s : State) : Prop := ∀ x : Crane, 512 ≤ (s.trimOf x).trim ∧ (s.trimOf x).trim ≤ 2048

/-- The notice queue never holds more than 32 notices (R183). -/
def noticesInLaw (s : State) : Prop := s.notices.queue.length ≤ 32

/-- The reply stream holds up to 16 replies (R178). -/
def repliesInLaw (s : State) : Prop := s.port.replies.length ≤ 16

/-- The weighting table is in its canonical form, so that equal tables are equal data (R11). -/
def weightsInLaw (s : State) : Prop := Weights.wf s.cost.weights = true

/-- An entry of the pass request queue is a QUEUED crane that is not under evaluation, no crane has two, and the crane under
evaluation is QUEUED (R98, R99). -/
def queueInLaw (s : State) : Prop :=
  (∀ e ∈ s.engine.queue, (s.crane e.crane).state = .queued ∧ s.underEvaluation e.crane = false)
    ∧ (s.engine.queue.map (·.crane)).Nodup
    ∧ ∀ p, s.engine.pass = some p → (s.crane p.crane).state = .queued

/-- Which cranes hold an order (R124): a crane in AWAIT YIELD, ORDERED, RUNNING, YIELDING or HOMING does, one in OFFLINE,
SYNCING, IDLE or QUEUED does not; an order is in AWAIT YIELD just when its crane is; and a yield partner is the sibling,
in AWAIT YIELD (R63). -/
def ordersInLaw (s : State) : Prop :=
  s.queueInLaw
    ∧ (∀ x, (s.crane x).state ∈ [.awaitYield, .ordered, .running, .yielding, .homing] → (s.crane x).order ≠ none)
    ∧ (∀ x, (s.crane x).state ∈ [.offline, .syncing, .idle, .queued] → (s.crane x).order = none)
    ∧ (∀ x o, (s.crane x).order = some o → (o.state = .awaitYield ↔ (s.crane x).state = .awaitYield))
    ∧ ∀ y o w, (s.crane y).order = some o → o.yieldPartner = some w →
        w = sibling y ∧ (s.crane w).state = .awaitYield

/-- No two live jobs share a tag or a pallet, the pool holds up to 320 jobs and a station's queue up to 8 (R20, R21). -/
def poolInLaw (s : State) : Prop :=
  (s.pool.jobs.map (·.tag)).Nodup ∧ (s.pool.jobs.map (·.pallet)).Nodup ∧ s.pool.jobs.length ≤ 320
    ∧ ∀ st : Station, (s.pool.stationQueue st).length ≤ 8

/-- The job state that an order gives its jobs (R26, R130): ORDERED until the crane has started it, then ACTIVE. -/
def jobStateUnder (o : Order) : JobState :=
  match o.state with
  | .awaitYield | .sent | .revoking => .ordered
  | .running | .suspended => .active

/-- The pairing of orders and jobs (R130): only a JOB order has jobs, its store tag names a live store and its retrieve tag a live
retrieve, each in the state the order gives it; no job is in two orders, and a job in none is PENDING. -/
def pairingInLaw (s : State) : Prop :=
  (∀ x o, (s.crane x).order = some o →
      (o.kind ≠ .job → o.tags = [])
      ∧ (∀ t, o.storeTag = some t →
          ∃ j ∈ s.pool.jobs, j.tag = t ∧ j.isRetrieve = false ∧ j.state = jobStateUnder o)
      ∧ ∀ t, o.retrieveTag = some t →
          ∃ j ∈ s.pool.jobs, j.tag = t ∧ j.isRetrieve = true ∧ j.state = jobStateUnder o)
    ∧ (∀ x y o q t, (s.crane x).order = some o → (s.crane y).order = some q → t ∈ o.tags → t ∈ q.tags → x = y)
    ∧ ∀ j ∈ s.pool.jobs, j.state ≠ .pending → ∃ x o, (s.crane x).order = some o ∧ j.tag ∈ o.tags

/-- The law of the reservation table (R40 to R42, R49): one entry a slot; no use twice but SPARE FREE; up to 16 spares an aisle; a
live retrieve has its RETRIEVE SOURCE at its slot, and one with a blocker stands REAR in a double-deep aisle; and every
owned entry is its owner's: a live retrieve's, or that of an order that stores or relocates there. -/
def tableInLaw (s : State) : Prop :=
  (s.table.map (·.slot)).Nodup
    ∧ ((s.table.map (·.use)).filter (· != .spareFree)).Nodup
    ∧ (∀ a, (Table.spareList s.table a).length ≤ 16)
    ∧ (∀ j ∈ s.pool.jobs, ∀ a, j.slot? = some a →
        { slot := a, use := .retrieveSource j.tag } ∈ s.table
        ∧ (j.blocker? ≠ none → a.depth = .rear ∧ (s.geometryOf a.aisle).doubleDeep = true))
    ∧ ∀ e ∈ s.table,
        match e.use with
        | .spareFree => True
        | .retrieveSource t => ∃ j ∈ s.pool.jobs, j.tag = t ∧ j.slot? = some e.slot
        | .storeDest t => ∃ x o, (s.crane x).order = some o ∧ o.storeTag = some t
        | .blockerSource t =>
          ∃ x o r, (s.crane x).order = some o ∧ o.retrieveTag = some t ∧ o.relocation = some r ∧ r.front = e.slot
        | .spareInUse t =>
          ∃ x o r, (s.crane x).order = some o ∧ o.retrieveTag = some t ∧ o.relocation = some r ∧ r.spare = e.slot

/-- The law of the work in hand: the pool, the orders, their pairing and the reservation table. -/
def workInLaw (s : State) : Prop := s.poolInLaw ∧ s.ordersInLaw ∧ s.pairingInLaw ∧ s.tableInLaw

/-- The law of the lanes (R151, R155): a live job that names a lane names an OPEN lane with a sequence that next due has not
passed and that is not delivered; no two live jobs share one; the live count counts them; and the delivered set holds
sequences 1 to 31 ahead. -/
def lanesInLaw (s : State) : Prop :=
  (s.pool.jobs.filterMap Job.lane?).Nodup
    ∧ (∀ j ∈ s.pool.jobs, ∀ l d, j.lane? = some (l, d) →
        (s.laneOf l).opened = true ∧ ahead d (s.laneOf l).nextDue < 32768 ∧ d ∉ (s.laneOf l).delivered)
    ∧ ∀ l, (s.laneOf l).liveJobs = s.pool.jobs.countP (fun j => j.lane?.any (fun n => n.1 == l))
        ∧ 1 ≤ (s.laneOf l).window ∧ (s.laneOf l).window ≤ 32 ∧ (s.laneOf l).delivered.Nodup
        ∧ ∀ d ∈ (s.laneOf l).delivered, 1 ≤ ahead d (s.laneOf l).nextDue ∧ ahead d (s.laneOf l).nextDue ≤ 31

/-- A span that is an interval is one, and a known position lies within it (R57, R58, R68). -/
def spansInLaw (s : State) : Prop :=
  ∀ (x : Crane) (lo hi : Nat), s.spanOf x = .bays lo hi →
    lo ≤ hi ∧ ∀ p, (s.crane x).position = some p → lo ≤ p.bay ∧ p.bay ≤ hi

/-- The cranes of an aisle are separated by more than the gap (R59). -/
def separatedAt (s : State) (a : Aisle) : Prop :=
  separated (s.geometryOf a) (s.spanOf (craneAt a .near)) (s.spanOf (craneAt a .far)) = true

/-- A yield pair (R57, R63): the waiting crane is in AWAIT YIELD, its sibling is YIELDING for it, its YIELD order SENT or
RUNNING, and the yield span is separated from the waiting crane's position bay. -/
def pairInLaw (s : State) (r : YieldPair) : Prop :=
  r.yielding = sibling r.waiting ∧ (s.crane r.waiting).state = .awaitYield ∧ (s.crane r.yielding).state = .yielding
    ∧ (∃ o, (s.crane r.yielding).order = some o ∧ o.kind = .yield ∧ (o.state = .sent ∨ o.state = .running)
        ∧ o.yieldPartner = some r.waiting)
    ∧ ∃ p, (s.crane r.waiting).position = some p ∧ (s.setSpan r.waiting (.bays p.bay p.bay)).separatedAt (aisleOf r.waiting)

/-- The law of the rail (R2, R57 to R59, the table of spans by crane state): a known position lies on the rail; an OFFLINE crane has span NONE and no other has; a
position is known just when the span is an interval; an IDLE or QUEUED crane holds its position bay; a crane with an order
has a known position; a crane waits or yields for its sibling just when the aisle's yield pair says so; and the spans of
two cranes whose positions are known are separated, except those of a yield pair. -/
def railInLaw (s : State) : Prop :=
  s.ordersInLaw ∧ s.spansInLaw
    ∧ (∀ x p, (s.crane x).position = some p → p.bay ≤ (s.geometryOf (aisleOf x)).bays + 1)
    ∧ (∀ x, s.spanOf x = .absent ↔ (s.crane x).state = .offline)
    ∧ (∀ x, (s.crane x).position ≠ none ↔ ∃ lo hi, s.spanOf x = .bays lo hi)
    ∧ (∀ x, (s.crane x).state ∈ [.idle, .queued] →
        ∃ p, (s.crane x).position = some p ∧ s.spanOf x = .bays p.bay p.bay)
    ∧ (∀ x, (s.crane x).order ≠ none → (s.crane x).position ≠ none)
    ∧ (∀ x, (s.crane x).state = .awaitYield → ∃ r, s.pairOf (aisleOf x) = some r ∧ r.waiting = x)
    ∧ (∀ y o w, (s.crane y).order = some o → o.yieldPartner = some w →
        ∃ r, s.pairOf (aisleOf y) = some r ∧ r.waiting = w)
    ∧ ∀ a,
        match s.pairOf a with
        | some r => aisleOf r.waiting = a ∧ s.pairInLaw r
        | none =>
          (s.crane (craneAt a .near)).position ≠ none → (s.crane (craneAt a .far)).position ≠ none → s.separatedAt a

/-- Every span that is an interval lies on the rail of its crane's aisle (R57). -/
def spansOnRail (s : State) : Prop :=
  ∀ x lo hi, s.spanOf x = .bays lo hi → hi ≤ (s.geometryOf (aisleOf x)).bays + 1

/-- A slot of an aisle that is in its geometry (R3). -/
def slotHeld (s : State) (a : Aisle) (c : Slot) : Prop := s.inGeometry c = true ∧ c.aisle = a

/-- A place that a route of an aisle's crane may name: a slot in the geometry, or a station (R3, R111). -/
def routePlace (s : State) (a : Aisle) (p : Place) : Prop :=
  match p with
  | .slot c => s.slotHeld a c
  | .station st => st.aisle = a
  | .rail .. => False

/-- The law of the slots (R3): the slots of a live job, the slots on a spare list and the slots of an order's legs are in the
geometry, of the job's, the list's and the crane's aisle; so are the places of the route that a pass in flight holds, but for the
slot of the store it has chosen, which the re-check looks for on the job's list (R117). -/
def slotsInLaw (s : State) : Prop :=
  (∀ j ∈ s.pool.jobs, ∀ c, c ∈ j.candidates ∨ j.chosen? = some c ∨ j.slot? = some c → s.slotHeld j.aisle c)
    ∧ (∀ e ∈ s.table, e.use.isSpare = true → s.inGeometry e.slot = true)
    ∧ (∀ x o, (s.crane x).order = some o → ∀ l ∈ o.legs, ∀ c, l.target = .slot c → s.slotHeld (aisleOf x) c)
    ∧ ∀ p store cursor b, s.engine.pass = some p → p.stage = .retrieve store cursor (some b) →
        ∀ l ∈ b.legs, s.routePlace (aisleOf p.crane) l.target ∨ ∃ k, store = some k ∧ l.target = .slot k.slot

end State

end Sys2Proof.Machine
end

