-- ==== Sys2Proof/WellFormed.lean ====
section
/-! DEFINITION. Which commands the lines can carry: the bounds the frame envelope and the record layouts set. -/

namespace Sys2Proof

/-- A frame's body has 1 to 250 bytes (R175, R190). -/
def bodyFits (body : List Byte) : Bool := 1 ≤ body.length && body.length ≤ 250

/-- A request body holds at least its two-byte reference; a shorter one is UNKNOWN_REQUEST's (R177). -/
def requestBodyFits (body : List Byte) : Bool := 2 ≤ body.length && bodyFits body

/-- The commands the lines can carry. `exec` gives every command a meaning, these and the others. -/
def Instr.wf : Instr → Bool
  | .powerOn _ => true
  | .admitStore b | .admitRetrieve b | .amendStore b | .cancelJob b | .queryJob b
  | .enrolCrane b | .withdrawCrane b | .homeCrane b | .abandonOrder b | .queryCrane b
  | .setTrim b | .setAisleGeometry b | .setAislePolicy b | .loadWeights b | .queryAisle b
  | .setProfile b | .setScoring b | .addSpare b | .removeSpare b
  | .laneOpen b | .laneClose b | .skipSequence b | .queryLane b
  | .setTiming b | .hold b | .resume b | .setNotices b | .clearFlags b | .setWatch b
  | .queryStatus b | .reset b => requestBodyFits b
  | .unknownRequest kind b =>
      bodyFits b && (b.length == 1 || kind == 0 || 0x20 ≤ kind.toNat)
  | .managementFrameDropped _ | .frameGapAbandon => true
  | .craneFrameDropped _ | .unknownCraneRecord _ => true
  | .accept _ _ => true
  | .decline _ _ reason => reason != 0
  | .legDone _ _ _ _ _ | .orderDone _ _ _ _ | .revoked _ _ _ => true
  | .fault _ code _ _ _ _ => code != 0
  | .faultClear _ _ _ | .status _ _ _ _ _ _ _ => true
  | .passCompletion | .paceIntervalExpiry | .silenceLimitReached _ | .hostLimitReached
  | .acceptTimerExpiry _ | .frameTransmitComplete => true

end Sys2Proof
end

