-- ==== Sys2Proof/Certificates/Slice0/Obligations.lean ====
section
/-! DEFINITION. The statements for the provers, in the order of OBLIGATIONS.json. A request frame is taken at `s.hearHost` (what
hearing the host does has a statement of its own), and its reply joins the stream by `pushReply` (which has one too); both keep
everything their statements do not name. -/

open Sys2Proof Sys2Proof.Machine

/-! ## Steps -/

/-- A step takes the command at the front of the queue and runs it on the rest; every command completes in every state, and
leaves the queue of the commands that wait as it is. -/
def Obligations.StepRunsTheFrontCommand : Prop :=
  (∀ (c : Instr) (rest : List Instr) (s : State),
    s.pending = c :: rest → step s = exec c { s with pending := rest })
  ∧ ∀ (c : Instr) (s : State), ∃ t, exec c s = .next t ∧ t.pending = s.pending

/-- With no command waiting a step is one unit of the part's own time (DESIGN CHOICE, log entry 1). R175, R128: the first byte of
the management line, or else of the lowest crane line that holds one, leaves its line and passes the receiver, whose gap begins
again, and the command it brings about joins the queue. R104: with no byte the pass in flight examines its next item; with none
left its completion joins the queue. R163, R165: with no pass either, one millisecond goes by: the duration clock and the interval
in progress rise, the receivers wait, and what falls due joins the queue. -/
def Obligations.IdleStepIsOneUnit : Prop :=
  ∀ s : State, s.pending = [] →
    (∀ b rest, s.lines.hostIn = b :: rest →
      step s = .next
        { s with
          pending := managementCommand (rxByte s.port.rx.state b).2
          port := { s.port with rx := { state := (rxByte s.port.rx.state b).1, gap := 0 } }
          lines := { s.lines with hostIn := rest } })
    ∧ (∀ (x : Crane) b rest, s.lines.hostIn = [] → s.lines.craneIn.get x = b :: rest →
      (∀ y : Crane, y < x → s.lines.craneIn.get y = []) →
      ∃ (v : Vector Receiver 16) (w : Vector (List LineByte) 16),
        v.get x = { state := (rxByte (s.lines.craneRx.get x).state b).1, gap := 0 } ∧ w.get x = rest
        ∧ (∀ y : Crane, y ≠ x → v.get y = s.lines.craneRx.get y ∧ w.get y = s.lines.craneIn.get y)
        ∧ step s = .next
          { s with
            pending := craneCommand x (rxByte (s.lines.craneRx.get x).state b).2
            lines := { s.lines with craneRx := v, craneIn := w } })
    ∧ (s.lines.hostIn = [] → (∀ x : Crane, s.lines.craneIn.get x = []) →
      (∀ p t, s.engine.pass = some p → s.passItem p = some t → step s = .next t)
      ∧ (∀ p, s.engine.pass = some p → s.passItem p = none → step s = .next { s with pending := [.passCompletion] })
      ∧ (s.engine.pass = none → ∃ v : Vector Receiver 16, (∀ x : Crane, v.get x = (s.lines.craneRx.get x).wait)
        ∧ step s = .next
          { s with
            pending :=
              (if 50 * 2 ^ s.sup.timing.code.val ≤ s.sup.paceElapsed + 1 then [.paceIntervalExpiry] else [])
                ++ ((if s.port.rx.wait.expired then [.frameGapAbandon] else [])
                  ++ (allCranes.filter (fun x => (v.get x).expired)).map .craneFrameDropped)
            port := { s.port with rx := s.port.rx.wait }
            lines := { s.lines with craneRx := v }
            sup := { s.sup with
              durationClock := s.sup.durationClock + 1#32, paceElapsed := s.sup.paceElapsed + 1 } }))
    ∧ (∀ (x : Crane) (kind : Byte) (body : List Byte) (cause : DropCause),
      managementCommand .nothing = [] ∧ managementCommand (.complete kind body) = [requestOf kind body]
      ∧ managementCommand (.dropped cause) = [.managementFrameDropped cause]
      ∧ craneCommand x .nothing = [] ∧ craneCommand x (.complete kind body) = [craneRecordOf x kind body]
      ∧ craneCommand x (.dropped cause) = [.craneFrameDropped x])

/-! ## Laws that every step keeps -/

/-- R91, R178, R183: no step takes a trim out of 512 to 2048, the notice queue over 32 or the reply stream over 16, or the
weighting table out of its canonical form. -/
def Obligations.BoundsStayInLaw : Prop :=
  (∀ s t : State, s.trimsInLaw → step s = .next t → t.trimsInLaw)
  ∧ (∀ s t : State, s.noticesInLaw → step s = .next t → t.noticesInLaw)
  ∧ (∀ s t : State, s.repliesInLaw → step s = .next t → t.repliesInLaw)
  ∧ (∀ s t : State, s.weightsInLaw → step s = .next t → t.weightsInLaw)

/-- R20, R21: no step gives two live jobs one tag or one pallet, or takes the pool over 320 jobs or a station's queue
over 8. -/
def Obligations.PoolStaysInLaw : Prop :=
  ∀ s t : State, s.poolInLaw → step s = .next t → t.poolInLaw

/-- R151, R155: no step breaks the law of the lanes. -/
def Obligations.LanesStayInLaw : Prop :=
  ∀ s t : State, s.lanesInLaw → step s = .next t → t.lanesInLaw

/-- R57, R58, R68: no step takes a known position out of its crane's span, or makes a span other than an interval of one. -/
def Obligations.PositionsStayInSpans : Prop :=
  ∀ s t : State, s.spansInLaw → step s = .next t → t.spansInLaw

/-- R63, R98, R99, R124: no step breaks the law of which cranes hold an order, which wait or yield, and which stand in the
queue. -/
def Obligations.OrdersStayInLaw : Prop :=
  ∀ s t : State, s.ordersInLaw → step s = .next t → t.ordersInLaw

/-- R40, R42, R49, R130: no step breaks the pairing of orders and jobs (a job is ORDERED or ACTIVE just when one order has it)
or the law of the reservation table (one entry a slot, up to 16 spares an aisle, every owned entry its owner's); and a table
in its law holds at most 768 entries. -/
def Obligations.WorkStaysInLaw : Prop :=
  (∀ s t : State, s.workInLaw → step s = .next t → t.workInLaw)
  ∧ ∀ s : State, s.workInLaw → s.table.length ≤ 768

/-- R2, R57, R58, R59: no step breaks the law of the rail: a known position stays on the rail, and the spans of two cranes of an aisle
whose positions are known stay separated, except those of a yield pair. The one command left out is a FAULT CLEAR from a crane in AWAIT YIELD, whose position
R143 takes within its claim (log entry 17). -/
def Obligations.SpansStaySeparated : Prop :=
  ∀ s t : State, s.railInLaw →
    (∀ x bay level rest, s.pending = .faultClear x bay level :: rest → (s.crane x).state ≠ .awaitYield) →
    step s = .next t → t.railInLaw

/-- R3: no step takes a slot out of the geometry while a live job, a spare list, an order's leg or the route of the pass in flight
holds it. R57: and then no step takes the interval of a span off the rail. -/
def Obligations.SlotsStayInGeometry : Prop :=
  (∀ s t : State, s.workInLaw → s.slotsInLaw → step s = .next t → t.slotsInLaw)
  ∧ ∀ s t : State, s.workInLaw → s.slotsInLaw → s.railInLaw → s.spansOnRail → step s = .next t → t.spansOnRail

/-! ## Lines and frames (R175, R176, R190, R194) -/

/-- R175: what each state of the receiver does with a byte; R190: the check carried on over its own two bytes ends at 0000H.
R175, R176, R128: a dropped frame returns its receiver to HUNT and raises its line's error count by one, to 65535 at most;
nothing else changes. R178: a request frame that completes while the stream holds 16 replies is dropped for overrun, whatever
the request; R176: it gets no reply and is not heard. A 5AH with a bad stop bit is discarded in HUNT and counts nothing (DESIGN
CHOICE, log entry 41). The commands of a dropped frame count an error whatever state the receiver is in, HUNT too (DESIGN
CHOICE, log entry 42). -/
def Obligations.ReceiversAndDroppedFrames : Prop :=
  (∀ b h l kind : Byte, ∀ (n : Nat) (body got : List Byte) (st : RxState),
      rxByte .hunt { byte := b, good := true } = (if b = 0x5A#8 then .length none else .hunt, .nothing)
      ∧ rxByte (.length none) { byte := h, good := true } = (.length (some h), .nothing)
      ∧ rxByte (.length (some h)) { byte := l, good := true }
          = (if 1 ≤ 256 * h.toNat + l.toNat ∧ 256 * h.toNat + l.toNat ≤ 250 then
              (.type (256 * h.toNat + l.toNat), .nothing)
            else (.hunt, .dropped .badLength))
      ∧ rxByte (.type n) { byte := kind, good := true } = (.body n kind [], .nothing)
      ∧ (got.length + 1 < n →
          rxByte (.body n kind got) { byte := b, good := true } = (.body n kind (got ++ [b]), .nothing))
      ∧ (got.length + 1 = n →
          rxByte (.body n kind got) { byte := b, good := true } = (.check kind (got ++ [b]) none, .nothing))
      ∧ rxByte (.check kind body none) { byte := h, good := true } = (.check kind body (some h), .nothing)
      ∧ rxByte (.check kind body (some h)) { byte := l, good := true }
          = (if h.append l = frameCheck kind body then (.hunt, .complete kind body) else (.hunt, .dropped .badCheck))
      ∧ rxByte st { byte := b, good := false } = (.hunt, if st = .hunt then .nothing else .dropped .badStopBit))
  ∧ (∀ (kind : Byte) (body : List Byte),
      crcFrom 0xFFFF#16 (byte2 body.length ++ kind :: body ++ word16Bytes (frameCheck kind body)) = 0#16)
  ∧ (∀ (cause : DropCause) (x : Crane) (s : State),
      exec (.managementFrameDropped cause) s
          = .next { s with port := { s.port with rx := .powerOn, linkErrors := min 65535 (s.port.linkErrors + 1) } }
      ∧ exec .frameGapAbandon s
          = .next { s with port := { s.port with rx := .powerOn, linkErrors := min 65535 (s.port.linkErrors + 1) } }
      ∧ ∃ v : Vector Receiver 16, v.get x = .powerOn ∧ (∀ y, y ≠ x → v.get y = s.lines.craneRx.get y) ∧
        exec (.craneFrameDropped x) s
          = .next
            { s.setCrane x { s.crane x with lineErrors := min 65535 ((s.crane x).lineErrors + 1) } with
              lines := { s.lines with craneRx := v } })
  ∧ (∀ (c : Instr) (kind : Byte) (body : List Byte) (s : State),
      requestBytes c = some (kind, body) → 16 ≤ s.port.replies.length →
      exec c s = .next { s with port := { s.port with rx := .powerOn, linkErrors := min 65535 (s.port.linkErrors + 1) } })

/-- Every crane record, sent as a frame over a crane line, arrives as its command; every request, sent as a frame over the
management line, arrives as its command. -/
def Obligations.FramesRoundTrip : Prop :=
  (∀ (c : Instr) (x : Crane) (kind : Byte) (body : List Byte), c.wf = true → craneRecordBytes c = some (x, kind, body) →
      (rxBytes .hunt (frameOf kind body)).1 = .hunt ∧ craneCommand x (rxBytes .hunt (frameOf kind body)).2 = [c])
  ∧ (∀ (c : Instr) (kind : Byte) (body : List Byte), c.wf = true → requestBytes c = some (kind, body) →
      (rxBytes .hunt (frameOf kind body)).1 = .hunt ∧ managementCommand (rxBytes .hunt (frameOf kind body)).2 = [c])

/-! ## Requests and replies (R169, R170, R176 to R178) -/

/-- R177, R189: every request that is taken gets one reply, with its reference and its record type, and a refused request
changes nothing beyond what every valid frame brings. R178, R179: before that reply the stream holds the replies it held, but
for the one at its head when an event of the request lets the free transmitter start it (DEDUCED, log entry 8). -/
def Obligations.RefusedRequestsChangeNothing : Prop :=
  ∀ (c : Instr) (kind r1 r0 : Byte) (fields : List Byte) (s : State),
    requestBytes c = some (kind, r1 :: r0 :: fields) → s.port.replies.length < 16 →
    ∃ (t : State) (code : ReplyCode) (data : ReplyData),
      exec c s = .next (t.pushReply { ref := r1.append r0, kind := kind, code := code, data := data })
        ∧ (code ≠ .ok → t = s.hearHost)
        ∧ ((t.port.replies = s.hearHost.port.replies ∧ (s.hearHost.port.tx = none ∨ t.port.tx = s.hearHost.port.tx))
          ∨ (s.hearHost.port.tx = none ∧ ∃ r rest, s.hearHost.port.replies = r :: rest ∧ t.port.replies = rest
            ∧ t.port.tx = some (.reply r)))

/-- R177: a request whose body has not the length of its fields is refused MALFORMED; the port answers MALFORMED an unknown
record type, with the reference received, and a body of one byte, with the reference 0000H. Check 1 of R13, R22, R24, R28 and
R185: just which bodies of ADMIT STORE, ADMIT RETRIEVE, AMEND STORE, LOAD WEIGHTS and SET NOTICES are not read, and that each is
refused MALFORMED. R189: a yes/no byte above 1, and a place of kind 3, is refused MALFORMED, and so is a crane fit byte above 2 with
configured no, for which R6 states no reply (DEDUCED, log entry 34); that this refusal of a SET NOTICES or a CANCEL JOB comes before
the level and the tag are checked is the model's choice (DESIGN CHOICE, log entry 45). -/
def Obligations.MalformedRequestsAnswered : Prop :=
  (∀ p ∈ ([(.cancelJob, 5), (.queryJob, 4), (.enrolCrane, 1), (.withdrawCrane, 1), (.homeCrane, 1), (.abandonOrder, 1),
        (.queryCrane, 1), (.setTrim, 4), (.setAisleGeometry, 9), (.setAislePolicy, 18), (.queryAisle, 1), (.setProfile, 15),
        (.setScoring, 11), (.addSpare, 4), (.removeSpare, 4), (.laneOpen, 4), (.laneClose, 1), (.skipSequence, 3),
        (.queryLane, 1), (.setTiming, 5), (.hold, 1), (.resume, 1), (.clearFlags, 2), (.setWatch, 3), (.queryStatus, 0),
        (.reset, 1)] : List ((List Byte → Instr) × Nat)),
      ∀ (kind r1 r0 : Byte) (fields : List Byte) (s : State),
        requestBytes (p.1 (r1 :: r0 :: fields)) = some (kind, r1 :: r0 :: fields) → fields.length ≠ p.2 →
        s.port.replies.length < 16 →
        exec (p.1 (r1 :: r0 :: fields)) s
          = .next (s.hearHost.pushReply { ref := r1.append r0, kind := kind, code := .malformed, data := .empty }))
  ∧ (∀ (kind r1 r0 : Byte) (fields : List Byte) (s : State), s.port.replies.length < 16 →
      exec (.unknownRequest kind (r1 :: r0 :: fields)) s
          = .next (s.hearHost.pushReply { ref := r1.append r0, kind := kind, code := .malformed, data := .empty })
      ∧ exec (.unknownRequest kind [r1]) s
          = .next (s.hearHost.pushReply { ref := 0#16, kind := kind, code := .malformed, data := .empty }))
  ∧ ∀ (r1 r0 : Byte) (fields : List Byte) (s : State) (byte : Nat → Nat) (kind3 : Nat → Prop) (twice : Nat → Nat → Prop)
      (malformed : Byte → State),
    s.port.replies.length < 16 →
    (∀ i, byte i = (fields.getD i 0).toNat) → (∀ i, kind3 i ↔ byte i / 32 % 4 = 3) →
    (∀ start n, twice start n ↔ ∃ i j a, i < j ∧ j < n ∧ ∀ k ∈ [start + 4 * i, start + 4 * j],
      placeOf (fields.getD k 0) (fields.getD (k + 1) 0) (fields.getD (k + 2) 0) (fields.getD (k + 3) 0) = some (.slot a)) →
    (∀ k, malformed k = s.hearHost.pushReply { ref := r1.append r0, kind := k, code := .malformed, data := .empty }) →
    -- the bodies that are not read
    (readAdmitStore fields = none ↔
      fields.length < 14 ∨ fields.length ≠ 14 + 4 * byte 13 ∨ 3 < byte 8 ∨ kind3 9 ∨ byte 13 < 1 ∨ 4 < byte 13
      ∨ (∃ i, i < byte 13 ∧ kind3 (14 + 4 * i)) ∨ twice 14 (byte 13))
    ∧ (readAdmitRetrieve fields = none ↔
      fields.length < 14 ∨ 3 < byte 13 ∨ fields.length ≠ 14 + 4 * (byte 13 % 2) + 3 * (byte 13 / 2) ∨ 3 < byte 8 ∨ kind3 9
      ∨ (2 ≤ byte 13 ∧ 7 < byte (14 + 4 * (byte 13 % 2)))
      ∨ (byte 13 % 2 = 1 ∧ ∀ i, i < 4 → byte (14 + i) = byte (4 + i)))
    ∧ (readAmendStore fields = none ↔
      fields.length < 5 ∨ fields.length ≠ 5 + 4 * byte 4 ∨ byte 4 < 1 ∨ 4 < byte 4
      ∨ (∃ i, i < byte 4 ∧ kind3 (5 + 4 * i)) ∨ twice 5 (byte 4))
    ∧ (readLoadWeights fields = none ↔
      fields.length < 3 ∨ fields.length ≠ 3 + 2 * byte 2 ∨ byte 2 < 1 ∨ 120 < byte 2
      ∨ ∃ i, i < byte 2 ∧ 4095 < (256 * byte (3 + 2 * i) + byte (4 + 2 * i)) % 32768)
    ∧ (readSetNotices fields = none ↔
      fields.length < 1 ∨ fields.length ≠ 1 + 4 * byte 0 ∨ byte 0 < 1 ∨ 11 < byte 0
      ∨ (∃ i, i < byte 0 ∧ (10 < byte (1 + 4 * i) ∨ 1 < byte (2 + 4 * i) ∨ 1 < byte (4 + 4 * i)))
      ∨ ∃ i j, i < j ∧ j < byte 0 ∧ byte (1 + 4 * i) = byte (1 + 4 * j))
    -- and their reply
    ∧ (readAdmitStore fields = none → exec (.admitStore (r1 :: r0 :: fields)) s = .next (malformed 0x01#8))
    ∧ (readAdmitRetrieve fields = none → exec (.admitRetrieve (r1 :: r0 :: fields)) s = .next (malformed 0x02#8))
    ∧ (readAmendStore fields = none → exec (.amendStore (r1 :: r0 :: fields)) s = .next (malformed 0x03#8))
    ∧ (readLoadWeights fields = none → exec (.loadWeights (r1 :: r0 :: fields)) s = .next (malformed 0x0E#8))
    ∧ (readSetNotices fields = none → exec (.setNotices (r1 :: r0 :: fields)) s = .next (malformed 0x1B#8))
    -- yes/no bytes, and places of kind 3
    ∧ (1 < byte 4 → exec (.cancelJob (r1 :: r0 :: fields)) s = .next (malformed 0x04#8))
    ∧ (1 < byte 3 → exec (.setTrim (r1 :: r0 :: fields)) s = .next (malformed 0x0B#8))
    ∧ (1 < byte 1 ∨ 1 < byte 4 → exec (.setAisleGeometry (r1 :: r0 :: fields)) s = .next (malformed 0x0C#8))
    ∧ (byte 1 = 0 → 2 < byte 7 → exec (.setAisleGeometry (r1 :: r0 :: fields)) s = .next (malformed 0x0C#8))
    ∧ (1 < byte 6 ∨ 1 < byte 7 ∨ 1 < byte 13 → exec (.setAislePolicy (r1 :: r0 :: fields)) s = .next (malformed 0x0D#8))
    ∧ (1 < byte 4 → exec (.setTiming (r1 :: r0 :: fields)) s = .next (malformed 0x18#8))
    ∧ (kind3 0 → exec (.addSpare (r1 :: r0 :: fields)) s = .next (malformed 0x12#8)
      ∧ exec (.removeSpare (r1 :: r0 :: fields)) s = .next (malformed 0x13#8))

/-- R169, R170: a valid frame clears the management silence count; while SILENCE is set and auto-release is enabled it also
clears SILENCE, writes the release half of the hold record, raises HOLD CHANGE, lets the engine take from its queue, and
triggers the IDLE cranes that are then free, in crane-number order, and no others (DEDUCED, log entry 39). -/
def Obligations.HostFrameHeard : Prop :=
  ∀ s : State,
    (s.sup.holdSilence = false ∨ s.sup.timing.autoRelease = false →
      s.hearHost = { s with sup := { s.sup with hostSilence := 0 } })
    ∧ (s.sup.holdSilence = true → s.sup.timing.autoRelease = true →
      ∃ t : State,
        t = State.raise
          { s with sup := { s.sup with
              hostSilence := 0
              holdSilence := false
              record := { s.sup.record with
                releaseCause := .hostTraffic, releaseAisle := none, releaseClock := s.sup.jobClock } } }
          (.holdChange s.sup.holdCommand false s.sup.holdAisle
            { s.sup.record with releaseCause := .hostTraffic, releaseAisle := none, releaseClock := s.sup.jobClock })
        ∧ s.hearHost = t.engineRun.triggerAll
          (allCranes.filter fun x => (t.crane x).state == .idle && !(s.sup.holdCommand || s.aisleHeld (aisleOf x))))

/-! ## The transmitter and the notice unit (R178, R179, R181 to R187) -/

/-- R178, R179: the free transmitter starts a reply or a notice by what its sources hold and by the last frame sent; a reply
joins the tail of the stream; FRAME_TRANSMIT_COMPLETE leaves the frame in transmission on the line, and the transmitter acts
again. That it does nothing with no frame in transmission, and that a frame starts at once when it becomes ready, are the
model's choices (DESIGN CHOICE, log entry 25; DEDUCED, log entry 8). R189, R190, R193: a frame begins 5AH, two length bytes and
the record type, and ends with its check; a reply is a frame of type 70H whose body is the reference, the request's record type,
the reply code and the data, which is the serial for an admission taken, one byte for a FULL, and none for a refusal; that of
QUERY JOB is the job record and the four items of R37, each that may be absent behind its presence mark (one mark for crane and
order id: DESIGN CHOICE; that a STORE job's waiting item is absent: DEDUCED; log entry 20). R189, R195: a notice is a frame of
type 71H whose body is the event class, the level, the job clock stamp and the fields of the class. -/
def Obligations.TransmitterAndReplies : Prop :=
  (∀ s : State,
      (s.port.tx ≠ none → s.transmit = s)
      ∧ (s.port.tx = none → s.port.replies = [] → s.notices.queue = [] → s.transmit = s)
      ∧ (∀ (r : Reply) (rest : List Reply), s.port.tx = none → s.port.replies = r :: rest →
          (s.notices.queue = [] ∨ s.port.lastSent = .notice) →
          s.transmit = { s with port := { s.port with replies := rest, tx := some (.reply r), lastSent := .reply } })
      ∧ (∀ n : Notice, s.port.tx = none → s.notices.next = some n →
          (s.port.replies = [] ∨ s.port.lastSent = .reply) →
          s.transmit
            = { s with port := { s.port with tx := some (.notice n), lastSent := .notice }, notices := s.notices.sent n }))
  ∧ (∀ (s : State) (r : Reply) (f : TxFrame),
      s.pushReply r = State.transmit { s with port := { s.port with replies := s.port.replies ++ [r] } }
      ∧ (s.port.tx = none → exec .frameTransmitComplete s = .next s)
      ∧ (s.port.tx = some f → exec .frameTransmitComplete s
          = .next (State.transmit { s with
              port := { s.port with tx := none }
              lines := { s.lines with hostOut := s.lines.hostOut ++ [txFrameBytes f] } })))
  ∧ (∀ (kind : Byte) (body : List Byte), ∃ hi lo : Byte, hi ++ lo = frameCheck kind body
      ∧ frameOf kind body
        = [0x5A#8, BitVec.ofNat 8 (body.length / 256), BitVec.ofNat 8 body.length, kind] ++ body ++ [hi, lo])
  ∧ (∀ (a b c d : Byte), word16Bytes (a ++ b) = [a, b] ∧ word32Bytes (a ++ b ++ c ++ d) = [a, b, c, d])
  ∧ (∀ (r : Reply) (hi lo : Byte) (code : Nat), r.ref = hi ++ lo →
      [ReplyCode.ok, .malformed, .badPlace, .unknownTag, .unknownPlace, .duplicateTag, .palletBusy, .slotReserved, .full,
        .laneClosed, .staleSequence, .duplicateSequence, .inProgress, .inUse, .wrongState, .busy, .range][code]?
          = some r.code →
      txFrameBytes (.reply r) = frameOf 0x70#8 ([hi, lo, r.kind, BitVec.ofNat 8 code] ++ replyDataBytes r.data))
  ∧ (replyDataBytes .empty = [] ∧ replyDataBytes .fullPool = [0#8] ∧ replyDataBytes .fullQueue = [1#8]
      ∧ (∀ n, replyDataBytes (.serial n) = word32Bytes n)
      ∧ ∀ r : JobReport, replyDataBytes (.job r)
        = jobBytes r.job ++ [BitVec.ofNat 8 (r.age / 256), BitVec.ofNat 8 r.age]
          ++ (match r.queuePosition with | none => [0#8] | some n => [1#8, BitVec.ofNat 8 n])
          ++ (match r.order with | none => [0#8] | some (x, id) => [1#8, BitVec.ofNat 8 x.val] ++ word16Bytes id)
          ++ (match r.job.kind, r.waits with
            | .store .., _ => [0#8]
            | .retrieve .., none => [1#8, 0#8, 0#8]
            | .retrieve .., some tag => [1#8, 1#8, 1#8] ++ word32Bytes tag))
  ∧ (∀ n : Notice, txFrameBytes (.notice n) = frameOf 0x71#8
      ([match n.event with
          | .jobDone .. => 0#8 | .jobFailed .. => 1#8 | .jobStranded .. => 2#8 | .relocated .. => 3#8
          | .storeStalled .. => 4#8 | .sparesEmpty .. => 5#8 | .craneState .. => 6#8 | .laneAdvanced .. => 7#8
          | .poolLevel .. => 8#8 | .holdChange .. => 9#8 | .trimUpdated .. => 10#8,
        BitVec.ofNat 8 n.level] ++ word32Bytes n.stamp ++ eventBytes n.event))
  ∧ (∀ (tag : Word32) (retrieve : Bool) (a b : Slot) (reason : Byte) (x : Crane) (st : Station) (e : Aisle) (l : LaneNo)
      (due : Word16) (n : Nat),
      eventBytes (.jobDone tag retrieve a) = word32Bytes tag ++ [if retrieve then 1#8 else 0#8] ++ slotBytes a
      ∧ eventBytes (.jobFailed tag reason) = word32Bytes tag ++ [reason]
      ∧ eventBytes (.jobStranded tag x) = word32Bytes tag ++ [BitVec.ofNat 8 x.val]
      ∧ eventBytes (.relocated tag a b) = word32Bytes tag ++ slotBytes a ++ slotBytes b
      ∧ eventBytes (.storeStalled tag st) = word32Bytes tag ++ stationBytes st
      ∧ eventBytes (.sparesEmpty e) = [BitVec.ofNat 8 e.val]
      ∧ eventBytes (.laneAdvanced l due) = BitVec.ofNat 8 l.val :: word16Bytes due
      ∧ eventBytes (.poolLevel n .rising) = [BitVec.ofNat 8 (n / 256), BitVec.ofNat 8 n, 0#8]
      ∧ eventBytes (.poolLevel n .falling) = [BitVec.ofNat 8 (n / 256), BitVec.ofNat 8 n, 1#8]
      ∧ eventBytes (.trimUpdated x n) = [BitVec.ofNat 8 x.val, BitVec.ofNat 8 (n / 256), BitVec.ofNat 8 n]
      ∧ ∀ (state : CraneState) (cause : StateCause) (i j : Nat),
        [CraneState.offline, .syncing, .idle, .queued, .awaitYield, .ordered, .running, .yielding, .homing, .faulted,
          .lost][i]? = some state →
        [StateCause.fault, .acceptTimeout, .loadAboard, .unsettled, .silence, .cleared, .reconciled, .orderLost,
          .withdrawn][j]? = some cause →
        eventBytes (.craneState x state cause) = [BitVec.ofNat 8 x.val, BitVec.ofNat 8 i, BitVec.ofNat 8 j])
  ∧ (∀ (command silence : Bool) (aisles : Vector Bool 8) (r : HoldRecord) (i j : Nat) (marks : Word16),
      (∀ k, marks.getLsbD k = if k = 0 then command else if k = 1 then silence else (aisles.toList[k - 2]?).getD false) →
      [HoldCause.none, .command, .silence, .aisle][i]? = some r.holdCause →
      [ReleaseCause.none, .command, .hostTraffic][j]? = some r.releaseCause →
      eventBytes (.holdChange command silence aisles r)
        = word16Bytes marks
          ++ [BitVec.ofNat 8 i, match r.holdAisle with | some a => BitVec.ofNat 8 a.val | none => 0xFF#8]
          ++ word32Bytes r.holdClock
          ++ [BitVec.ofNat 8 j, match r.releaseAisle with | some a => BitVec.ofNat 8 a.val | none => 0xFF#8]
          ++ word32Bytes r.releaseClock)

/-- R181, R182: an event sets its class's flag; with the class's notice enable set and room in the queue its notice joins the
tail, and with it clear the missed mark is set. R183: a notice offered to a queue of 32 evicts the youngest notice of the
lowest level queued when its own level is higher, and is discarded when it is not; the loser's class has its missed mark
set. Nothing else of any class changes. An event that a block raises is recorded with the job clock, and then the transmitter
acts (R179), at that point of the step (DEDUCED, log entry 8). -/
def Obligations.EventsAreRecorded : Prop :=
  (∀ (u : NoticeUnit) (e : Event) (clock : Word32),
      ((u.record e clock).classOf (eventClass e)).flag = true
      ∧ (∀ k, ((u.record e clock).classOf k).notice = (u.classOf k).notice
          ∧ ((u.record e clock).classOf k).level = (u.classOf k).level
          ∧ ((u.record e clock).classOf k).clearOnSend = (u.classOf k).clearOnSend
          ∧ (k ≠ eventClass e → ((u.record e clock).classOf k).flag = (u.classOf k).flag))
      ∧ ((u.classOf (eventClass e)).notice = true → u.queue.length < 32 →
          (u.record e clock).queue
              = u.queue ++ [{ level := (u.classOf (eventClass e)).level, stamp := clock, event := e }]
          ∧ ∀ k, ((u.record e clock).classOf k).missed = (u.classOf k).missed)
      ∧ ((u.classOf (eventClass e)).notice = false →
          (u.record e clock).queue = u.queue
          ∧ ((u.record e clock).classOf (eventClass e)).missed = true
          ∧ ∀ k, k ≠ eventClass e → (u.record e clock).classOf k = u.classOf k))
  ∧ (∀ (u : NoticeUnit) (n e : Notice) (older younger : List Notice),
      u.queue = older ++ e :: younger → u.queue.length = 32 → (∀ m ∈ u.queue, m.level ≤ 3) →
      (∀ m ∈ u.queue, e.level ≤ m.level) → (∀ m ∈ younger, m.level ≠ e.level) →
      (e.level < n.level →
        (u.offer n).queue = older ++ younger ++ [n] ∧ ∀ k, (u.offer n).classOf k
          = if k = eventClass e.event then { u.classOf k with missed := true } else u.classOf k)
      ∧ (n.level ≤ e.level →
        (u.offer n).queue = u.queue ∧ ∀ k, (u.offer n).classOf k
          = if k = eventClass n.event then { u.classOf k with missed := true } else u.classOf k))
  ∧ (∀ (u flagged : NoticeUnit) (e : Event) (clock : Word32),
      flagged.queue = u.queue →
      (∀ k, flagged.classOf k = if k = eventClass e then { u.classOf k with flag := true } else u.classOf k) →
      (u.classOf (eventClass e)).notice = true → u.queue.length = 32 →
      u.record e clock = flagged.offer { level := (u.classOf (eventClass e)).level, stamp := clock, event := e })
  ∧ ∀ (s : State) (e : Event),
      s.raise e = State.transmit { s with notices := s.notices.record e s.sup.jobClock }

/-- R184: the queue gives the oldest notice of the highest level queued; it leaves the queue, and its class's flag and missed
mark are cleared when clear-on-send is enabled, no other notice of the class remains and the missed mark is clear. -/
def Obligations.NoticesLeaveByLevel : Prop :=
  ∀ (u : NoticeUnit) (n : Notice) (older younger : List Notice),
    u.queue = older ++ n :: younger → (∀ m ∈ older, m.level < n.level) → (∀ m ∈ younger, m.level ≤ n.level) →
    u.next = some n
    ∧ (u.sent n).queue = older ++ younger
    ∧ ∀ k, (u.sent n).classOf k
        = if k = eventClass n.event ∧ (u.classOf k).clearOnSend = true ∧ (u.classOf k).missed = false
              ∧ ∀ m ∈ older ++ younger, eventClass m.event ≠ k then
            { u.classOf k with flag := false, missed := false }
          else u.classOf k

/-- R166: SET TIMING is refused for a period code above 3 and else replaces the five settings, clamped; a new code restarts
the interval in progress. R185, R186, R187: what a taken SET NOTICES, CLEAR FLAGS and SET WATCH do, and when SET NOTICES and
SET WATCH are refused. That CLEAR FLAGS takes a mask with bits of no class set, and reads none of bits 11 to 15, is DEDUCED (log
entry 11). -/
def Obligations.TimingAndNoticeSettingsTaken : Prop :=
  (∀ (r1 r0 c sl al hl ar : Byte) (s : State), s.port.replies.length < 16 → ar.toNat ≤ 1 →
      (∀ code : Fin 4, c.toNat = code.val → ∀ t : Timing,
        t = { code := code, silenceLimit := if sl.toNat < 2 then 2 else sl.toNat,
              acceptLimit := if al.toNat < 1 then 1 else al.toNat, hostLimit := hl.toNat,
              autoRelease := ar.toNat == 1 } →
        exec (.setTiming [r1, r0, c, sl, al, hl, ar]) s
          = .next
            (State.pushReply
              { s.hearHost with sup := { s.hearHost.sup with
                  timing := t
                  paceElapsed := if code = s.sup.timing.code then s.sup.paceElapsed else 0 } }
              { ref := r1 ++ r0, kind := 0x18#8, code := .ok, data := .timing t }))
      ∧ (3 < c.toNat →
        exec (.setTiming [r1, r0, c, sl, al, hl, ar]) s
          = .next (s.hearHost.pushReply { ref := r1 ++ r0, kind := 0x18#8, code := .range, data := .empty })))
  ∧ (∀ (r1 r0 hi lo mode : Byte) (fields : List Byte) (es : List NoticeEntry) (s : State), s.port.replies.length < 16 →
      (readSetNotices fields = some es → (∀ e ∈ es, e.level ≤ 3) →
        ∃ u : NoticeUnit, u.queue = s.hearHost.notices.queue
          ∧ (∀ e ∈ es, u.classOf e.cls
              = { s.hearHost.notices.classOf e.cls with
                  notice := e.notice, level := e.level, clearOnSend := e.clearOnSend })
          ∧ (∀ k, (∀ e ∈ es, e.cls ≠ k) → u.classOf k = s.hearHost.notices.classOf k)
          ∧ exec (.setNotices (r1 :: r0 :: fields)) s
              = .next (State.pushReply { s.hearHost with notices := u }
                  { ref := r1 ++ r0, kind := 0x1B#8, code := .ok, data := .empty }))
      ∧ (readSetNotices fields = some es → (∃ e ∈ es, 3 < e.level) →
          exec (.setNotices (r1 :: r0 :: fields)) s
            = .next (s.hearHost.pushReply { ref := r1 ++ r0, kind := 0x1B#8, code := .range, data := .empty }))
      ∧ (∃ u : NoticeUnit, u.queue = s.hearHost.notices.queue
          ∧ (∀ k : Fin 11, u.classOf k
              = if (hi ++ lo).getLsbD k.val then { s.hearHost.notices.classOf k with flag := false, missed := false }
                else s.hearHost.notices.classOf k)
          ∧ exec (.clearFlags [r1, r0, hi, lo]) s
              = .next (State.pushReply { s.hearHost with notices := u }
                  { ref := r1 ++ r0, kind := 0x1C#8, code := .ok,
                    data := .flags ((List.finRange 11).map fun k => (u.classOf k).flag) }))
      ∧ exec (.setWatch [r1, r0, hi, lo, mode]) s
          = .next
            (match edgeModeOf mode with
            | some m =>
              State.pushReply
                { s.hearHost with pool := { s.hearHost.pool with
                    watchThreshold := min 320 (hi ++ lo).toNat, watchEdges := m } }
                { ref := r1 ++ r0, kind := 0x1D#8, code := .ok, data := .threshold (min 320 (hi ++ lo).toNat) }
            | none => s.hearHost.pushReply { ref := r1 ++ r0, kind := 0x1D#8, code := .range, data := .empty }))

/-! ## Clocks, supervision and holds (R163 to R174) -/

/-- R172 to R174: HOLD sets the cause its scope names, with the hold half of the record and HOLD CHANGE; RESUME clears the
causes its scope names, with the release half of the record, one HOLD CHANGE, the engine's turn, and the triggers of the IDLE
cranes it frees, and of no others (DEDUCED, log entry 39). A cause that already stands as asked changes nothing, and a scope of
neither kind is refused RANGE. -/
def Obligations.HoldAndResumeTaken : Prop :=
  (∀ (s : State) (xs : List Crane),
      s.holdChanged = s.raise (.holdChange s.sup.holdCommand s.sup.holdSilence s.sup.holdAisle s.sup.record)
      ∧ s.triggerAll xs = xs.foldl State.trigger s) ∧
  (∀ (r1 r0 : Byte) (a : Aisle) (b : Byte) (s h : State), s.port.replies.length < 16 → h = s.hearHost →
      exec (.hold [r1, r0, 0xFF#8]) s
        = .next
          (State.pushReply
            (if h.sup.holdCommand then h
              else
                State.holdChanged
                  { h with sup := { h.sup with
                      holdCommand := true
                      record := { h.sup.record with
                        holdCause := .command, holdAisle := none, holdClock := h.sup.jobClock } } })
            { ref := r1 ++ r0, kind := 0x19#8, code := .ok, data := .empty })
      ∧ exec (.hold [r1, r0, BitVec.ofNat 8 a.val]) s
        = .next
          (State.pushReply
            (if h.sup.holdAisle.get a then h
              else
                State.holdChanged
                  { h with sup := { h.sup with
                      holdAisle := h.sup.holdAisle.set a.val true a.isLt
                      record := { h.sup.record with
                        holdCause := .aisle, holdAisle := some a, holdClock := h.sup.jobClock } } })
            { ref := r1 ++ r0, kind := 0x19#8, code := .ok, data := .empty })
      ∧ (7 < b.toNat → b ≠ 0xFF#8 →
        exec (.hold [r1, r0, b]) s
          = .next (h.pushReply { ref := r1 ++ r0, kind := 0x19#8, code := .range, data := .empty })))
  ∧ (∀ (r1 r0 : Byte) (a : Aisle) (b : Byte) (s h t u : State), s.port.replies.length < 16 → h = s.hearHost →
      t = State.holdChanged
        { h with sup := { h.sup with
            holdCommand := false
            holdSilence := false
            record := { h.sup.record with
              releaseCause := .command, releaseAisle := none, releaseClock := h.sup.jobClock } } } →
      u = State.holdChanged
        { h with sup := { h.sup with
            holdAisle := h.sup.holdAisle.set a.val false a.isLt
            record := { h.sup.record with
              releaseCause := .command, releaseAisle := some a, releaseClock := h.sup.jobClock } } } →
      exec (.resume [r1, r0, 0xFF#8]) s
        = .next
          (State.pushReply
            (if h.sup.holdCommand || h.sup.holdSilence then
                t.engineRun.triggerAll
                  (allCranes.filter fun x => (t.crane x).state == .idle && !h.aisleHeld (aisleOf x))
              else h)
            { ref := r1 ++ r0, kind := 0x1A#8, code := .ok, data := .empty })
      ∧ exec (.resume [r1, r0, BitVec.ofNat 8 a.val]) s
        = .next
          (State.pushReply
            (if h.sup.holdAisle.get a then
                u.engineRun.triggerAll
                  (allCranes.filter fun x =>
                    (u.crane x).state == .idle && !h.sup.holdCommand && !h.sup.holdSilence && aisleOf x == a)
              else h)
            { ref := r1 ++ r0, kind := 0x1A#8, code := .ok, data := .empty })
      ∧ (7 < b.toNat → b ≠ 0xFF#8 →
        exec (.resume [r1, r0, b]) s
          = .next (h.pushReply { ref := r1 ++ r0, kind := 0x1A#8, code := .range, data := .empty })))

/-- R163, R164, R167, R169, R133: a pace interval expiry raises the job clock by one, the silence count of every enrolled
crane and the management silence count by one up to 255 and the accept timer of every order in SENT or REVOKING by one, and
leaves the duration clock and the settings; then come the silence limits, the poll rotation by the counts before the expiry,
the host limit and the accept timers. That order (log entry 6), and that the expiry as a command begins a new interval and
leaves the duration clock (log entry 31), are the model's choices (DESIGN CHOICE). R168: the poll rotation polls the first
crane after the pointer that is enrolled and whose count before the expiry was 1 or more, moves the pointer to it and counts a
round when the pointer wraps; with no such crane nothing changes. -/
def Obligations.PaceExpiryAndPoll : Prop :=
  (∀ s : State, ∃ t, exec .paceIntervalExpiry s = .next t
      ∧ t.sup.jobClock = s.sup.jobClock + 1#32
      ∧ t.sup.durationClock = s.sup.durationClock
      ∧ t.sup.timing = s.sup.timing
      ∧ t.sup.paceElapsed = 0
      ∧ t.sup.hostSilence = min 255 (s.sup.hostSilence + 1)
      ∧ (∀ x : Crane, t.silenceOf x = if (s.crane x).state = .offline then s.silenceOf x else min 255 (s.silenceOf x + 1))
      ∧ t.sup.holdCommand = s.sup.holdCommand
      ∧ t.sup.holdAisle = s.sup.holdAisle
      ∧ t.cost = s.cost ∧ t.lanes = s.lanes)
  ∧ (∀ s u : State,
      u = { s with
            sup := { s.sup with
              jobClock := s.sup.jobClock + 1#32, paceElapsed := 0, hostSilence := min 255 (s.sup.hostSilence + 1)
              silence := u.sup.silence }
            orders := { s.orders with cranes := u.orders.cranes } } →
      (∀ x, u.silenceOf x = if (s.crane x).state = .offline then s.silenceOf x else min 255 (s.silenceOf x + 1)) →
      (∀ x, u.crane x = { s.crane x with order := (s.crane x).order.map fun o =>
        if o.state = .sent ∨ o.state = .revoking then { o with acceptTimer := o.acceptTimer + 1 } else o }) →
      exec .paceIntervalExpiry s
        = .next ([0, 1, 2, 3, 4, 5, 6, 7, 8, 9, 10, 11, 12, 13, 14, 15].foldl State.serviceAccept
            (State.serviceHost (([0, 1, 2, 3, 4, 5, 6, 7, 8, 9, 10, 11, 12, 13, 14, 15].foldl State.serviceSilence u).poll
              s.silenceOf))))
  ∧ (∀ (s : State) (x : Crane), exec (.silenceLimitReached x) s = .next (s.serviceSilence x)
      ∧ exec .hostLimitReached s = .next s.serviceHost ∧ exec (.acceptTimerExpiry x) s = .next (s.serviceAccept x))
  ∧ (∀ (s : State) (before : Crane → Nat),
      ((∀ x : Crane, (s.crane x).state ≠ .offline → before x = 0) → s.poll before = s)
      ∧ ∀ n : Fin 16,
        (s.crane (s.sup.pollPointer + 1 + n)).state ≠ .offline → 1 ≤ before (s.sup.pollPointer + 1 + n) →
        (∀ m : Fin 16, m < n → (s.crane (s.sup.pollPointer + 1 + m)).state = .offline
          ∨ before (s.sup.pollPointer + 1 + m) = 0) →
        s.poll before
          = State.emit
            { s with sup := { s.sup with
                pollPointer := s.sup.pollPointer + 1 + n
                roundCount :=
                  if s.sup.pollPointer + 1 + n ≤ s.sup.pollPointer then s.sup.roundCount + 1#16
                  else s.sup.roundCount } }
            (s.sup.pollPointer + 1 + n) (frameOf 0x04#8 [0]))

/-- R169, R174: HOST_LIMIT_REACHED sets SILENCE when the host limit is not 0, the count equals it and SILENCE is clear. R146,
R167: SILENCE_LIMIT_REACHED makes an enrolled crane whose count stands at or above the limit LOST with cause SILENCE, its
order kept, a running one SUSPENDED with its leg in progress measure-invalid; one that waits loses its order. A command that
finds no limit reached changes nothing (DESIGN CHOICE, log entry 6). -/
def Obligations.LimitsReached : Prop :=
  (∀ s : State,
      exec .hostLimitReached s
        = .next
          (if s.sup.timing.hostLimit ≠ 0 ∧ s.sup.hostSilence = s.sup.timing.hostLimit ∧ s.sup.holdSilence = false then
            State.raise
              { s with sup := { s.sup with
                  holdSilence := true
                  record := { s.sup.record with
                    holdCause := .silence, holdAisle := none, holdClock := s.sup.jobClock } } }
              (.holdChange s.sup.holdCommand true s.sup.holdAisle
                { s.sup.record with holdCause := .silence, holdAisle := none, holdClock := s.sup.jobClock })
          else s))
  ∧ (∀ (x : Crane) (s : State),
      (((s.crane x).state = .offline ∨ (s.crane x).state = .lost ∨ s.silenceOf x < s.sup.timing.silenceLimit) →
        exec (.silenceLimitReached x) s = .next s)
      ∧ (s.ordersInLaw → (s.crane x).state ≠ .offline → (s.crane x).state ≠ .lost →
        s.sup.timing.silenceLimit ≤ s.silenceOf x →
        ∃ t, exec (.silenceLimitReached x) s = .next t ∧ (t.crane x).state = .lost
          ∧ (t.crane x).stateCause = some .silence ∧ (t.crane x).position = (s.crane x).position
          ∧ t.sup = s.sup ∧ t.cost = s.cost ∧ t.lanes = s.lanes
          ∧ ((s.crane x).state = .awaitYield → (t.crane x).order = none ∧ t.pairOf (aisleOf x) = none)
          ∧ ∀ o, (s.crane x).order = some o →
            (s.crane x).state ∈ [.ordered, .running, .yielding, .homing, .faulted] →
            ∃ q, (t.crane x).order = some q ∧ q.id = o.id ∧ q.kind = o.kind ∧ q.nextLeg = o.nextLeg
              ∧ q.state = (if o.state = .running then .suspended else o.state)
              ∧ q.legs = (if o.state = .running then o.legs.modify o.nextLeg fun l => { l with valid := false } else o.legs)))

/-! ## The cost unit (R6 to R16, R75 to R94) -/

/-- R15, R16, R78 to R83: the time of a leg to any target, from its profile, its factor and the distances. The governing cell
is that of a slot target, else that of a slot the leg starts from, else none, and with none the factor is 1024 and the profile
is A but in profile mode 1. The greater axis and the fork time are summed, trimmed with rounding half up, and brought to whole
milliseconds upward. A leg to a rail position, of a YIELD order, has action NONE. -/
def Obligations.LegTimes : Prop :=
  ∀ (s : State) (v : Values) (a : Aisle) (o : Origin) (t : Place) (action : Action) (pol : Policy) (w : Nat) (mark : Bool)
    (cell : Option (Nat × Nat)) (p : Profile) (kx ky th tv tf fork : Nat) (db dl : Nat),
    pol = s.policyOf a →
    (∀ b bay level, t = .rail b bay level → action = .stay) →
    cell = (match t, o with
      | .slot q, _ => some (q.bay, q.level)
      | _, .place (.slot q) => some (q.bay, q.level)
      | _, _ => none) →
    (∀ bay level, cell = some (bay, level) → pol.weighting = true →
      weightAt s.cost.weights (pol.weightingBase
          + (level - 1) / pol.levelGroup * (((s.geometryOf a).bays + pol.bayGroup - 1) / pol.bayGroup)
          + (bay - 1) / pol.bayGroup) = { mark := mark, factor := w }) →
    (cell = none ∨ pol.weighting = false → mark = false ∧ w = 1024) →
    p = (match pol.profileMode with
      | .profileA => v.profileA
      | .profileB => v.profileB
      | .byMark => if mark then v.profileB else v.profileA
      | .byWindow =>
        match cell with
        | some (bay, level) =>
          if (pol.windowBayLo ≤ bay ∧ bay ≤ pol.windowBayHi ∧ pol.windowLevelLo ≤ level ∧ level ≤ pol.windowLevelHi)
              ↔ pol.windowInvert = false then v.profileB else v.profileA
        | none => v.profileA) →
    kx = (match pol.weightingMode with
      | .bothRates | .horizontal => (2 * (p.kx * w) + 1024) / 2048
      | .vertical | .forkTime => p.kx) →
    ky = (match pol.weightingMode with
      | .bothRates | .vertical => (2 * (p.ky * w) + 1024) / 2048
      | .horizontal | .forkTime => p.ky) →
    (db : Int) = |((s.originAt o).bay : Int) - (s.resolve t).bay| →
    (dl : Int) = |((s.originAt o).level : Int) - (s.resolve t).level| →
    th = (if db = 0 then 0 else 16 * p.cx + db * kx) → tv = (if dl = 0 then 0 else 16 * p.cy + dl * ky) →
    tf = (if action = .stay then 0
      else match t with
        | .slot q => if q.depth = .front then 16 * p.kf else 16 * (p.kf + p.kd)
        | _ => 16 * p.ks) →
    fork = (match t with
      | .slot _ => if pol.weightingMode = .forkTime then (2 * (tf * w) + 1024) / 2048 else tf
      | _ => tf) →
    s.legRaw v a o t action = max th tv + fork
    ∧ (s.makeLeg v a o t action).untrimmed = min 65535 ((max th tv + fork + 15) / 16)
    ∧ (s.makeLeg v a o t action).legMs = min 65535 (((2 * ((max th tv + fork) * v.trim) + 1024) / 2048 + 15) / 16)
    ∧ (s.makeLeg v a o t action).target = t ∧ (s.makeLeg v a o t action).action = action

/-- R84: a route time is the sum of the leg times, saturating at 65535; R88: the score, formed as a signed sum and clamped to
0..65535. -/
def Obligations.RouteTimesAndScores : Prop :=
  (∀ legs : List Leg, routeMs legs = min 65535 ((legs.map (·.legMs)).sum))
  ∧ (∀ (sc : Scoring) (cls : Fin 4) (age route penalty : Nat),
      (scoreOf sc cls age route penalty : Int)
        = max 0 (min 65535 ((route : Int) + sc.bias cls + penalty - min age sc.ageCap * sc.ageGain)))

/-- R12: the entry of a cell stands at base + ((level − 1) div lg) × stride + ((bay − 1) div bg), the same for both sides and
both depths; every cell of the rack has its entry within the aisle's weighting range (R10), and cells share an entry only when
they share their bay group and their level group. -/
def Obligations.CellsLieInTheirRange : Prop :=
  (∀ (s : State) (a : Slot) (p : Policy), p = s.policyOf a.aisle → p.weighting = true →
      s.cellWeight a.aisle a.bay a.level
        = weightAt s.cost.weights (p.weightingBase
            + (a.level - 1) / p.levelGroup * (((s.geometryOf a.aisle).bays + p.bayGroup - 1) / p.bayGroup)
            + (a.bay - 1) / p.bayGroup))
  ∧ (∀ (p : Policy) (g : Geometry) (b l b' l' : Nat), 1 ≤ p.bayGroup → 1 ≤ p.levelGroup →
      1 ≤ b → b ≤ g.bays → 1 ≤ l → l ≤ g.levels → 1 ≤ b' → b' ≤ g.bays → 1 ≤ l' → l' ≤ g.levels →
      p.weightingBase ≤ cellIndex p g b l ∧ cellIndex p g b l < rangeEnd p g
      ∧ (cellIndex p g b l = cellIndex p g b' l' ↔
          (b - 1) / p.bayGroup = (b' - 1) / p.bayGroup ∧ (l - 1) / p.levelGroup = (l' - 1) / p.levelGroup))

/-- R76, R86, R92: what SET PROFILE, SET SCORING and SET TRIM write, and when they are refused RANGE. -/
def Obligations.CostSettingsTaken : Prop :=
  ∀ (r1 r0 hi lo auto : Byte) (fields : List Byte) (s h : State), s.port.replies.length < 16 → h = s.hearHost →
    (∀ (n : Byte) (p : Profile), readSetProfile fields = some (n, p) →
      exec (.setProfile (r1 :: r0 :: fields)) s
        = .next
          (if 1 < n.toNat ∨ 16383 < p.cx ∨ 16383 < p.cy ∨ 16383 < p.kf ∨ 16383 < p.kd ∨ 16383 < p.ks then
            h.pushReply { ref := r1 ++ r0, kind := 0x10#8, code := .range, data := .empty }
          else
            State.pushReply
              { h with cost :=
                if n = 0 then { h.cost with profileA := p } else { h.cost with profileB := p } }
              { ref := r1 ++ r0, kind := 0x10#8, code := .ok, data := .empty }))
    ∧ (∀ c : Scoring, readSetScoring fields = some c →
      exec (.setScoring (r1 :: r0 :: fields)) s
        = .next (State.pushReply { h with cost := { h.cost with scoring := c } }
            { ref := r1 ++ r0, kind := 0x11#8, code := .ok, data := .empty }))
    ∧ (∀ (x : Crane) (n : Nat), auto.toNat ≤ 1 → n = max 512 (min 2048 (hi ++ lo).toNat) →
      exec (.setTrim [r1, r0, BitVec.ofNat 8 x.val, hi, lo, auto]) s
        = .next
          ((h.setTrimOf x { trim := n, auto := auto == 1, legs := 0, predicted := 0, actual := 0 }).pushReply
            { ref := r1 ++ r0, kind := 0x0B#8, code := .ok, data := .trim n }))
    ∧ (∀ b : Byte, 15 < b.toNat → auto.toNat ≤ 1 →
      exec (.setTrim [r1, r0, b, hi, lo, auto]) s
        = .next (h.pushReply { ref := r1 ++ r0, kind := 0x0B#8, code := .range, data := .empty }))

/-- R6, R7: SET AISLE GEOMETRY with its checks in their order, and the record it writes (which bodies are read, the crane fit byte
with configured no among them: Obligations.MalformedRequestsAnswered, log entry 34). R9: SET AISLE POLICY with its checks in their order, and the record
it writes. -/
def Obligations.AisleSettingsTaken : Prop :=
  (∀ (r1 r0 : Byte) (fields : List Byte) (r : GeometryRequest) (s h : State), s.port.replies.length < 16 →
    h = s.hearHost → readSetGeometry fields = some r →
    (7 < r.aisle.toNat →
      exec (.setAisleGeometry (r1 :: r0 :: fields)) s
        = .next (h.pushReply { ref := r1 ++ r0, kind := 0x0C#8, code := .range, data := .empty }))
    ∧ ∀ (a : Aisle) (pol : Policy) (stride rows : Nat), r.aisle.toNat = a.val → pol = h.policyOf a →
      stride = (r.bays + pol.bayGroup - 1) / pol.bayGroup → rows = (r.levels + pol.levelGroup - 1) / pol.levelGroup →
      exec (.setAisleGeometry (r1 :: r0 :: fields)) s
        = .next
          (if r.configured = true ∧ (r.bays < 1 ∨ 120 < r.bays ∨ r.levels < 1 ∨ 40 < r.levels ∨ r.nearLevel < 1
                ∨ r.levels < r.nearLevel ∨ r.farLevel < 1 ∨ r.levels < r.farLevel ∨ r.gap < 1 ∨ 8 < r.gap
                ∨ 2 < r.fit.toNat) then
            h.pushReply { ref := r1 ++ r0, kind := 0x0C#8, code := .range, data := .empty }
          else if r.configured = true ∧ 2047 + 1 < pol.weightingBase + rows * stride then
            h.pushReply { ref := r1 ++ r0, kind := 0x0C#8, code := .range, data := .empty }
          else if (∃ j ∈ h.pool.jobs, j.aisle = a) ∨ (∃ e ∈ h.table, e.use.isSpare = true ∧ e.slot.aisle = a)
              ∨ (h.crane (craneAt a .near)).state ≠ .offline ∨ (h.crane (craneAt a .far)).state ≠ .offline then
            h.pushReply { ref := r1 ++ r0, kind := 0x0C#8, code := .inUse, data := .empty }
          else
            State.pushReply
              { h with
                cost :=
                  { h.cost with
                    geometry :=
                      h.cost.geometry.set a.val
                        (if r.configured then
                          { configured := true, bays := r.bays, levels := r.levels, doubleDeep := r.doubleDeep,
                            nearLevel := r.nearLevel, farLevel := r.farLevel,
                            fit := if r.fit.toNat = 0 then .nearOnly else if r.fit.toNat = 1 then .farOnly else .both,
                            gap := r.gap }
                        else
                          { configured := false, bays := 1, levels := 1, doubleDeep := false, nearLevel := 1,
                            farLevel := 1, fit := .nearOnly, gap := 1 }) a.isLt } }
              { ref := r1 ++ r0, kind := 0x0C#8, code := .ok, data := .empty }))
  ∧ ∀ (r1 r0 : Byte) (fields : List Byte) (r : PolicyRequest) (s h : State) (stride rows : Aisle → Nat),
    s.port.replies.length < 16 → h = s.hearHost → readSetPolicy fields = some r →
    (∀ a, stride a = ((h.geometryOf a).bays + r.policy.bayGroup - 1) / r.policy.bayGroup) →
    (∀ a, rows a = ((h.geometryOf a).levels + r.policy.levelGroup - 1) / r.policy.levelGroup) →
    (7 < r.aisle.toNat ∨ 3 < r.profileMode.toNat ∨ 3 < r.weightingMode.toNat ∨ r.policy.windowBayLo < 1
        ∨ r.policy.windowBayHi < r.policy.windowBayLo ∨ 120 < r.policy.windowBayHi ∨ r.policy.windowLevelLo < 1
        ∨ r.policy.windowLevelHi < r.policy.windowLevelLo ∨ 40 < r.policy.windowLevelHi ∨ 2047 < r.policy.weightingBase
        ∨ r.policy.bayGroup < 1 ∨ 16 < r.policy.bayGroup ∨ r.policy.levelGroup < 1 ∨ 16 < r.policy.levelGroup →
      exec (.setAislePolicy (r1 :: r0 :: fields)) s
        = .next (h.pushReply { ref := r1 ++ r0, kind := 0x0D#8, code := .range, data := .empty }))
    ∧ ∀ (a : Aisle) (pm : ProfileMode) (wm : WeightingMode), r.aisle.toNat = a.val →
      r.profileMode.toNat = profileModeCode pm → r.weightingMode.toNat = weightingModeCode wm →
      1 ≤ r.policy.windowBayLo → r.policy.windowBayLo ≤ r.policy.windowBayHi → r.policy.windowBayHi ≤ 120 →
      1 ≤ r.policy.windowLevelLo → r.policy.windowLevelLo ≤ r.policy.windowLevelHi → r.policy.windowLevelHi ≤ 40 →
      r.policy.weightingBase ≤ 2047 → 1 ≤ r.policy.bayGroup → r.policy.bayGroup ≤ 16 → 1 ≤ r.policy.levelGroup →
      r.policy.levelGroup ≤ 16 →
      exec (.setAislePolicy (r1 :: r0 :: fields)) s
        = .next
          (if 2047 + 1 < r.policy.weightingBase + rows a * stride a then
            h.pushReply { ref := r1 ++ r0, kind := 0x0D#8, code := .range, data := .empty }
          else if ∃ p ∈ h.engine.pass, aisleOf p.crane = a then
            h.pushReply { ref := r1 ++ r0, kind := 0x0D#8, code := .busy, data := .empty }
          else
            State.pushReply
              { h with
                cost :=
                  { h.cost with
                    policy :=
                      h.cost.policy.set a.val { r.policy with profileMode := pm, weightingMode := wm } a.isLt } }
              { ref := r1 ++ r0, kind := 0x0D#8, code := .ok, data := .empty })

/-- R13: LOAD WEIGHTS is refused RANGE past entry 2047 and BUSY while a pass reads an entry of its run, and else writes its run
and no other entry. -/
def Obligations.LoadWeightsTaken : Prop :=
  ∀ (r1 r0 : Byte) (fields : List Byte) (start : Nat) (ws : List Weight) (s h : State), s.port.replies.length < 16 →
    h = s.hearHost → h.weightsInLaw → readLoadWeights fields = some (start, ws) →
    (2047 < start + ws.length - 1 →
      exec (.loadWeights (r1 :: r0 :: fields)) s
        = .next (h.pushReply { ref := r1 ++ r0, kind := 0x0E#8, code := .range, data := .empty }))
    ∧ (start + ws.length - 1 ≤ 2047 →
      ∀ busy : Prop,
        (busy ↔ ∃ p ∈ h.engine.pass, (h.policyOf (aisleOf p.crane)).weighting = true ∧
          ∃ i, start ≤ i ∧ i < start + ws.length ∧ (h.policyOf (aisleOf p.crane)).weightingBase ≤ i
            ∧ i < rangeEnd (h.policyOf (aisleOf p.crane)) (h.geometryOf (aisleOf p.crane))) →
        (busy →
          exec (.loadWeights (r1 :: r0 :: fields)) s
            = .next (h.pushReply { ref := r1 ++ r0, kind := 0x0E#8, code := .busy, data := .empty }))
        ∧ (¬busy →
          ∃ table, (∀ i, weightAt table i
              = if hi : start ≤ i ∧ i < start + ws.length then ws[i - start]'(by omega)
                else weightAt h.cost.weights i)
            ∧ exec (.loadWeights (r1 :: r0 :: fields)) s
              = .next (State.pushReply { h with cost := { h.cost with weights := table } }
                  { ref := r1 ++ r0, kind := 0x0E#8, code := .ok, data := .empty })))

/-- R93, R94: a measured leg is added to the accumulators of its crane; at the 64th with auto-trim enabled the trim becomes 1024
times the quotient of the sums, rounded half up and clamped, and TRIM UPDATED is raised. -/
def Obligations.MeasuredLegsTrim : Prop :=
  ∀ (s : State) (x : Crane) (predicted measured n p a : Nat) (t : Trim), t = s.trimOf x →
    n = (if t.legs < 64 then t.legs + 1 else t.legs) → p = min 4294967295 (t.predicted + predicted) →
    a = min 4294967295 (t.actual + min 65535 measured) →
    (t.auto = false ∨ n < 64 →
      s.accumulate x predicted measured = s.setTrimOf x { t with legs := n, predicted := p, actual := a })
    ∧ (t.auto = true → 64 ≤ n → ∀ trim,
      trim = (if p = 0 then t.trim else max 512 (min 2048 ((2 * (1024 * a) + p) / (2 * p)))) →
      s.accumulate x predicted measured
        = (s.setTrimOf x { trim := trim, auto := true, legs := 0, predicted := 0, actual := 0 }).raise
            (.trimUpdated x trim))

/-! ## Places and the job pool (R2 to R4, R19 to R38) -/

/-- R2, R3, R4: where a place stands on the rail, when a slot is in the geometry, and when a station is served. R191, R192: a
slot or a station sent as a place is received as the same place, whatever bit 7 of byte 0 and byte 3 hold. -/
def Obligations.PlacesAndTheirCode : Prop :=
  (∀ (s : State) (a : Slot) (st : Station) (bay level : Nat) (g : Geometry),
      (g = s.geometryOf a.aisle →
        s.resolve (.slot a) = { bay := a.bay, level := a.level }
        ∧ (s.inGeometry a = true ↔ g.configured = true ∧ 1 ≤ a.bay ∧ a.bay ≤ g.bays ∧ 1 ≤ a.level ∧ a.level ≤ g.levels
            ∧ (a.depth = .front ∨ g.doubleDeep = true)))
      ∧ (g = s.geometryOf st.aisle →
        s.resolve (.station st)
            = (if st.side = .near then { bay := 0, level := g.nearLevel } else { bay := g.bays + 1, level := g.farLevel })
        ∧ (s.served st = true ↔ g.configured = true
            ∧ (g.fit = .both ∨ (g.fit = .nearOnly ∧ st.side = .near) ∨ (g.fit = .farOnly ∧ st.side = .far))))
      ∧ s.resolve (.rail st.aisle bay level) = { bay := bay, level := level })
  ∧ (∀ (a : Slot) (st : Station) (b0 b1 b2 b3 x : Byte),
      (a.bay < 256 → a.level < 256 → slotBytes a = [b0, b1, b2, b3] →
        placeOf b0 b1 b2 x = some (.slot a) ∧ placeOf (b0 ||| 0x80#8) b1 b2 x = some (.slot a))
      ∧ (stationBytes st = [b0, b1, b2, b3] →
        placeOf b0 b1 b2 x = some (.station st) ∧ placeOf (b0 ||| 0x80#8) b1 b2 x = some (.station st))
      ∧ (b0.toNat / 32 % 4 = 3 → placeOf b0 b1 b2 b3 = none))

/-- R22, R23: ADMIT STORE with its checks in their order; a taken one makes the job record, applies the watch and triggers the
station's crane. -/
def Obligations.AdmitStoreTaken : Prop :=
  ∀ (r1 r0 : Byte) (fields : List Byte) (r : StoreRequest) (s h : State), s.port.replies.length < 16 →
    h = s.hearHost → readAdmitStore fields = some r →
    ((∀ st, r.station ≠ .station st) →
      exec (.admitStore (r1 :: r0 :: fields)) s
        = .next (h.pushReply { ref := r1 ++ r0, kind := 0x01#8, code := .badPlace, data := .empty }))
    ∧ ∀ (st : Station) (j : Job), r.station = .station st →
      j = { serial := h.pool.serial + 1#32, tag := r.tag, pallet := r.pallet, cls := r.cls,
            admittedAt := h.sup.jobClock, state := .pending, declines := 0,
            kind := .store st (slotsIn r.candidates) none false } →
      exec (.admitStore (r1 :: r0 :: fields)) s
        = .next
          (if h.served st = false then
            h.pushReply { ref := r1 ++ r0, kind := 0x01#8, code := .badPlace, data := .empty }
          else if ∃ p ∈ r.candidates, ∀ a ∈ slotsIn [p], h.inGeometry a = false ∨ a.aisle ≠ st.aisle then
            h.pushReply { ref := r1 ++ r0, kind := 0x01#8, code := .badPlace, data := .empty }
          else if ∃ k ∈ h.pool.jobs, k.tag = r.tag then
            h.pushReply { ref := r1 ++ r0, kind := 0x01#8, code := .duplicateTag, data := .empty }
          else if ∃ k ∈ h.pool.jobs, k.pallet = r.pallet then
            h.pushReply { ref := r1 ++ r0, kind := 0x01#8, code := .palletBusy, data := .empty }
          else if 320 ≤ h.pool.jobs.length then
            h.pushReply { ref := r1 ++ r0, kind := 0x01#8, code := .full, data := .fullPool }
          else if 8 ≤ (h.pool.stationQueue st).length then
            h.pushReply { ref := r1 ++ r0, kind := 0x01#8, code := .full, data := .fullQueue }
          else
            State.pushReply
              ((State.watch { h with pool := { h.pool with jobs := h.pool.jobs ++ [j], serial := h.pool.serial + 1#32 } }
                h.pool.jobs.length (h.pool.jobs.length + 1)).trigger (craneAt st.aisle st.side))
              { ref := r1 ++ r0, kind := 0x01#8, code := .ok, data := .serial (h.pool.serial + 1#32) })

/-- R24, R25: ADMIT RETRIEVE with its checks in their order; a taken one makes the job record and its RETRIEVE SOURCE entry,
counts on its lane, applies the watch and triggers both cranes of the aisle. -/
def Obligations.AdmitRetrieveTaken : Prop :=
  ∀ (r1 r0 : Byte) (fields : List Byte) (r : RetrieveRequest) (s h : State), s.port.replies.length < 16 →
    h = s.hearHost → readAdmitRetrieve fields = some r →
    ((∀ a, r.place ≠ .slot a) →
      exec (.admitRetrieve (r1 :: r0 :: fields)) s
        = .next (h.pushReply { ref := r1 ++ r0, kind := 0x02#8, code := .badPlace, data := .empty }))
    ∧ ∀ (a : Slot) (j : Job) (t : State), r.place = .slot a →
      j = { serial := h.pool.serial + 1#32, tag := r.tag, pallet := r.pallet, cls := r.cls,
            admittedAt := h.sup.jobClock, state := .pending, declines := 0,
            kind := .retrieve a r.blocker r.lane } →
      t = { h with
            table := h.table ++ [{ slot := a, use := .retrieveSource r.tag }]
            lanes :=
              match r.lane with
              | some (l, _) => h.lanes.set l.val { h.laneOf l with liveJobs := (h.laneOf l).liveJobs + 1 } l.isLt
              | none => h.lanes
            pool := { h.pool with jobs := h.pool.jobs ++ [j], serial := h.pool.serial + 1#32 } } →
      exec (.admitRetrieve (r1 :: r0 :: fields)) s
        = .next
          (if h.inGeometry a = false then
            h.pushReply { ref := r1 ++ r0, kind := 0x02#8, code := .badPlace, data := .empty }
          else if r.blocker ≠ none ∧ (a.depth = .front ∨ (h.geometryOf a.aisle).doubleDeep = false) then
            h.pushReply { ref := r1 ++ r0, kind := 0x02#8, code := .badPlace, data := .empty }
          else if ∃ k ∈ h.pool.jobs, k.tag = r.tag then
            h.pushReply { ref := r1 ++ r0, kind := 0x02#8, code := .duplicateTag, data := .empty }
          else if ∃ k ∈ h.pool.jobs, k.pallet = r.pallet then
            h.pushReply { ref := r1 ++ r0, kind := 0x02#8, code := .palletBusy, data := .empty }
          else if ∃ e ∈ h.table, e.slot = a then
            h.pushReply { ref := r1 ++ r0, kind := 0x02#8, code := .slotReserved, data := .empty }
          else if r.lane.any (fun n => !(h.laneOf n.1).opened) then
            h.pushReply { ref := r1 ++ r0, kind := 0x02#8, code := .laneClosed, data := .empty }
          else if r.lane.any (fun n =>
              32768 ≤ (n.2 - (h.laneOf n.1).nextDue).toNat || (h.laneOf n.1).delivered.contains n.2) then
            h.pushReply { ref := r1 ++ r0, kind := 0x02#8, code := .staleSequence, data := .empty }
          else if r.lane ≠ none ∧ ∃ k ∈ h.pool.jobs, k.lane? = r.lane then
            h.pushReply { ref := r1 ++ r0, kind := 0x02#8, code := .duplicateSequence, data := .empty }
          else if 320 ≤ h.pool.jobs.length then
            h.pushReply { ref := r1 ++ r0, kind := 0x02#8, code := .full, data := .fullPool }
          else
            State.pushReply
              (((t.watch h.pool.jobs.length (h.pool.jobs.length + 1)).trigger (craneAt a.aisle .near)).trigger
                (craneAt a.aisle .far))
              { ref := r1 ++ r0, kind := 0x02#8, code := .ok, data := .serial (h.pool.serial + 1#32) })

/-- R28: AMEND STORE with its checks in their order; a taken one replaces the candidates, clears the stalled mark and triggers
the station's crane. R29, R30: CANCEL JOB with its checks in their order; a taken one removes the job, delivers its sequence
with skip yes, and triggers the cranes whose prospects it may have changed (log entry 12). -/
def Obligations.AmendAndCancelTaken : Prop :=
  (∀ (r1 r0 : Byte) (fields : List Byte) (tag : Word32) (ps : List Place) (s h : State), s.port.replies.length < 16 →
      h = s.hearHost → readAmendStore fields = some (tag, ps) →
      ((∀ j ∈ h.pool.jobs, j.tag ≠ tag) →
        exec (.amendStore (r1 :: r0 :: fields)) s
          = .next (h.pushReply { ref := r1 ++ r0, kind := 0x03#8, code := .unknownTag, data := .empty }))
      ∧ (∀ (j : Job) (slot : Slot) (blocker : Option Word32) (lane : Option (LaneNo × Word16)),
        h.pool.find tag = some j → j.kind = .retrieve slot blocker lane →
        exec (.amendStore (r1 :: r0 :: fields)) s
          = .next (h.pushReply { ref := r1 ++ r0, kind := 0x03#8, code := .wrongState, data := .empty }))
      ∧ ∀ (j : Job) (st : Station) (cands : List Slot) (chosen : Option Slot) (stalled : Bool),
        h.pool.find tag = some j → j.kind = .store st cands chosen stalled →
        exec (.amendStore (r1 :: r0 :: fields)) s
          = .next
            (if j.state ≠ .pending then
              h.pushReply { ref := r1 ++ r0, kind := 0x03#8, code := .inProgress, data := .empty }
            else if ∃ p ∈ ps, ∀ a ∈ slotsIn [p], h.inGeometry a = false ∨ a.aisle ≠ st.aisle then
              h.pushReply { ref := r1 ++ r0, kind := 0x03#8, code := .badPlace, data := .empty }
            else
              State.pushReply
                ((h.setJobs (h.pool.jobs.map fun k => if k.tag = tag then (k.setCandidates (slotsIn ps)).setStalled false
                    else k)).trigger (craneAt st.aisle st.side))
                { ref := r1 ++ r0, kind := 0x03#8, code := .ok, data := .empty }))
  ∧ (∀ (r1 r0 : Byte) (fields : List Byte) (tag : Word32) (skip : Bool) (s h : State), s.port.replies.length < 16 →
      h = s.hearHost → readCancelJob fields = some (tag, skip) →
      ((∀ j ∈ h.pool.jobs, j.tag ≠ tag) →
        exec (.cancelJob (r1 :: r0 :: fields)) s
          = .next (h.pushReply { ref := r1 ++ r0, kind := 0x04#8, code := .unknownTag, data := .empty }))
      ∧ (∀ j : Job, h.pool.find tag = some j → j.state ≠ .pending →
        exec (.cancelJob (r1 :: r0 :: fields)) s
          = .next (h.pushReply { ref := r1 ++ r0, kind := 0x04#8, code := .inProgress, data := .empty }))
      ∧ (∀ (j : Job) (st : Station) (cands : List Slot) (chosen : Option Slot) (stalled : Bool),
        h.pool.find tag = some j → j.state = .pending → j.kind = .store st cands chosen stalled →
        exec (.cancelJob (r1 :: r0 :: fields)) s
          = .next
            (State.pushReply
              (if (h.pool.stationQueue st).head?.map (·.tag) = some tag then
                (h.removeJob tag false).trigger (craneAt st.aisle st.side)
              else h.removeJob tag false)
              { ref := r1 ++ r0, kind := 0x04#8, code := .ok, data := .empty }))
      ∧ ∀ (j : Job) (a : Slot) (blocker : Option Word32) (lane : Option (LaneNo × Word16)) (t : State),
        h.pool.find tag = some j → j.state = .pending → j.kind = .retrieve a blocker lane →
        t = (match lane, skip with
          | some (l, d), true => (h.removeJob tag false).deliver l d
          | _, _ => h.removeJob tag false) →
        exec (.cancelJob (r1 :: r0 :: fields)) s
          = .next
            (State.pushReply ((t.trigger (craneAt a.aisle .near)).trigger (craneAt a.aisle .far))
              { ref := r1 ++ r0, kind := 0x04#8, code := .ok, data := .empty }))

/-- R32, R35: the removal of a job takes it out of the pool with the entries it owns, lowers its lane's count, clears the
blocker fields that name its pallet when its pallet left its slot, and applies the watch to the fall. R38: a change of the
live count raises POOL LEVEL with the new count and the direction of a crossing that the edge mode selects, and else nothing.
-/
def Obligations.JobsLeaveThePool : Prop :=
  (∀ (s : State) (j : Job) (clears : Bool), s.poolInLaw → j ∈ s.pool.jobs →
      s.removeJob j.tag clears
        = State.watch
          { s with
            pool := { s.pool with jobs :=
              (s.pool.jobs.filter (fun k => k.tag != j.tag)).map fun k =>
                if clears && j.isRetrieve && k.blocker? == some j.pallet then k.clearBlocker j.pallet else k }
            table := s.table.filter (fun e => e.use.owner != some j.tag)
            lanes :=
              match j.lane? with
              | some (l, _) => s.lanes.set l.val { s.laneOf l with liveJobs := (s.laneOf l).liveJobs - 1 } l.isLt
              | none => s.lanes }
          s.pool.jobs.length (s.pool.jobs.length - 1))
  ∧ (∀ (s : State) (old new th : Nat) (m : EdgeMode), th = s.pool.watchThreshold → m = s.pool.watchEdges →
      s.watch old new
        = if old < th ∧ th ≤ new ∧ (m = .rising ∨ m = .both) then s.raise (.poolLevel new .rising)
          else if th ≤ old ∧ new < th ∧ (m = .falling ∨ m = .both) then s.raise (.poolLevel new .falling)
          else s)

/-! ## The reservation table (R40 to R56) -/

/-- R14: when a cell is closed. R43, R44, R45: when a store candidate is eligible, when a retrieve passes the partner rule, and
when a spare is usable. -/
def Obligations.SlotRules : Prop :=
  (∀ (s : State) (a : Slot) (p : Policy), p = s.policyOf a.aisle →
      (s.closed a = true ↔ p.weighting = true ∧ p.profileMode ≠ .byMark
        ∧ (weightAt s.cost.weights (cellIndex p (s.geometryOf a.aisle) a.bay a.level)).mark = true))
  ∧ (∀ (s : State) (a : Slot) (j : Job) (store : Option Slot) (deep : Bool), deep = (s.geometryOf a.aisle).doubleDeep →
      (s.storeEligible a = true ↔
        useAt s.table a = none ∧ s.closed a = false
        ∧ (a.depth = .rear → deep = true → useAt s.table { a with depth := .front } = none)
        ∧ (a.depth = .front → deep = true → ∀ tag, useAt s.table { a with depth := .rear } ≠ some (.retrieveSource tag)
            ∧ useAt s.table { a with depth := .rear } ≠ some (.storeDest tag)
            ∧ useAt s.table { a with depth := .rear } ≠ some (.spareInUse tag)))
      ∧ (j.slot? = some a →
        (s.partnerEligible j = true ↔ (a.depth = .rear → j.blocker? ≠ none → deep = true →
          useAt s.table { a with depth := .front } = none)))
      ∧ (s.spareUsable a store = true ↔
        useAt s.table a = some .spareFree ∧ s.closed a = false ∧ (deep = true → useAt s.table a.partner = none)
        ∧ store ≠ some a.partner))

/-- R42, R47, R48: ADD SPARE and REMOVE SPARE with their checks in their order, and what they write. -/
def Obligations.SparesTaken : Prop :=
  ∀ (r1 r0 : Byte) (fields : List Byte) (p : Place) (s h : State), s.port.replies.length < 16 → h = s.hearHost →
    readPlace fields = some p →
    ((∀ a, p = .slot a → h.inGeometry a = false) →
      exec (.addSpare (r1 :: r0 :: fields)) s
          = .next (h.pushReply { ref := r1 ++ r0, kind := 0x12#8, code := .badPlace, data := .empty })
      ∧ exec (.removeSpare (r1 :: r0 :: fields)) s
          = .next (h.pushReply { ref := r1 ++ r0, kind := 0x13#8, code := .badPlace, data := .empty }))
    ∧ ∀ a, p = .slot a → h.inGeometry a = true →
      exec (.addSpare (r1 :: r0 :: fields)) s
        = .next
          (if useAt h.table a ≠ none then
            h.pushReply { ref := r1 ++ r0, kind := 0x12#8, code := .slotReserved, data := .empty }
          else if 16 ≤ (h.table.filter (fun e => e.use.isSpare && e.slot.aisle == a.aisle)).length then
            h.pushReply { ref := r1 ++ r0, kind := 0x12#8, code := .full, data := .empty }
          else
            State.pushReply
              ((State.trigger { h with table := h.table ++ [{ slot := a, use := .spareFree }] }
                (craneAt a.aisle .near)).trigger (craneAt a.aisle .far))
              { ref := r1 ++ r0, kind := 0x12#8, code := .ok, data := .empty })
      ∧ exec (.removeSpare (r1 :: r0 :: fields)) s
        = .next
          (if useAt h.table a = some .spareFree then
            State.pushReply { h with table := h.table.filter (fun e => e.slot != a) }
              { ref := r1 ++ r0, kind := 0x13#8, code := .ok, data := .empty }
          else if (useAt h.table a).any Use.isSpareInUse then
            h.pushReply { ref := r1 ++ r0, kind := 0x13#8, code := .inProgress, data := .empty }
          else h.pushReply { ref := r1 ++ r0, kind := 0x13#8, code := .unknownPlace, data := .empty })

/-- R49, R52: the entries that a dispatch makes, for a store alone, a retrieve alone, a retrieve with a relocation and a dual
route: STORE DEST for the store slot; for a relocation BLOCKER SOURCE for the FRONT slot and SPARE IN USE for the spare; no other
entry, so none for a retrieve without a relocation. Their revert, when the order of the dispatch ends unstarted, gives the table
back as it was. -/
def Obligations.DispatchEntriesRevert : Prop :=
  ∀ (s : State) (t made : List Entry) (r : PassResult) (o : Order), t = s.table →
    made = State.convertRetrieve (State.convertStore t r) r → o.storeTag = r.storeTag → o.retrieveTag = r.retrieveTag →
    (t.map (·.slot)).Nodup →
    (∀ tag, r.storeTag = some tag → (∃ a, r.storeSlot = some a ∧ useAt t a = none) ∧ ∀ e ∈ t, e.use ≠ .storeDest tag) →
    (∀ tag, r.retrieveTag = some tag → ∀ e ∈ t, e.use ≠ .blockerSource tag ∧ e.use ≠ .spareInUse tag) →
    (∀ q, r.relocation = some q → r.retrieveTag ≠ none ∧ useAt t q.front = none ∧ useAt t q.spare = some .spareFree
      ∧ (r.storeTag ≠ none → r.storeSlot ≠ some q.front)) →
    (∀ tag a, r.storeTag = some tag → r.storeSlot = some a → useAt made a = some (.storeDest tag))
    ∧ (∀ tag q, r.retrieveTag = some tag → r.relocation = some q →
        useAt made q.front = some (.blockerSource tag) ∧ useAt made q.spare = some (.spareInUse tag))
    ∧ (∀ b, (r.storeTag ≠ none → r.storeSlot ≠ some b) → (∀ q, r.relocation = some q → b ≠ q.front ∧ b ≠ q.spare) →
        useAt made b = useAt t b)
    ∧ (r.storeTag = none → r.relocation = none → made = t)
    ∧ (s.setTable made).revertEntries o = s

/-! ## Rail spans (R57 to R72) -/

/-- R58: the span of a route contains the position bay and every target's bay, and lies within every interval that does. R59:
when the spans of an aisle's two cranes are separated. R71: a change of a crane's span triggers its sibling just when it leaves
the span strictly narrower, or NONE after an interval, and the sibling carries the starved mark; an interval after UNKNOWN is no
shrink (DESIGN CHOICE, log entry 37). That the new interval must lie inside the old one, so that 10..20 to 25..25 triggers
nothing, is the model's choice (DESIGN CHOICE, log entry 36), and the trigger acts where the span changes (DEDUCED, log entry
29). R69: progress narrows the span to that of the taken position and the targets of the legs not yet done, cut to the span as
it is. R58, R70: the span that becomes the position bay; with the position unknown, where no run comes to that, it stays (DESIGN
CHOICE, log entry 32). R142, R146: the crane whose position and span become UNKNOWN. R59: a span is clear when it would be
separated from the sibling's span, the near crane's below the far crane's. -/
def Obligations.SpansAndSeparation : Prop :=
  (∀ (s : State) (bay : Nat) (ps : List Place), ∃ lo hi, s.routeSpan bay ps = .bays lo hi ∧ lo ≤ bay ∧ bay ≤ hi
      ∧ (∀ p ∈ ps, lo ≤ (s.resolve p).bay ∧ (s.resolve p).bay ≤ hi)
      ∧ ∀ l h, l ≤ bay → bay ≤ h → (∀ p ∈ ps, l ≤ (s.resolve p).bay ∧ (s.resolve p).bay ≤ h) → l ≤ lo ∧ hi ≤ h)
  ∧ (∀ (g : Geometry) (sp : Span) (a b c d : Nat),
      (separated g (.bays a b) (.bays c d) = true ↔ b + g.gap < c)
      ∧ separated g .absent sp = true ∧ separated g sp .absent = true
      ∧ separated g .unknown .unknown = false
      ∧ (separated g .unknown (.bays c d) = true ↔ g.bays + 1 + g.gap < c)
      ∧ (separated g (.bays a b) .unknown = false))
  ∧ (∀ (s : State) (x : Crane) (sp : Span) (shrink : Prop), (∀ a b, sp = .bays a b → a ≤ b) →
      (shrink ↔ ∃ c d, s.spanOf x = .bays c d
        ∧ (sp = .absent ∨ ∃ a b, sp = .bays a b ∧ c ≤ a ∧ b ≤ d ∧ (c < a ∨ b < d))) →
      (shrink → (s.crane (sibling x)).starved = true → s.changeSpan x sp = (s.setSpan x sp).trigger (sibling x))
      ∧ (¬(shrink ∧ (s.crane (sibling x)).starved = true) → s.changeSpan x sp = s.setSpan x sp))
  ∧ (∀ (s : State) (x : Crane) (o : Order) (p : Position) (c d l h : Nat),
      (s.crane x).order = some o → (s.crane x).position = some p → s.spanOf x = .bays c d →
      s.routeSpan p.bay ((o.legs.drop o.nextLeg).map (·.target)) = .bays l h →
      s.narrowSpan x = s.changeSpan x (.bays (max c l) (min d h)))
  ∧ ∀ (s : State) (x : Crane) (sp : Span),
      (∀ p, (s.crane x).position = some p → s.spanToPosition x = s.changeSpan x (.bays p.bay p.bay))
      ∧ ((s.crane x).position = none → s.spanToPosition x = s)
      ∧ s.loseSight x = (s.setCrane x { s.crane x with position := none }).setSpan x .unknown
      ∧ (endOf x = .near → s.clear x sp = separated (s.geometryOf (aisleOf x)) sp (s.spanOf (sibling x)))
      ∧ (endOf x = .far → s.clear x sp = separated (s.geometryOf (aisleOf x)) (s.spanOf (sibling x)) sp)
      ∧ (s.setSpan x sp).spanOf x = sp ∧ (∀ y, y ≠ x → (s.setSpan x sp).spanOf y = s.spanOf y)
      ∧ s.setSpan x sp = { s with spans := { s.spans with span := (s.setSpan x sp).spans.span } }

/-- R2, R68: a reported position keeps the cranes of the aisle separated, whatever is reported. R68: the table of a reported bay
against the crane's span; the crane of this table holds an order or is SYNCING. A position brought into range by R2 and then
replaced or widened by R68 counts two anomalies (DEDUCED, log entry 24). A crane at rest comes to the single bay of the position
it takes (DESIGN CHOICE, log entry 9), and where that leaves its span narrower than before the report, a starved sibling is
triggered (R71; log entry 36). -/
def Obligations.ReportedPositionsTaken : Prop :=
  (∀ (s : State) (x : Crane) (bay level : Nat), s.spansInLaw → s.separatedAt (aisleOf x) →
      (s.takePosition x bay level).separatedAt (aisleOf x))
  ∧ (∀ (s : State) (x : Crane) (bay level b l : Nat) (g : Geometry), g = s.geometryOf (aisleOf x) →
      ((s.crane x).order ≠ none ∨ (s.crane x).state = .syncing) →
      b = (if g.bays + 1 < bay then g.bays + 1 else bay) →
      l = (if level < 1 then 1 else if g.levels < level then g.levels else level) → 1 ≤ g.levels →
      (b = bay → l = level →
        (s.spanOf x = .absent → s.takePosition x bay level = s)
        ∧ (s.spanOf x = .unknown → s.takePosition x bay level
            = if s.clear x (.bays b b) then (s.setPosition x b l).setSpan x (.bays b b) else s)
        ∧ ∀ lo hi, s.spanOf x = .bays lo hi → s.takePosition x bay level
            = if lo ≤ b ∧ b ≤ hi then s.setPosition x b l
              else if s.clear x (.bays (min lo b) (max hi b)) then
                ((s.setPosition x b l).setSpan x (.bays (min lo b) (max hi b))).anomaly x
              else (s.setPosition x (if b < lo then lo else hi) l).anomaly x)
      ∧ (b ≠ bay ∨ l ≠ level → s.takePosition x bay level = (s.anomaly x).takePosition x b l)
      ∧ s.reportPosition x bay level = s.takePosition x bay level)
  ∧ (∀ (s : State) (x : Crane) (bay level : Nat) (g : Geometry), g = s.geometryOf (aisleOf x) → 1 ≤ g.levels →
      s.reportRange x bay level
        = if bay ≤ g.bays + 1 ∧ 1 ≤ level ∧ level ≤ g.levels then s else s.anomaly x)
  ∧ ∀ (s t : State) (x : Crane) (bay level b lo hi : Nat) (shrink : Prop), t = s.takePosition x bay level →
      b = (if (s.geometryOf (aisleOf x)).bays + 1 < bay then (s.geometryOf (aisleOf x)).bays + 1 else bay) →
      (s.crane x).order = none → (s.crane x).state ∈ [.idle, .queued, .faulted, .lost] → s.spanOf x = .bays lo hi →
      lo ≤ hi → (shrink ↔ lo < hi ∧ ∃ p, (t.crane x).position = some p ∧ lo ≤ p.bay ∧ p.bay ≤ hi) →
      (∃ p, (t.crane x).position = some p ∧ t.spanOf x = .bays p.bay p.bay
        ∧ p.bay = if (lo ≤ b ∧ b ≤ hi) ∨ s.clear x (.bays (min lo b) (max hi b)) then b else if b < lo then lo else hi)
      ∧ (shrink → (s.crane (sibling x)).starved = true → s.reportPosition x bay level = t.trigger (sibling x))
      ∧ (¬(shrink ∧ (s.crane (sibling x)).starved = true) → s.reportPosition x bay level = t)

/-- R60, R61: a route is ELIGIBLE just when its span is separated from the sibling's; YIELD-ELIGIBLE with target t just when
it is not, the sibling is IDLE at a known position, and t lies G + 1 bays off the route span, on the rail and not beyond the
sibling; and else INELIGIBLE. A crane without a known position, for which the rules give no route span, is answered INELIGIBLE
(DESIGN CHOICE, log entry 32). R60 to R63, R72: the spans that a claim leaves are separated: the route's from the sibling's span
when the answer is ELIGIBLE, and from the yield target when it is YIELD-ELIGIBLE; the yield span from the waiting crane's
position bay; and a home span wherever the position bay was. -/
def Obligations.ClaimsKeepSeparation : Prop :=
  ∀ (s : State) (x : Crane) (q : Position) (ps : List Place) (a : Aisle), a = aisleOf x →
    (s.spanAnswer x (some q) ps = .eligible ↔ (s.setSpan x (s.routeSpan q.bay ps)).separatedAt a)
    ∧ (∀ t lo hi gap, s.routeSpan q.bay ps = .bays lo hi → gap = (s.geometryOf a).gap →
        (s.spanAnswer x (some q) ps = .yieldEligible t ↔
          ¬(s.setSpan x (s.routeSpan q.bay ps)).separatedAt a ∧ (s.crane (sibling x)).state = .idle
          ∧ ∃ y, (s.crane (sibling x)).position = some y
            ∧ ((endOf x = .far ∧ t + gap + 1 = lo ∧ t ≤ y.bay)
              ∨ (endOf x = .near ∧ t = hi + gap + 1 ∧ y.bay ≤ t ∧ t ≤ (s.geometryOf a).bays + 1))))
    ∧ s.spanAnswer x none ps = .ineligible
    ∧ (∀ t, s.spanAnswer x (some q) ps = .yieldEligible t →
        ((s.setSpan x (s.routeSpan q.bay ps)).setSpan (sibling x) (.bays t t)).separatedAt a
        ∧ (q.bay ≤ (s.geometryOf a).bays + 1 → t ≤ (s.geometryOf a).bays + 1)
        ∧ ∃ y, (s.crane (sibling x)).state = .idle ∧ (s.crane (sibling x)).position = some y
          ∧ (((s.setSpan x (.bays q.bay q.bay)).setSpan (sibling x) (.bays y.bay y.bay)).separatedAt a →
            ((s.setSpan x (.bays q.bay q.bay)).setSpan (sibling x)
              (s.routeSpan y.bay [.rail a t y.level])).separatedAt a))
    ∧ ((s.setSpan x (.bays q.bay q.bay)).separatedAt a → q.bay ≤ (s.geometryOf a).bays + 1 →
        (s.setSpan x (s.routeSpan q.bay [.station (stationOf x)])).separatedAt a)

/-! ## Dispatch lanes (R151 to R162) -/

/-- R157: a delivery moves next due past the sequence that is DUE and past every delivered one that follows it, adds one that
is 1 to 31 ahead, and else changes nothing. R161: a delivery that moves next due raises LANE ADVANCED and triggers every
crane. -/
def Obligations.LaneDelivery : Prop :=
  (∀ (r : Lane) (d : Word16), r.opened = true → r.delivered.length ≤ 31 → r.delivered.Nodup →
      (d = r.nextDue → (r.deliver d).2 = true ∧ ∃ k, k ≤ r.delivered.length
        ∧ (∀ i, i < k → r.nextDue + 1 + BitVec.ofNat 16 i ∈ r.delivered)
        ∧ r.nextDue + 1 + BitVec.ofNat 16 k ∉ r.delivered
        ∧ (r.deliver d).1
          = { r with
              nextDue := r.nextDue + 1 + BitVec.ofNat 16 k
              delivered := r.delivered.filter fun e => k ≤ (e - (r.nextDue + 1)).toNat })
      ∧ (1 ≤ (d - r.nextDue).toNat → (d - r.nextDue).toNat ≤ 31 → d ∉ r.delivered →
          (r.deliver d).2 = false ∧ (r.deliver d).1.delivered.Perm (d :: r.delivered)
          ∧ (r.deliver d).1 = { r with delivered := (r.deliver d).1.delivered })
      ∧ (d ≠ r.nextDue → (32 ≤ (d - r.nextDue).toNat ∨ d ∈ r.delivered) → r.deliver d = (r, false)))
  ∧ (∀ (s : State) (l : LaneNo) (d : Word16) (r : Lane) (t : State), r = ((s.laneOf l).deliver d).1 →
      t = { s with lanes := s.lanes.set l.val r l.isLt } →
      (((s.laneOf l).deliver d).2 = true →
        s.deliver l d = (t.raise (.laneAdvanced l r.nextDue)).triggerAll [0, 1, 2, 3, 4, 5, 6, 7, 8, 9, 10, 11, 12, 13, 14, 15])
      ∧ (((s.laneOf l).deliver d).2 = false → s.deliver l d = t))

/-- R153, R154, R160, R161: LANE OPEN, LANE CLOSE and SKIP SEQUENCE with their checks in their order, and what they do. A lane
number above 7 is refused RANGE. R160 answers a SKIP SEQUENCE of a sequence delivered ahead or behind (check 4) OK and changes
nothing; that this OK carries the lane's next due is the model's choice (DEDUCED, log entry 13). -/
def Obligations.LaneRequestsTaken : Prop :=
  ∀ (r1 r0 q1 q0 w b : Byte) (l : LaneNo) (s h : State) (seq : Word16), s.port.replies.length < 16 → h = s.hearHost →
    seq = q1 ++ q0 →
    exec (.laneOpen [r1, r0, BitVec.ofNat 8 l.val, q1, q0, w]) s
      = .next
        (if (h.laneOf l).opened then
          h.pushReply { ref := r1 ++ r0, kind := 0x14#8, code := .wrongState, data := .empty }
        else
          State.pushReply
            (State.triggerAll
              { h with
                lanes :=
                  h.lanes.set l.val
                    { opened := true, nextDue := seq, window := max 1 (min 32 w.toNat), delivered := [],
                      liveJobs := (h.laneOf l).liveJobs } l.isLt }
              [0, 1, 2, 3, 4, 5, 6, 7, 8, 9, 10, 11, 12, 13, 14, 15])
            { ref := r1 ++ r0, kind := 0x14#8, code := .ok, data := .window (max 1 (min 32 w.toNat)) })
    ∧ exec (.laneClose [r1, r0, BitVec.ofNat 8 l.val]) s
      = .next
        (if (h.laneOf l).opened = false then
          h.pushReply { ref := r1 ++ r0, kind := 0x15#8, code := .wrongState, data := .empty }
        else if 0 < (h.laneOf l).liveJobs then
          h.pushReply { ref := r1 ++ r0, kind := 0x15#8, code := .inUse, data := .empty }
        else
          State.pushReply { h with lanes := h.lanes.set l.val { h.laneOf l with opened := false } l.isLt }
            { ref := r1 ++ r0, kind := 0x15#8, code := .ok, data := .empty })
    ∧ (∀ (r : Lane) (u : State), r = ((h.laneOf l).deliver seq).1 → u = { h with lanes := h.lanes.set l.val r l.isLt } →
      h.deliverOnly l seq = if ((h.laneOf l).deliver seq).2 then u.raise (.laneAdvanced l r.nextDue) else u)
    ∧ (∀ t : State, t = (h.deliverOnly l seq).triggerAll [0, 1, 2, 3, 4, 5, 6, 7, 8, 9, 10, 11, 12, 13, 14, 15] →
      exec (.skipSequence [r1, r0, BitVec.ofNat 8 l.val, q1, q0]) s
        = .next
          (if (h.laneOf l).opened = false then
            h.pushReply { ref := r1 ++ r0, kind := 0x16#8, code := .laneClosed, data := .empty }
          else if 32768 ≤ (seq - (h.laneOf l).nextDue).toNat ∨ seq ∈ (h.laneOf l).delivered then
            h.pushReply { ref := r1 ++ r0, kind := 0x16#8, code := .ok, data := .nextDue (h.laneOf l).nextDue }
          else if 32 ≤ (seq - (h.laneOf l).nextDue).toNat then
            h.pushReply { ref := r1 ++ r0, kind := 0x16#8, code := .range, data := .empty }
          else if ∃ j ∈ h.pool.jobs, j.lane? = some (l, seq) then
            h.pushReply { ref := r1 ++ r0, kind := 0x16#8, code := .inUse, data := .empty }
          else
            t.pushReply { ref := r1 ++ r0, kind := 0x16#8, code := .ok, data := .nextDue (t.laneOf l).nextDue }))
    ∧ (7 < b.toNat →
      exec (.laneOpen [r1, r0, b, q1, q0, w]) s
          = .next (h.pushReply { ref := r1 ++ r0, kind := 0x14#8, code := .range, data := .empty })
      ∧ exec (.laneClose [r1, r0, b]) s
          = .next (h.pushReply { ref := r1 ++ r0, kind := 0x15#8, code := .range, data := .empty })
      ∧ exec (.skipSequence [r1, r0, b, q1, q0]) s
          = .next (h.pushReply { ref := r1 ++ r0, kind := 0x16#8, code := .range, data := .empty }))

/-! ## Cranes: requests (R125, R127, R145, R147) -/

/-- R125, R127, R145, R147: ENROL CRANE, WITHDRAW CRANE, HOME CRANE and ABANDON ORDER with their checks in their order, and what
they do. R54, R55: an abandoned order's jobs return, are stranded or completed by the legs done. R26, R36, R51, R55: a job
returned is PENDING with no chosen slot; one stranded leaves the pool, with JOB STRANDED; a relocation not done gives its spare
back in its place; one done releases both entries, with RELOCATED. A retrieve that the abandon completes delivers its sequence,
with the triggers of its lane advance, before the order ends and the span becomes the position bay (DEDUCED, log entry 40). -/
def Obligations.CraneRequestsTaken : Prop :=
  (∀ (r1 r0 b : Byte) (x : Crane) (s h t u : State), s.port.replies.length < 16 → h = s.hearHost →
      t = State.emit
        (((h.setCrane x { h.crane x with
            state := .syncing, position := none, aboard := .unknown, timeouts := 0, homeRequest := false, starved := false,
            faultCode := none, stateCause := none }).setSpan x .unknown).setSilence x 0) x (frameOf 0x04#8 [0]) →
      u = (h.setCrane x { h.crane x with
            state := .offline, position := none, aboard := .unknown, homeRequest := false, starved := false }).setSilence x 0 →
      exec (.enrolCrane [r1, r0, BitVec.ofNat 8 x.val]) s
        = .next
          (if (h.crane x).state ≠ .offline then
            h.pushReply { ref := r1 ++ r0, kind := 0x06#8, code := .wrongState, data := .empty }
          else if h.served { aisle := aisleOf x, side := endOf x } = false then
            h.pushReply { ref := r1 ++ r0, kind := 0x06#8, code := .badPlace, data := .empty }
          else t.pushReply { ref := r1 ++ r0, kind := 0x06#8, code := .ok, data := .empty })
      ∧ exec (.withdrawCrane [r1, r0, BitVec.ofNat 8 x.val]) s
        = .next
          (if (h.crane x).state = .offline then
            h.pushReply { ref := r1 ++ r0, kind := 0x07#8, code := .wrongState, data := .empty }
          else if (h.crane x).order ≠ none
              ∨ (h.crane x).state ∈ [.queued, .awaitYield, .ordered, .running, .yielding, .homing] then
            h.pushReply { ref := r1 ++ r0, kind := 0x07#8, code := .inProgress, data := .empty }
          else
            State.pushReply
              (State.changeSpan
                (if (h.crane x).state ∈ [.faulted, .lost] then u.craneStateEvent x .withdrawn else u) x .absent)
              { ref := r1 ++ r0, kind := 0x07#8, code := .ok, data := .empty })
      ∧ (15 < b.toNat →
        exec (.enrolCrane [r1, r0, b]) s
            = .next (h.pushReply { ref := r1 ++ r0, kind := 0x06#8, code := .range, data := .empty })
        ∧ exec (.withdrawCrane [r1, r0, b]) s
            = .next (h.pushReply { ref := r1 ++ r0, kind := 0x07#8, code := .range, data := .empty })))
  ∧ (∀ (r1 r0 b : Byte) (x : Crane) (s h t : State), s.port.replies.length < 16 → h = s.hearHost →
    t = h.setCrane x { h.crane x with homeRequest := true } →
    exec (.homeCrane [r1, r0, BitVec.ofNat 8 x.val]) s
      = .next
        (if (h.crane x).state = .offline then
          h.pushReply { ref := r1 ++ r0, kind := 0x08#8, code := .wrongState, data := .empty }
        else
          State.pushReply
            (if (h.crane x).homeRequest then h
              else if (h.crane x).state = .idle then t.trigger x
              else if (h.crane x).state = .queued then t.engineRun
              else t)
            { ref := r1 ++ r0, kind := 0x08#8, code := .ok, data := .empty })
    ∧ exec (.abandonOrder [r1, r0, BitVec.ofNat 8 x.val]) s
      = .next
        (if (h.crane x).state ∈ [.faulted, .lost] ∧ (h.crane x).order ≠ none then
          ((h.emit x (frameOf 0x03#8 [0])).giveUp x).pushReply
            { ref := r1 ++ r0, kind := 0x09#8, code := .ok, data := .empty }
        else h.pushReply { ref := r1 ++ r0, kind := 0x09#8, code := .wrongState, data := .empty })
    ∧ (15 < b.toNat →
      exec (.homeCrane [r1, r0, b]) s
          = .next (h.pushReply { ref := r1 ++ r0, kind := 0x08#8, code := .range, data := .empty })
      ∧ exec (.abandonOrder [r1, r0, b]) s
          = .next (h.pushReply { ref := r1 ++ r0, kind := 0x09#8, code := .range, data := .empty })))
  ∧ ∀ (s : State) (x : Crane) (o : Order) (done : Nat → Bool) (k : Nat),
    (∀ i, done i = (o.legs[i]?).any (·.done)) → (k = if o.storeTag = none then 0 else 2) →
    (∀ t, o.storeTag = some t →
      s.abandonStore o x
        = if !done 0 then (s.returnJob t).setTable (revertStore s.table t)
          else if !done 1 then s.strandJob t x
          else s.completeStore t)
    ∧ (∀ t, o.retrieveTag = some t → o.relocation = none →
      s.abandonRetrieve o x
        = if !done k then s.returnJob t
          else if !done (k + 1) then s.strandJob t x
          else s.completeRetrieve t)
    ∧ (∀ t r, o.retrieveTag = some t → o.relocation = some r →
      s.abandonRetrieve o x
        = if !done k then (s.relocationUndone t).returnJob t
          else if !done (k + 1) then (s.relocationUndone t).strandJob t x
          else if !done (k + 2) then (s.relocationDone t r).returnJob t
          else if !done (k + 3) then (s.relocationDone t r).strandJob t x
          else (s.relocationDone t r).completeRetrieve t)
    ∧ (∀ t r, s.returnJob t
          = s.setJobs (s.pool.jobs.map fun j => if j.tag = t then ({ j with state := .pending }).setChosen none else j)
        ∧ s.strandJob t x = (s.removeJob t true).raise (.jobStranded t x)
        ∧ s.relocationUndone t
          = s.setTable ((s.table.filter fun e => e.use != .blockerSource t).map fun e =>
              if e.use = .spareInUse t then { e with use := .spareFree } else e)
        ∧ s.relocationDone t r
          = State.raise (s.setTable (s.table.filter fun e => e.use != .blockerSource t && e.use != .spareInUse t))
              (.relocated r.blocker r.front r.spare))
    ∧ ((s.crane x).order = some o →
      s.giveUp x
        = State.spanToPosition
          (State.dropOrder (if o.kind = .job then (s.abandonStore o x).abandonRetrieve o x else s) x) x)

/-! ## Cranes: records (R126 to R146) -/

/-- R128, R129, R146: a frame from an OFFLINE crane changes nothing; one from an enrolled crane clears its silence count, and
a record that is not taken counts as an anomaly and changes nothing else, but for a LOST crane, which it leaves unsettled;
that a malformed record is such a record, with one anomaly, is DEDUCED (log entry 22). R129: an anomaly adds one to the crane's
anomaly count, up to 65535, and changes nothing else. The writes of one crane's context, of its silence count and of a frame on
its line leave everything else as it is. -/
def Obligations.RecordsNotTaken : Prop :=
  ∀ (x : Crane) (id : Word16) (reason code index bay level legsDone : Byte) (started aboard : Bool) (mode : StatusMode)
    (s h : State), h = s.setSilence x 0 →
    ((s.crane x).state = .offline →
      exec (.unknownCraneRecord x) s = .next s ∧ exec (.accept x id) s = .next s
      ∧ exec (.decline x id reason) s = .next s ∧ exec (.legDone x id index bay level) s = .next s
      ∧ exec (.orderDone x id bay level) s = .next s ∧ exec (.revoked x id started) s = .next s
      ∧ exec (.fault x code bay level id legsDone) s = .next s ∧ exec (.faultClear x bay level) s = .next s
      ∧ exec (.status x mode id legsDone bay level aboard) s = .next s)
    ∧ ((s.crane x).state ≠ .offline → (s.crane x).state ≠ .lost →
      exec (.unknownCraneRecord x) s = .next (h.anomaly x)
      ∧ exec (.decline x id 0#8) s = .next (h.anomaly x)
      ∧ exec (.fault x 0#8 bay level id legsDone) s = .next (h.anomaly x)
      ∧ ((∀ o, (s.crane x).order = some o → o.id ≠ id) →
        exec (.accept x id) s = .next (h.anomaly x)
        ∧ exec (.decline x id reason) s = .next (h.anomaly x)
        ∧ exec (.legDone x id index bay level) s = .next (h.anomaly x)
        ∧ exec (.orderDone x id bay level) s = .next (h.anomaly x)
        ∧ exec (.revoked x id started) s = .next (h.anomaly x))
      ∧ ∀ o, (s.crane x).order = some o → o.id = id →
        (o.state ∈ [.awaitYield, .running, .suspended] →
          exec (.accept x id) s = .next (h.anomaly x) ∧ exec (.decline x id reason) s = .next (h.anomaly x))
        ∧ (o.state ≠ .revoking → exec (.revoked x id started) s = .next (h.anomaly x))
        ∧ (o.state ∈ [.awaitYield, .suspended] →
          exec (.legDone x id index bay level) s = .next (h.anomaly x)
          ∧ exec (.orderDone x id bay level) s = .next (h.anomaly x)))
    ∧ ((s.crane x).state = .lost → ∀ u : State,
      u = State.emit
        (if (s.crane x).order = none then
          (((h.anomaly x).setCraneState x .syncing).craneStateEvent x .reconciled)
        else ((h.anomaly x).setCraneState x .faulted).craneStateEvent x .unsettled) x (frameOf 0x04#8 [0]) →
      exec (.unknownCraneRecord x) s = .next u ∧ exec (.decline x id 0#8) s = .next u
      ∧ exec (.fault x 0#8 bay level id legsDone) s = .next u)
    -- an anomaly
    ∧ (∀ t : State, ((t.anomaly x).crane x) = { t.crane x with anomalies := min 65535 ((t.crane x).anomalies + 1) }
      ∧ (∀ y, y ≠ x → (t.anomaly x).crane y = t.crane y)
      ∧ t.anomaly x = { t with orders := { t.orders with cranes := (t.anomaly x).orders.cranes } })
    -- the writes of one crane
    ∧ (∀ (t : State) (c : CraneCtx) (f : CraneCtx → CraneCtx) (st : CraneState),
      (t.setCrane x c).crane x = c ∧ (∀ y, y ≠ x → (t.setCrane x c).crane y = t.crane y)
      ∧ t.setCrane x c = { t with orders := { t.orders with cranes := (t.setCrane x c).orders.cranes } }
      ∧ t.modCrane x f = t.setCrane x (f (t.crane x)) ∧ t.setCraneState x st = t.setCrane x { t.crane x with state := st })
    ∧ ∀ (t : State) (n : Nat) (frame : List Byte),
      (t.setSilence x n).silenceOf x = n ∧ (∀ y, y ≠ x → (t.setSilence x n).silenceOf y = t.silenceOf y)
      ∧ t.setSilence x n = { t with sup := { t.sup with silence := (t.setSilence x n).sup.silence } }
      ∧ (t.emit x frame).lines.craneOut.get x = t.lines.craneOut.get x ++ [frame]
      ∧ (∀ y, y ≠ x → (t.emit x frame).lines.craneOut.get y = t.lines.craneOut.get y)
      ∧ t.emit x frame = { t with lines := { t.lines with craneOut := (t.emit x frame).lines.craneOut } }

/-- R26, R132, R134: an ACCEPT of a SENT order, or a REVOKED that reports it started, makes the order RUNNING and its jobs
ACTIVE, clears the accept timeouts, captures the duration clock and gives the crane the state of its order kind; for a FAULTED
crane the order is SUSPENDED with leg 0 measure-invalid. An ACCEPT in REVOKING is noted. R135: a LEG DONE or an ORDER DONE of
an order in SENT or REVOKING starts it with leg 0 measure-invalid, and is then handled as one of a RUNNING order, also from a
FAULTED crane, whose order the start leaves SUSPENDED (DEDUCED, log entry 18). -/
def Obligations.OrdersStart : Prop :=
  ∀ (x : Crane) (s h u : State) (o : Order) (c : CraneCtx) (kind : CraneState),
    h = s.setSilence x 0 → c = s.crane x → c.order = some o →
    u = h.setJobs (h.pool.jobs.map fun j =>
      if o.storeTag = some j.tag ∨ o.retrieveTag = some j.tag then { j with state := .active } else j) →
    kind = (match o.kind with | .job => .running | .yield => .yielding | .home => .homing) →
    (o.state = .sent → c.state ∉ [.offline, .faulted, .lost] →
      exec (.accept x o.id) s
        = .next (u.setCrane x { c with
            state := kind, timeouts := 0
            order := some { o with state := .running, lastCapture := some s.sup.durationClock } }))
    ∧ (o.state = .sent → c.state = .lost →
      exec (.accept x o.id) s
        = .next ((u.setCrane x { c with
            state := kind, timeouts := 0
            order := some { o with state := .running, lastCapture := some s.sup.durationClock } }).craneStateEvent x
              .reconciled))
    ∧ (c.state = .faulted → (o.state = .sent → exec (.accept x o.id) s
        = .next (u.setCrane x { c with
            timeouts := 0
            order := some { o with
              state := .suspended, lastCapture := some s.sup.durationClock
              legs := o.legs.modify 0 fun l => { l with valid := false } } }))
      ∧ (o.state = .revoking → exec (.revoked x o.id true) s
        = .next (u.setCrane x { c with
            timeouts := 0
            order := some { o with
              state := .suspended, lastCapture := some s.sup.durationClock
              legs := o.legs.modify 0 fun l => { l with valid := false } } })))
    ∧ (o.state = .revoking → c.state ∉ [.offline, .lost] →
      exec (.accept x o.id) s = .next (h.setCrane x { c with order := some { o with lateAccept := true } }))
    ∧ (o.state = .revoking → c.state ∉ [.offline, .faulted, .lost] →
      exec (.revoked x o.id true) s
        = .next (u.setCrane x { c with
            state := kind, timeouts := 0
            order := some { o with
              state := .running, lastCapture := some s.sup.durationClock
              legs := o.legs.modify 0 fun l => { l with valid := false } } }))
    ∧ (o.state = .sent ∨ o.state = .revoking → c.state ∉ [.offline, .lost] → ∀ index bay level : Byte,
      exec (.legDone x o.id index bay level) s
          = .next ((h.startOrder x true).markLegDone x o index.toNat bay level)
      ∧ exec (.orderDone x o.id bay level) s = .next ((h.startOrder x true).finishOrder x o bay level))
    ∧ (c.state ∉ [.offline, .faulted, .lost] →
      h.startOrder x true
        = u.setCrane x { c with
            state := kind, timeouts := 0
            order := some { o with
              state := .running, lastCapture := some s.sup.durationClock
              legs := o.legs.modify 0 fun l => { l with valid := false } } })

/-- R134, R136: a REVOKED that reports not started and a DECLINE end the order: the entries of its dispatch are reverted, its
jobs return to PENDING or are declined (R27), its span becomes the position bay, and the crane becomes IDLE and is triggered,
or FAULTED at the second accept timeout; a FAULTED crane stays so. R65, R136: a DECLINE of a YIELD order first fails the yield
for the waiting crane, which is triggered before the declining one; a YIELD order in REVOKING has lost its partner before
(R133), so a REVOKED does nothing for one. -/
def Obligations.OrdersEndUnstarted : Prop :=
  ∀ (x : Crane) (reason : Byte) (s h u v w : State) (o : Order) (c : CraneCtx),
    h = s.setSilence x 0 → c = s.crane x → c.order = some o → c.state ≠ .offline →
    u = (if o.lateAccept then h.anomaly x else h) →
    v = ((u.setJobs (u.pool.jobs.map fun j =>
        if o.storeTag = some j.tag ∨ o.retrieveTag = some j.tag then ({ j with state := .pending }).setChosen none
        else j)).revertEntries o) →
    w = (if o.kind = .job then
        (o.storeTag.toList ++ o.retrieveTag.toList).foldl (fun t tag => t.declineJob tag reason) (h.revertEntries o)
      else h) →
    (o.state = .revoking →
      exec (.revoked x o.id false) s
        = .next
          (if c.timeouts + 1 < 2 then
            (if c.state = .faulted then
              ((v.dropOrder x).spanToPosition x).modCrane x fun d => { d with timeouts := c.timeouts + 1 }
            else
              (((v.dropOrder x).spanToPosition x).modCrane x fun d => { d with timeouts := c.timeouts + 1 }).becomeIdle x)
          else if c.state = .faulted then
            ((v.dropOrder x).spanToPosition x).modCrane x fun d => { d with timeouts := 0 }
          else
            ((((v.dropOrder x).spanToPosition x).modCrane x fun d => { d with timeouts := 0 }).setCraneState x
              .faulted).craneStateEvent x .acceptTimeout))
    ∧ (o.yieldPartner = none → o.state = .sent ∨ o.state = .revoking → reason ≠ 0 →
      exec (.decline x o.id reason) s
        = .next
          (if c.state = .faulted then
            ((w.modCrane x fun d => { d with timeouts := 0 }).dropOrder x).spanToPosition x
          else
            (((w.modCrane x fun d => { d with timeouts := 0 }).dropOrder x).spanToPosition x).becomeIdle x))
    ∧ (∀ y z : State, o.kind = .yield → o.yieldPartner = some (sibling x) → o.state = .sent ∨ o.state = .revoking →
      c.state ∈ [.ordered, .running, .yielding, .homing, .faulted, .lost] → reason ≠ 0 →
      y = (h.discardWaiting (sibling x)).setIdle (sibling x) →
      z = ((y.modCrane x fun d => { d with timeouts := 0 }).dropOrder x).spanToPosition x →
      exec (.decline x o.id reason) s
        = .next
          (if c.state = .faulted then z.idleTriggers (sibling x)
          else ((z.setIdle x).idleTriggers (sibling x)).idleTriggers x))
    ∧ ∀ (j : Job) (t : State), t.pool.find j.tag = some j →
      t.declineJob j.tag reason
        = if j.declines = 0 then
            t.setJobs (t.pool.jobs.map fun k =>
              if k.tag = j.tag then ({ k with declines := k.declines + 1, state := .pending }).setChosen none else k)
          else (t.removeJob j.tag false).raise (.jobFailed j.tag reason)

/-- R65, R133: an accept timer that expires in SENT sends a REVOKE, makes the order REVOKING and fails the yield for a waiting
partner; one that expires in REVOKING sends the REVOKE again. R64, R65: what the failing yield does to the waiting crane. A
command that finds no timer at the limit changes nothing (DESIGN CHOICE, log entry 6). R26, R52: the jobs of an order that did
not start return to PENDING with no chosen slot, and the entries of its dispatch are reverted. -/
def Obligations.AcceptTimersExpire : Prop :=
  (∀ (x : Crane) (s t : State) (o : Order), (s.crane x).order = some o →
    t = (s.setCrane x { s.crane x with order := some { o with state := .revoking, acceptTimer := 0 } }).emit x
      (frameOf 0x02#8 (word16Bytes o.id)) →
    (s.sup.timing.acceptLimit ≤ o.acceptTimer →
      (o.state = .revoking → exec (.acceptTimerExpiry x) s = .next t)
      ∧ (o.state = .sent → o.yieldPartner = none → exec (.acceptTimerExpiry x) s = .next t)
      ∧ (∀ w, o.state = .sent → o.yieldPartner = some w →
        exec (.acceptTimerExpiry x) s = .next (((t.discardWaiting w).setIdle w).idleTriggers w)))
    ∧ (o.acceptTimer < s.sup.timing.acceptLimit ∨ o.state ∉ [.sent, .revoking] →
      exec (.acceptTimerExpiry x) s = .next s))
  ∧ (∀ (x : Crane) (s : State), (s.crane x).order = none → exec (.acceptTimerExpiry x) s = .next s)
  ∧ (∀ (s t : State) (w : Crane) (o : Order), (s.crane w).order = some o →
    t = (((s.returnJobs o).revertEntries o).setPair (aisleOf w) none) →
    s.discardWaiting w
      = (((t.modOrder (sibling w) fun q => { q with yieldPartner := none }).modCrane w fun c =>
          { c with order := none }).spanToPosition w))
  ∧ ∀ (s : State) (o : Order) (t : List Entry) (x : Crane) (f : Order → Order),
    t = (match o.storeTag with | some a => s.table.filter fun e => e.use != .storeDest a | none => s.table) →
    s.returnJobs o
      = s.setJobs (s.pool.jobs.map fun j =>
          if o.storeTag = some j.tag ∨ o.retrieveTag = some j.tag then ({ j with state := .pending }).setChosen none else j)
    ∧ s.revertEntries o
      = { s with table :=
          match o.retrieveTag with
          | some b => (t.filter fun e => e.use != .blockerSource b).map fun e =>
              if e.use = .spareInUse b then { e with use := .spareFree } else e
          | none => t }
    ∧ s.modOrder x f = s.setCrane x { s.crane x with order := (s.crane x).order.map f }

/-- R68, R69, R93, R137, R138: a LEG DONE at or beyond the next leg of a RUNNING order takes the position, marks the legs up to
it done, sets the load aboard field by their actions, captures the clock and narrows the span; the leg that was next is measured
from the last capture and, when the order is a JOB order and the leg measure-valid, handed to the trim accumulators with its
untrimmed prediction. The pool, the reservation table, the lanes, the yield pairs and the other cranes' trims are as before. An
index below or past the legs not done is an anomaly and changes nothing else. A LEG DONE that starts or resumes its order (R135,
R146) is handled by the same operation, on the order as the start leaves it. -/
def Obligations.LegsAreMarked : Prop :=
  (∀ (x : Crane) (index bay level : Byte) (s : State) (o : Order), (s.crane x).order = some o → o.state = .running →
    (s.crane x).state ∈ [.running, .yielding, .homing] →
    exec (.legDone x o.id index bay level) s = .next ((s.setSilence x 0).markLegDone x o index.toNat bay level) ∧
    (index.toNat < o.nextLeg ∨ o.legs.length ≤ index.toNat →
      exec (.legDone x o.id index bay level) s = .next ((s.setSilence x 0).anomaly x))
    ∧ (s.ordersInLaw → o.nextLeg ≤ index.toNat → index.toNat < o.legs.length →
      (∃ t q, exec (.legDone x o.id index bay level) s = .next t
        ∧ t.pool = s.pool ∧ t.table = s.table ∧ t.lanes = s.lanes ∧ t.spans.pair = s.spans.pair
        ∧ t.sup = { s.sup with silence := t.sup.silence } ∧ (∀ y, y ≠ x → t.silenceOf y = s.silenceOf y)
        ∧ (∀ y, y ≠ x → t.trimOf y = s.trimOf y)
        ∧ (t.crane x).order = some q ∧ q.nextLeg = index.toNat + 1 ∧ q.legs.length = o.legs.length
        ∧ q.state = .running ∧ q.lastCapture = some s.sup.durationClock
        ∧ (t.crane x).state = (s.crane x).state
        ∧ (∀ i l, i ≤ index.toNat → q.legs[i]? = some l → l.done = true)
        ∧ (∀ i, index.toNat < i → q.legs[i]? = o.legs[i]?)
        ∧ (index.toNat = o.nextLeg → ∀ c l, o.lastCapture = some c → q.legs[o.nextLeg]? = some l →
            l.measured = some (s.sup.durationClock - c))
        ∧ ((index.toNat ≠ o.nextLeg ∨ o.kind ≠ .job ∨ (∀ l, o.legs[o.nextLeg]? = some l → l.valid = false)) →
            t.trimOf x = s.trimOf x))
      ∧ ∀ (u v : State) (marked : List Leg) (aboard : Aboard),
        u = (s.setSilence x 0).reportPosition x bay.toNat level.toNat →
        marked = (o.legs.mapIdx fun i l =>
          if i ≤ index.toNat then
            { l with
              done := true
              measured :=
                match o.lastCapture with
                | some c => if i = o.nextLeg ∧ index.toNat = o.nextLeg then some (s.sup.durationClock - c) else l.measured
                | none => l.measured }
          else l) →
        aboard = ((o.legs.take (index.toNat + 1)).drop o.nextLeg).foldl
          (fun b l => match l.action with | .pick => .yes | .drop => .no | .stay => b) (s.crane x).aboard →
        v = u.setCrane x { u.crane x with
          aboard := aboard
          order := some { o with
            legs := marked, nextLeg := index.toNat + 1, lastCapture := some s.sup.durationClock } } →
        (∀ c l, index.toNat = o.nextLeg → o.kind = .job → o.lastCapture = some c → o.legs[o.nextLeg]? = some l →
          l.valid = true →
          exec (.legDone x o.id index bay level) s
            = .next ((v.accumulate x l.untrimmed (s.sup.durationClock - c).toNat).narrowSpan x))
        ∧ (index.toNat ≠ o.nextLeg ∨ o.kind ≠ .job ∨ o.lastCapture = none
            ∨ (∀ l, o.legs[o.nextLeg]? = some l → l.valid = false) →
          exec (.legDone x o.id index bay level) s = .next (v.narrowSpan x))))
  ∧ ∀ (x : Crane) (i : Nat) (bay level : Byte) (r u v : State) (o q : Order),
    (i < o.nextLeg ∨ o.legs.length ≤ i → r.markLegDone x o i bay level = r.anomaly x)
    ∧ (o.nextLeg ≤ i → i < o.legs.length → u = r.reportPosition x bay.toNat level.toNat → (u.crane x).order = some q →
      q.nextLeg = o.nextLeg → q.legs.length = o.legs.length →
      v = u.setCrane x { u.crane x with
        aboard := ((q.legs.take (i + 1)).drop q.nextLeg).foldl
          (fun b l => match l.action with | .pick => .yes | .drop => .no | .stay => b) (u.crane x).aboard
        order := some { q with
          legs := q.legs.mapIdx fun k l =>
            if k ≤ i then
              { l with
                done := true
                measured := if k = q.nextLeg ∧ i = q.nextLeg then
                  (match q.lastCapture with | some c => some (r.sup.durationClock - c) | none => l.measured) else l.measured }
            else l
          nextLeg := i + 1, lastCapture := some r.sup.durationClock } } →
      (∀ c l, i = q.nextLeg → q.kind = .job → q.lastCapture = some c → q.legs[q.nextLeg]? = some l → l.valid = true →
        r.markLegDone x o i bay level = (v.accumulate x l.untrimmed (r.sup.durationClock - c).toNat).narrowSpan x)
      ∧ (i ≠ q.nextLeg ∨ q.kind ≠ .job ∨ q.lastCapture = none ∨ (∀ l, q.legs[q.nextLeg]? = some l → l.valid = false) →
        r.markLegDone x o i bay level = v.narrowSpan x))

/-- R64, R139, R140: an ORDER DONE of a RUNNING order: its position and its legs, then the entries and the jobs of a JOB order
in the order of the legs (R36, R51), then the crane IDLE at its position bay and triggered; a waiting crane whose claim is clear
is sent its order, and another one loses its yield. The triggers of a lane advance act at the delivery, before the order ends,
the span changes and the crane is IDLE (DEDUCED, log entry 40). An ORDER DONE that starts or resumes its order (R135, R146) is
handled by the same operation. R131: an order that is sent is SENT, its accept timer at 0, the crane in the state of its kind,
and its ORDER record on the line. -/
def Obligations.OrdersComplete : Prop :=
  (∀ (x : Crane) (bay level : Byte) (s t u : State) (o : Order), (s.crane x).order = some o → o.state = .running →
    (s.crane x).state ∉ [.offline, .lost] →
    t = (((s.setSilence x 0).reportPosition x bay.toNat level.toNat).markLegs x o.legs.length) →
    u = (t.dropOrder x).spanToPosition x →
    exec (.orderDone x o.id bay level) s = .next ((s.setSilence x 0).finishOrder x o bay level)
    ∧ (o.kind = .job →
      exec (.orderDone x o.id bay level) s
        = .next ((((((t.endStore o).endRetrieve o).dropOrder x).spanToPosition x).setIdle x).idleTriggers x))
    ∧ (o.kind = .home ∨ (o.kind = .yield ∧ o.yieldPartner = none) →
      exec (.orderDone x o.id bay level) s = .next ((u.setIdle x).idleTriggers x))
    ∧ (∀ w, o.kind = .yield → o.yieldPartner = some w →
      exec (.orderDone x o.id bay level) s
        = .next
          (if u.clear w (u.spanOf w) then
            ((((u.setIdle x).setPair (aisleOf w) none).sendOrder w).idleTriggers x)
          else ((((u.discardWaiting w).setIdle w).setIdle x).idleTriggers w).idleTriggers x)))
  ∧ (∀ (x : Crane) (bay level : Byte) (r t u : State) (o q : Order),
    t = ((r.reportPosition x bay.toNat level.toNat).markLegs x o.legs.length) → u = (t.dropOrder x).spanToPosition x →
    (t.crane x).order = some q →
    (o.kind = .job → r.finishOrder x o bay level
      = (((((t.endStore o).endRetrieve o).dropOrder x).spanToPosition x).setIdle x).idleTriggers x)
    ∧ (o.kind = .home ∨ (o.kind = .yield ∧ q.yieldPartner = none) →
      r.finishOrder x o bay level = (u.setIdle x).idleTriggers x)
    ∧ ∀ w, o.kind = .yield → q.yieldPartner = some w →
      r.finishOrder x o bay level
        = if u.clear w (u.spanOf w) then
            (((u.setIdle x).setPair (aisleOf w) none).sendOrder w).idleTriggers x
          else ((((u.discardWaiting w).setIdle w).setIdle x).idleTriggers w).idleTriggers x)
  ∧ (∀ (s : State) (x : Crane) (o : Order), (s.crane x).order = some o →
    s.dropOrder x = s.setCrane x { s.crane x with order := none }
    ∧ s.sendOrder x
      = (s.setCrane x { s.crane x with
          order := some { o with state := .sent, acceptTimer := 0 }
          state := match o.kind with | .job => .ordered | .yield => .yielding | .home => .homing }).emit x (orderFrame o))
  ∧ ∀ (s : State) (o : Order) (tag : Word32) (j : Job), s.pool.find tag = some j →
    (∀ a, j.chosen? = some a → s.completeStore tag = (s.removeJob tag true).raise (.jobDone tag false a))
    ∧ (∀ a blocker, j.kind = .retrieve a blocker none →
      s.completeRetrieve tag = (s.removeJob tag true).raise (.jobDone tag true a))
    ∧ (∀ a blocker l d, j.kind = .retrieve a blocker (some (l, d)) →
      s.completeRetrieve tag = ((s.removeJob tag true).raise (.jobDone tag true a)).deliver l d)
    ∧ (∀ a, o.storeTag = some tag → j.chosen? = some a →
      s.endStore o = (s.removeJob tag true).raise (.jobDone tag false a))
    ∧ (o.storeTag = none → s.endStore o = s) ∧ (o.retrieveTag = none → s.endRetrieve o = s)
    ∧ (∀ a blocker, o.retrieveTag = some tag → o.relocation = none → j.kind = .retrieve a blocker none →
      s.endRetrieve o = (s.removeJob tag true).raise (.jobDone tag true a))
    ∧ (∀ a blocker l d, o.retrieveTag = some tag → o.relocation = none → j.kind = .retrieve a blocker (some (l, d)) →
      s.endRetrieve o = ((s.removeJob tag true).raise (.jobDone tag true a)).deliver l d)
    ∧ (∀ r, o.retrieveTag = some tag → o.relocation = some r →
      s.endRetrieve o
        = State.completeRetrieve
          (State.raise
            { s with table := s.table.filter fun e => e.use != .blockerSource tag && e.use != .spareInUse tag }
            (.relocated r.blocker r.front r.spare)) tag)

/-- R66, R70, R126, R141: a FAULT makes an enrolled crane FAULTED with its code and, unless it was FAULTED before, cause FAULT;
a waiting order is discarded, a RUNNING one, or one a count of 1 or more shows started, is SUSPENDED with its legs marked up to
the count, and one that waits for its acceptance keeps its state. The count of a FAULT that does not name the order is 0, and
one that the order named cannot have is the legs already done; either is an anomaly, but for a FAULT naming no order. R144: a
CRANE STATE event carries the crane's state as it stands and the cause, which the context keeps. R141, R129: a FAULT from a
crane that is FAULTED already takes its code and position and counts its anomalies, and makes no start whatever its count
(DEDUCED, log entries 19 and 38). R143, R146, R70: a FAULT CLEAR from a FAULTED or LOST crane, and from any other but a SYNCING
one; one from a LOST crane that holds no order and whose span stays UNKNOWN leaves it SYNCING and raises RECONCILED (DEDUCED,
log entry 16). R126: from a SYNCING one. In these clauses a crane that stands in the queue holds a single bay, as the law of the
rail has it. -/
def Obligations.FaultsAndTheirClearing : Prop :=
  (∀ (x : Crane) (code bay level legsDone : Byte) (id : Word16) (s : State), s.ordersInLaw → code ≠ 0 →
      (s.crane x).state ≠ .offline →
      ∃ t, exec (.fault x code bay level id legsDone) s = .next t
        ∧ (t.crane x).state = .faulted ∧ (t.crane x).faultCode = some code
        ∧ t.cost = s.cost ∧ t.lanes = s.lanes ∧ t.sup = { s.sup with silence := t.sup.silence }
        ∧ (∀ y, y ≠ x → t.silenceOf y = s.silenceOf y)
        ∧ ((s.crane x).state ≠ .faulted → (t.crane x).stateCause = some .fault)
        ∧ ((s.crane x).state = .awaitYield → (s.crane x).order ≠ none →
            (t.crane x).order = none ∧ t.pairOf (aisleOf x) = none)
        ∧ ∀ o k, (s.crane x).order = some o → (s.crane x).state ∈ [.ordered, .running, .yielding, .homing] →
          k = (if o.id = id then
              (if o.nextLeg ≤ legsDone.toNat ∧ legsDone.toNat ≤ o.legs.length then legsDone.toNat else o.nextLeg) else 0) →
          ∃ q, (t.crane x).order = some q ∧ q.id = o.id ∧ t.spanOf x = (s.takePosition x bay.toNat level.toNat).spanOf x
            ∧ (o.state = .running ∨ (1 ≤ k ∧ o.state ∈ [.sent, .revoking]) →
              q.state = .suspended ∧ q.nextLeg = max o.nextLeg k ∧ q.legs.length = o.legs.length
              ∧ (∀ i l, i < k → q.legs[i]? = some l → l.done = true)
              ∧ (∀ l, q.legs[max o.nextLeg k]? = some l → l.valid = false)
              ∧ ∀ i, k ≤ i → i ≠ max o.nextLeg k → q.legs[i]? = o.legs[i]?)
            ∧ (o.state ∈ [.sent, .revoking] → k = 0 → q.state = o.state ∧ q.legs = o.legs))
  ∧ (∀ (x : Crane) (code bay level legsDone : Byte) (id : Word16) (s g : State) (misfit misnamed : Bool),
      (∀ e ∈ s.engine.queue, e.crane = x → ∃ b, s.spanOf x = .bays b b) →
      (misfit = true ↔ ∃ o, (s.crane x).order = some o ∧ o.id = id
        ∧ (legsDone.toNat < o.nextLeg ∨ o.legs.length < legsDone.toNat)) →
      (misnamed = true ↔ id ≠ 0 ∧ ∀ o, (s.crane x).order = some o → o.id ≠ id) →
      g = (if misfit || misnamed then (s.setSilence x 0).anomaly x else s.setSilence x 0) → code ≠ 0 →
      ((s.crane x).state ∈ [.idle, .queued, .ordered, .running, .yielding, .homing, .faulted, .lost] →
        ∃ t, exec (.fault x code bay level id legsDone) s = .next t
          ∧ (t.crane x).anomalies = ((g.takePosition x bay.toNat level.toNat).crane x).anomalies)
      ∧ ((s.crane x).state = .faulted →
        exec (.fault x code bay level id legsDone) s
          = .next ((g.modCrane x fun c => { c with faultCode := some code }).reportPosition x bay.toNat level.toNat))
      ∧ ((s.crane x).state = .lost →
        exec (.fault x code bay level id legsDone) s
          = .next (((((g.modCrane x fun c => { c with faultCode := some code }).reportPosition x bay.toNat
              level.toNat).setCraneState x .faulted).craneStateEvent x .fault))))
  ∧ (∀ (s : State) (x : Crane) (cause : StateCause), s.craneStateEvent x cause
      = State.raise (s.setCrane x { s.crane x with stateCause := some cause }) (.craneState x (s.crane x).state cause))
  ∧ (∀ (x : Crane) (bay level : Byte) (s t : State) (cause : StateCause),
      (∀ e ∈ s.engine.queue, e.crane = x → ∃ b, s.spanOf x = .bays b b) →
      t = (s.setSilence x 0).reportPosition x bay.toNat level.toNat →
      ((s.crane x).state ∈ [.idle, .queued, .awaitYield, .ordered, .running, .yielding, .homing] →
        exec (.faultClear x bay level) s = .next (t.anomaly x))
      ∧ ((s.crane x).state = .syncing →
        exec (.faultClear x bay level) s
          = .next
            (if t.spanOf x = .unknown then t.modCrane x fun c => { c with aboard := .no }
            else (((t.modCrane x fun c => { c with aboard := .no }).spanToPosition x).setIdle x).idleTriggers x))
      ∧ (((s.crane x).state = .faulted ∧ cause = .cleared) ∨ ((s.crane x).state = .lost ∧ cause = .reconciled) →
        (∀ o, (s.crane x).order = some o →
          exec (.faultClear x bay level) s
            = .next
              (((t.modCrane x fun c => { c with
                  order := some (if o.state = .suspended then { o with state := .running } else o)
                  state :=
                    match o.kind with
                    | .yield => .yielding
                    | .home => .homing
                    | .job => if o.state = .suspended ∨ o.state = .running then .running
                        else if o.state = .awaitYield then .awaitYield else .ordered })).craneStateEvent x cause))
        ∧ ((s.crane x).order = none → t.spanOf x = .unknown →
          exec (.faultClear x bay level) s = .next ((t.setCraneState x .syncing).craneStateEvent x cause))
        ∧ ((s.crane x).order = none → t.spanOf x ≠ .unknown →
          exec (.faultClear x bay level) s
            = .next ((((t.spanToPosition x).setCraneState x .idle).craneStateEvent x cause).idleTriggers x))))

/-- R126, R142: a STATUS from a crane that is not LOST, by the crane's state and the mode. The state `g` is the one with the
anomalies counted (R129): of a count that the order named cannot have, and, but in mode BUSY and in SYNCING, of an id that is
not the current order's (DEDUCED, log entry 38). The state `t` is `g` with the position and the load aboard value taken; the
position is brought into range and not tested for a STATUS BUSY from a crane whose span is UNKNOWN (R2, R68; DEDUCED, log entry
24). That a STATUS BUSY marks legs by its count with no capture, narrows the span of an order SENT, REVOKING or RUNNING, also
with a count that marks nothing, and does not narrow a FAULTED crane's, is DEDUCED (log entry 23). An ORDER LOST abandon of an
order with a partner releases the partner first (DEDUCED, log entry 10), and the triggers of a lane advance within an abandon
act at the delivery (DEDUCED, log entry 40). R65, R135, R137, R138, R143: the start, the marking of legs, the suspension, the
failing yield and the end of a fault that these rows use. A crane that stands in the queue holds a single bay, as the law of the
rail has it. -/
def Obligations.StatusesAreTaken : Prop :=
  ∀ (x : Crane) (mode : StatusMode) (id : Word16) (n bay level : Byte) (aboard : Bool) (s h g t : State)
    (named misfit misnamed : Bool),
    (∀ e ∈ s.engine.queue, e.crane = x → ∃ b, s.spanOf x = .bays b b) →
    (named = true ↔ ∃ o, (s.crane x).order = some o ∧ o.id = id) →
    (misfit = true ↔ ∃ o, (s.crane x).order = some o ∧ o.id = id ∧ (n.toNat < o.nextLeg ∨ o.legs.length < n.toNat)) →
    (misnamed = true ↔ mode ≠ .busy ∧ (s.crane x).state ≠ .syncing ∧ id ≠ 0 ∧ named = false) →
    h = s.setSilence x 0 → g = (if misfit || misnamed then h.anomaly x else h) →
    t = ((if mode = .busy ∧ s.spanOf x = .unknown then g.reportRange x bay.toNat level.toNat
        else g.reportPosition x bay.toNat level.toNat).modCrane x fun c => { c with aboard := if aboard then .yes else .no }) →
    -- SYNCING
    ((s.crane x).state = .syncing →
      (mode = .busy → exec (.status x mode id n bay level aboard) s = .next t)
      ∧ (mode = .idle → aboard = false → exec (.status x mode id n bay level aboard) s
          = .next (if t.spanOf x = .unknown then t else ((t.spanToPosition x).setIdle x).idleTriggers x))
      ∧ (mode = .idle → aboard = true → exec (.status x mode id n bay level aboard) s
          = .next (((t.spanToPosition x).setCraneState x .faulted).craneStateEvent x .loadAboard))
      ∧ (mode = .fault → exec (.status x mode id n bay level aboard) s
          = .next (((t.spanToPosition x).setCraneState x .faulted).craneStateEvent x .fault)))
    -- IDLE, with no order
    ∧ ((s.crane x).state = .idle → (s.crane x).order = none →
      exec (.status x mode id n bay level aboard) s
        = .next
          (match mode, aboard with
          | .idle, false => t
          | .idle, true => (t.setCraneState x .faulted).craneStateEvent x .loadAboard
          | .busy, _ => ((t.anomaly x).loseSight x).setCraneState x .syncing
          | .fault, _ => (t.setCraneState x .faulted).craneStateEvent x .fault))
    -- QUEUED, with no order
    ∧ ((s.crane x).state = .queued → (s.crane x).order = none →
      exec (.status x mode id n bay level aboard) s
        = .next
          (match mode, aboard with
          | .idle, false => t
          | .idle, true => ((t.setCraneState x .faulted).craneStateEvent x .loadAboard).leaveEngine x
          | .busy, _ => (((t.anomaly x).loseSight x).setCraneState x .syncing).leaveEngine x
          | .fault, _ => ((t.setCraneState x .faulted).craneStateEvent x .fault).leaveEngine x))
    -- AWAIT YIELD: nothing is taken but by a FAULT
    ∧ ((s.crane x).state = .awaitYield →
      (mode = .idle → exec (.status x mode id n bay level aboard) s = .next g)
      ∧ (mode = .busy → exec (.status x mode id n bay level aboard) s = .next (g.anomaly x))
      ∧ (mode = .fault → exec (.status x mode id n bay level aboard) s
          = .next ((((((g.discardWaiting x).setCraneState x .faulted).reportPosition x bay.toNat level.toNat).craneStateEvent x
              .fault)).modCrane x fun c => { c with aboard := if aboard then .yes else .no })))
    -- an order in force
    ∧ (∀ o, (s.crane x).order = some o → (s.crane x).state ∈ [.ordered, .running, .yielding, .homing] →
      (mode = .idle → exec (.status x mode id n bay level aboard) s
          = .next (if o.state = .running then t.orderLostIdle x else t))
      ∧ (mode = .busy → named = true → exec (.status x mode id n bay level aboard) s
          = .next (((t.startIfSent x).markCount x n.toNat).narrowSpan x))
      ∧ (mode = .busy → named = false → exec (.status x mode id n bay level aboard) s
          = .next ((t.anomaly x).orderLostSyncing x))
      ∧ (mode = .fault → exec (.status x mode id n bay level aboard) s
          = .next ((((if o.state = .running then t.suspendOrder x else t).setCraneState x .faulted).craneStateEvent x
              .fault).failYield x)))
    -- FAULTED
    ∧ (∀ o, (s.crane x).state = .faulted → (s.crane x).order = some o →
      (mode = .idle → exec (.status x mode id n bay level aboard) s
          = .next (if o.state = .suspended then t.orderLostIdle x else t))
      ∧ (mode = .busy → named = true → exec (.status x mode id n bay level aboard) s
          = .next (((t.startIfSent x).clearFault x .cleared).markCount x n.toNat))
      ∧ (mode = .busy → named = false → exec (.status x mode id n bay level aboard) s
          = .next ((t.anomaly x).orderLostSyncing x))
      ∧ (mode = .fault → exec (.status x mode id n bay level aboard) s = .next t))
    ∧ ((s.crane x).state = .faulted → (s.crane x).order = none →
      exec (.status x mode id n bay level aboard) s
        = .next
          (match mode, aboard with
          | .idle, false => t.clearFault x .cleared
          | .idle, true => t
          | .busy, _ => t.anomaly x
          | .fault, _ => t))
    -- the starts, the legs, the yields and the ends of a fault that these rows use
    ∧ (∀ o, (s.crane x).order = some o →
      (o.state = .sent ∨ o.state = .revoking → s.startIfSent x = s.startOrder x true)
      ∧ (o.state ≠ .sent → o.state ≠ .revoking → s.startIfSent x = s)
      ∧ s.suspendOrder x = s.setCrane x { s.crane x with
          order := some { o with
            state := .suspended, legs := o.legs.modify o.nextLeg fun l => { l with valid := false } } }
      ∧ (∀ k, s.markLegs x k = s.setCrane x { s.crane x with
          aboard := ((o.legs.take k).drop o.nextLeg).foldl
            (fun b l => match l.action with | .pick => .yes | .drop => .no | .stay => b) (s.crane x).aboard
          order := some { o with
            legs := o.legs.mapIdx fun i l => if i < k then { l with done := true } else l
            nextLeg := max o.nextLeg k } })
      ∧ (o.yieldPartner = none → s.failYield x = s)
      ∧ (∀ w, o.yieldPartner = some w → s.failYield x = ((s.discardWaiting w).setIdle w).idleTriggers w)
      ∧ s.clearFault x .cleared
        = ((s.setCrane x { s.crane x with
            order := some (if o.state = .suspended then { o with state := .running } else o)
            state :=
              match o.kind, o.state with
              | .yield, _ => .yielding
              | .home, _ => .homing
              | .job, .suspended => .running
              | .job, .running => .running
              | .job, .awaitYield => .awaitYield
              | .job, _ => .ordered }).craneStateEvent x .cleared))
    ∧ ((s.crane x).order = none → s.clearFault x .cleared
        = if s.spanOf x = .unknown then (s.setCraneState x .syncing).craneStateEvent x .cleared
          else (((s.spanToPosition x).setCraneState x .idle).craneStateEvent x .cleared).idleTriggers x)
    -- a count that marks legs
    ∧ (∀ o, (s.crane x).order = some o →
      s.markCount x n.toNat = if o.nextLeg ≤ n.toNat ∧ n.toNat ≤ o.legs.length then s.markLegs x n.toNat else s)
    -- an ORDER LOST abandon (R145)
    ∧ (∀ o w, (s.crane x).order = some o → o.yieldPartner = some w → ∀ z, z = (s.discardWaiting w).setIdle w →
      s.orderLostIdle x
          = (((((z.giveUp x).setCraneState x .idle).craneStateEvent x .orderLost).idleTriggers w).idleTriggers x)
      ∧ s.orderLostSyncing x
          = (((((z.giveUp x).loseSight x).setCraneState x .syncing).craneStateEvent x .orderLost).idleTriggers w))
    ∧ (∀ o, (s.crane x).order = some o → o.yieldPartner = none →
      s.orderLostIdle x = ((((s.giveUp x).setCraneState x .idle).craneStateEvent x .orderLost).idleTriggers x)
      ∧ s.orderLostSyncing x
          = ((((s.giveUp x).loseSight x).setCraneState x .syncing).craneStateEvent x .orderLost))

/-- R146: the first valid frame of a LOST crane reconciles it, by its record. An ACCEPT of an order in REVOKING is a record of
no row of that table (DEDUCED, log entry 14). A LEG DONE or an ORDER DONE raises RECONCILED as the order resumes, before the
record is handled (DEDUCED, log entry 21). A STATUS counts the anomalies of its count and, but in mode BUSY, of its id (R129;
DEDUCED, log entry 38); a STATUS BUSY with the span UNKNOWN only brings its position into range (DEDUCED, log entry 24), and one
that resumes the order marks legs by its count without a capture and narrows the span (DEDUCED, log entry 23); a STATUS IDLE of a
crane without an order whose span stays UNKNOWN makes it SYNCING, with RECONCILED (DEDUCED, log entry 16). A STATUS FAULT keeps the
order as it is (DEDUCED, log entry 19). The resumption of a LOST crane's order, of each kind: a SUSPENDED one is RUNNING again,
one SENT or REVOKING starts with leg 0 measure-invalid (R135), and the crane takes the state of the order's kind, with
RECONCILED. A crane that stands in the queue holds a single bay, as the law of the rail has it. -/
def Obligations.LostCranesReconcile : Prop :=
  ∀ (x : Crane) (id : Word16) (reason index n bay level : Byte) (started aboard : Bool) (mode : StatusMode) (s h t : State),
    (s.crane x).state = .lost → (∀ e ∈ s.engine.queue, e.crane = x → ∃ b, s.spanOf x = .bays b b) →
    h = s.setSilence x 0 → t = h.reportPosition x bay.toNat level.toNat →
    -- a record that names no order in a state that takes it
    ((∀ o, (s.crane x).order = some o → o.id ≠ id) →
      exec (.accept x id) s = .next (h.unsettled x)
      ∧ exec (.decline x id reason) s = .next (h.unsettled x)
      ∧ exec (.revoked x id started) s = .next (h.unsettled x)
      ∧ exec (.legDone x id index bay level) s = .next (t.unsettled x)
      ∧ exec (.orderDone x id bay level) s = .next (t.unsettled x))
    ∧ (∀ o, (s.crane x).order = some o → o.id = id →
      (o.state ≠ .sent → exec (.accept x id) s = .next (h.unsettled x))
      ∧ (o.state ≠ .sent → o.state ≠ .revoking → exec (.decline x id reason) s = .next (h.unsettled x))
      ∧ (o.state ≠ .revoking → exec (.revoked x id started) s = .next (h.unsettled x))
      ∧ (o.state = .revoking → exec (.revoked x id true) s = .next (h.startOrder x true)))
    ∧ (h.unsettled x
        = State.emit
          (if (s.crane x).order = none then ((h.anomaly x).setCraneState x .syncing).craneStateEvent x .reconciled
          else ((h.anomaly x).setCraneState x .faulted).craneStateEvent x .unsettled) x (frameOf 0x04#8 [0]))
    -- LEG DONE and ORDER DONE naming the order, which then runs
    ∧ (∀ o u kind, (s.crane x).order = some o → o.id = id →
      kind = (match o.kind with | .job => CraneState.running | .yield => .yielding | .home => .homing) →
      (o.state = .suspended →
        u = (h.setCrane x { h.crane x with
          order := some { o with state := .running }, state := kind }).craneStateEvent x .reconciled) →
      (o.state = .sent ∨ o.state = .revoking → u = h.startOrder x true) → o.state ≠ .awaitYield → o.state ≠ .running →
      exec (.legDone x id index bay level) s = .next (u.markLegDone x o index.toNat bay level)
      ∧ exec (.orderDone x id bay level) s = .next (u.finishOrder x o bay level))
    -- the resumption
    ∧ (∀ (r j : State) (o : Order) (kind : CraneState), (r.crane x).order = some o → (r.crane x).state = .lost →
      kind = (match o.kind with | .job => .running | .yield => .yielding | .home => .homing) →
      j = r.setJobs (r.pool.jobs.map fun i =>
        if o.storeTag = some i.tag ∨ o.retrieveTag = some i.tag then { i with state := .active } else i) →
      (o.state = .suspended → r.resumeLost x
        = (r.setCrane x { r.crane x with order := some { o with state := .running }, state := kind }).craneStateEvent x
            .reconciled)
      ∧ (o.state = .sent ∨ o.state = .revoking → r.resumeLost x = r.startOrder x true)
      ∧ r.startOrder x true
        = (j.setCrane x { r.crane x with
            state := kind, timeouts := 0
            order := some { o with
              state := .running, lastCapture := some r.sup.durationClock
              legs := o.legs.modify 0 fun l => { l with valid := false } } }).craneStateEvent x .reconciled)
    -- STATUS
    ∧ (∀ (g u : State) (misfit misnamed : Bool),
      (misfit = true ↔ ∃ o, (s.crane x).order = some o ∧ o.id = id ∧ (n.toNat < o.nextLeg ∨ o.legs.length < n.toNat)) →
      (misnamed = true ↔ mode ≠ .busy ∧ id ≠ 0 ∧ ∀ o, (s.crane x).order = some o → o.id ≠ id) →
      g = (if misfit || misnamed then h.anomaly x else h) →
      u = ((if mode = .busy ∧ s.spanOf x = .unknown then g.reportRange x bay.toNat level.toNat
          else g.reportPosition x bay.toNat level.toNat).modCrane x fun c =>
        { c with aboard := if aboard then .yes else .no }) →
      (∀ o, (s.crane x).order = some o →
        (mode = .idle → exec (.status x mode id n bay level aboard) s = .next (u.orderLostIdle x))
        ∧ (mode = .busy → o.id = id →
          exec (.status x mode id n bay level aboard) s = .next (((u.resumeLost x).markCount x n.toNat).narrowSpan x))
        ∧ (mode = .busy → o.id ≠ id →
          exec (.status x mode id n bay level aboard) s = .next ((u.anomaly x).orderLostSyncing x)))
      ∧ ((s.crane x).order = none →
        (mode = .busy → exec (.status x mode id n bay level aboard) s
            = .next ((((u.anomaly x).loseSight x).setCraneState x .syncing).craneStateEvent x .reconciled))
        ∧ (mode = .idle → aboard = true → exec (.status x mode id n bay level aboard) s
            = .next ((u.setCraneState x .faulted).craneStateEvent x .loadAboard))
        ∧ (mode = .idle → aboard = false → u.spanOf x ≠ .unknown → exec (.status x mode id n bay level aboard) s
            = .next ((((u.spanToPosition x).setCraneState x .idle).craneStateEvent x .reconciled).idleTriggers x))
        ∧ (mode = .idle → aboard = false → u.spanOf x = .unknown → exec (.status x mode id n bay level aboard) s
            = .next ((u.setCraneState x .syncing).craneStateEvent x .reconciled)))
      ∧ (mode = .fault → exec (.status x mode id n bay level aboard) s
          = .next ((u.setCraneState x .faulted).craneStateEvent x .fault)))

/-! ## Triggers, the queue and the orders (R72, R95 to R103, R130, R131) -/

/-- R95, R98, R100, R101, R103: a trigger queues an IDLE crane or creates its HOME order, notes itself for the crane under
evaluation, and reaches no other; the FREE engine takes the entry nearest the head that it may take. Each trigger has its whole
effect, with the turn of the engine, before the next one (DEDUCED, log entry 7). R101: a taken crane whose home request is set
leaves the queue for a HOME order, and the engine goes on with the rest of the queue. R99, R113: a crane that stops being QUEUED
loses its entry in the queue; when it is under evaluation its pass is abandoned, and the engine, now FREE, takes the next crane
it may take. R96, R144: a crane that becomes IDLE other than at the end of a pass is triggered, and then its sibling; a LOST one
is RECONCILED by it. R65: where one event makes a waiting and a yielding crane IDLE, both are IDLE before the first trigger, and
the waiting crane and its sibling are triggered first (DEDUCED, log entry 27). -/
def Obligations.TriggersAndTheQueue : Prop :=
  ∀ (s : State) (x : Crane),
    ((s.crane x).state = .idle → (s.crane x).homeRequest = true → s.trigger x = s.createHome x)
    ∧ ((s.crane x).state = .idle → (s.crane x).homeRequest = false →
      s.trigger x
        = State.engineRun
          { s.setCrane x { s.crane x with state := .queued } with
            engine := { s.engine with queue := s.engine.queue ++ [{ crane := x, invalid := 0 }] } })
    ∧ (∀ p, (s.crane x).state = .queued → s.engine.pass = some p → p.crane = x →
      s.trigger x = { s with engine := { s.engine with pass := some { p with note := true } } })
    ∧ ((s.crane x).state ≠ .idle → ((s.crane x).state = .queued → ∀ p, s.engine.pass = some p → p.crane ≠ x) →
      s.trigger x = s)
    ∧ (s.engine.pass ≠ none → s.engineRun = s)
    ∧ (s.engine.pass = none →
      (∀ e ∈ s.engine.queue, (s.crane e.crane).homeRequest = false ∧ s.held e.crane = true) → s.engineRun = s)
    ∧ (∀ before e after, s.engine.pass = none → s.engine.queue = before ++ e :: after →
      (∀ d ∈ before, (s.crane d.crane).homeRequest = false ∧ s.held d.crane = true) →
      (s.crane e.crane).homeRequest = false → s.held e.crane = false → (∀ d ∈ before ++ after, d.crane ≠ e.crane) →
      s.engineRun
        = { s with engine :=
            { queue := before ++ after
              pass := some
                { crane := e.crane, invalid := e.invalid, note := false,
                  latch :=
                    { profileA := s.cost.profileA, profileB := s.cost.profileB, scoring := s.cost.scoring,
                      trim := (s.trimOf e.crane).trim, jobClock := s.sup.jobClock, stamp := s.pool.serial,
                      position := (s.crane e.crane).position },
                  stage := .start, sparesEmpty := false } } })
    ∧ (∀ before e after, s.engine.pass = none → s.engine.queue = before ++ e :: after →
      (∀ d ∈ before, (s.crane d.crane).homeRequest = false ∧ s.held d.crane = true) →
      (s.crane e.crane).homeRequest = true → (∀ d ∈ before ++ after, d.crane ≠ e.crane) →
      s.engineRun
        = State.engineRun
          (State.createHome { s with engine := { queue := before ++ after, pass := none } } e.crane))
    ∧ (∀ p, s.engine.pass = some p → p.crane = x →
      s.leaveEngine x = State.engineRun { s with engine := { s.engine with pass := none } })
    ∧ ((∀ p, s.engine.pass = some p → p.crane ≠ x) →
      s.leaveEngine x = { s with engine := { s.engine with queue := s.engine.queue.filter fun e => e.crane != x } })
    ∧ (s.held x = true ↔
      s.sup.holdCommand = true ∨ s.sup.holdSilence = true ∨ s.sup.holdAisle.get (aisleOf x) = true)
    -- becoming IDLE
    ∧ (∀ t, t = s.setCrane x { s.crane x with state := .idle } →
      s.setIdle x = if (s.crane x).state = .lost then t.craneStateEvent x .reconciled else t)
    ∧ s.idleTriggers x = (s.trigger x).trigger (sibling x)
    ∧ s.becomeIdle x = ((s.setIdle x).trigger x).trigger (sibling x)
    ∧ (sibling x ≠ x ∧ aisleOf (sibling x) = aisleOf x ∧ ∀ y, y ≠ x → aisleOf y = aisleOf x → y = sibling x)
    ∧ s.idleAfter none x = ((s.setIdle x).trigger x).trigger (sibling x)
    ∧ (∀ w, s.idleAfter (some w) x
      = ((((s.setIdle x).trigger w).trigger (sibling w)).trigger x).trigger (sibling x))

/-- R130: a new order's id is not 0 and is no other order's. R72, R101, R131: a HOME order is created and sent in one step,
with one leg to the crane's own station, its span from the position bay, and its ORDER record on the line. R62, R118: a
dispatch without a yield makes the JOB order SENT, with its span claimed, the starved mark clear and its ORDER record on the
line. R63: one with a yield makes it wait in AWAIT YIELD with nothing sent, and creates and sends the sibling's YIELD order of
one leg to the target, with its partner, its span and the yield pair. R194: the body of an ORDER record. -/
def Obligations.OrdersAreCreated : Prop :=
  ∀ (s : State) (x : Crane) (p : Position) (home : Place) (leg : Leg) (o : Order) (t : State),
    s.nextId ≠ 0 ∧ (∀ y q, (s.crane y).order = some q → q.id ≠ s.nextId)
    ∧ ((s.crane x).position = some p → home = .station { aisle := aisleOf x, side := endOf x } →
      leg = s.makeLeg { profileA := s.cost.profileA, profileB := s.cost.profileB, trim := (s.trimOf x).trim } (aisleOf x)
        (.position p) home .stay →
      o = { id := s.nextId, kind := .home, state := .sent, legs := [leg], nextLeg := 0, storeTag := none,
            retrieveTag := none, relocation := none, yieldPartner := none, acceptTimer := 0, lateAccept := false,
            lastCapture := none } →
      t = (s.setCrane x { s.crane x with
          state := .homing, order := some o, starved := false, homeRequest := false }).setSpan x
        (s.routeSpan p.bay [home]) →
      s.createHome x
        = State.emit { t with orders := { t.orders with idCounter := s.nextId } } x
          (frameOf 0x01#8
            (word16Bytes s.nextId ++ [2#8, 1#8] ++ stationBytes { aisle := aisleOf x, side := endOf x } ++ [0#8])))
    ∧ (∀ q : Order, orderFrame q
        = frameOf 0x01#8
          (word16Bytes q.id ++ [match q.kind with | .job => 0#8 | .yield => 1#8 | .home => 2#8]
            ++ [BitVec.ofNat 8 q.legs.length]
            ++ q.legs.flatMap fun l => placeBytes l.target ++ [match l.action with | .stay => 0#8 | .pick => 1#8 | .drop => 2#8]))
    ∧ (∀ (r : PassResult) (st : OrderState) (job : Order), (s.crane x).position = some p →
      job = { id := s.nextId, kind := .job, state := st, legs := r.legs, nextLeg := 0, storeTag := r.storeTag,
              retrieveTag := r.retrieveTag, relocation := r.relocation, yieldPartner := none, acceptTimer := 0,
              lateAccept := false, lastCapture := none } →
      (∀ u, st = .sent →
        u = (s.setCrane x { s.crane x with state := .ordered, order := some job, starved := false }).setSpan x
          (s.routeSpan p.bay (r.legs.map (·.target))) →
        s.dispatchSent x r
          = State.emit { u with orders := { u.orders with idCounter := s.nextId } } x (orderFrame job))
      ∧ ∀ (pass : Pass) (target : Nat) (y : Crane) (b : Position) (place : Place) (yielding : Order) (u v w : State),
        st = .awaitYield → y = sibling x → (s.crane y).position = some b →
        u = (s.setCrane x { s.crane x with state := .awaitYield, order := some job, starved := false }).setSpan x
          (s.routeSpan p.bay (r.legs.map (·.target))) →
        v = { u with orders := { u.orders with idCounter := s.nextId } } →
        place = .rail (aisleOf y) target b.level →
        yielding = { id := v.nextId, kind := .yield, state := .sent,
                     legs := [s.makeLeg { pass.latch.values with trim := (s.trimOf y).trim } (aisleOf y) (.position b) place
                       .stay],
                     nextLeg := 0, storeTag := none, retrieveTag := none, relocation := none, yieldPartner := some x,
                     acceptTimer := 0, lateAccept := false, lastCapture := none } →
        w = (((v.setCrane y { s.crane y with state := .yielding, order := some yielding, starved := false }).setSpan y
            (s.routeSpan b.bay [place])).setPair (aisleOf x) (some { waiting := x, yielding := y, target := target })) →
        s.dispatchWaiting pass x target r
          = State.emit { w with orders := { w.orders with idCounter := v.nextId } } y (orderFrame yielding))

/-! ## The allotment pass (R87 to R90, R104 to R121) -/

/-- R90: the store stage chooses the eligible candidate with the least leg time and penalty, the earliest placed of those; the
two are summed in full, without saturation at 65535 (DESIGN CHOICE, log entry 43). R46: the relocation spare is the usable one
with the least leg time, the earliest on the list of those. R88, R89: the retrieve stage keeps the candidate with the least
score, the first met of those. -/
def Obligations.PassesChooseTheLeast : Prop :=
  (∀ (s : State) (p : Pass) (tag serial : Word32) (l : List Slot) (fits : Slot → Bool) (sum : Slot → Nat)
    (answer : Slot → SpanAnswer),
    (∀ a, answer a = s.spanAnswer p.crane p.latch.position [.station (stationOf p.crane), .slot a]) →
    (∀ a, fits a = true ↔ s.storeEligible a = true ∧ answer a ≠ .ineligible) →
    (∀ a, sum a
      = (s.makeLeg p.latch.values (aisleOf p.crane) (.place (.station (stationOf p.crane))) (.slot a) .drop).legMs
        + match answer a with
          | .yieldEligible _ => (s.policyOf (aisleOf p.crane)).yieldPenalty
          | _ => 0) →
    (l.foldl (fun b a => s.considerSlot p tag serial a b) none = none ↔ ∀ a ∈ l, fits a = false)
    ∧ ∀ k, l.foldl (fun b a => s.considerSlot p tag serial a b) none = some k →
      ∃ before after, l = before ++ k.slot :: after ∧ fits k.slot = true
        ∧ k = { tag := tag, serial := serial, slot := k.slot, sum := sum k.slot, answer := answer k.slot }
        ∧ (∀ a ∈ before, fits a = true → sum k.slot < sum a) ∧ ∀ a ∈ after, fits a = true → sum k.slot ≤ sum a)
  ∧ (∀ (s : State) (v : Values) (front : Slot) (store : Option Slot) (time : Slot → Nat),
    (∀ x, time x = (s.makeLeg v front.aisle (.place (.slot front)) (.slot x) .drop).legMs) →
    (s.bestSpare v front store = none ↔ ∀ x ∈ Table.spareList s.table front.aisle, s.spareUsable x store = false)
    ∧ ∀ x, s.bestSpare v front store = some x →
      ∃ before after, Table.spareList s.table front.aisle = before ++ x :: after ∧ s.spareUsable x store = true
        ∧ (∀ y ∈ before, s.spareUsable y store = true → time x < time y)
        ∧ ∀ y ∈ after, s.spareUsable y store = true → time x ≤ time y)
  ∧ ∀ (s : State) (p : Pass) (store : Option StorePick) (l : List (Job × Slot)) (b : RetrievePick),
    l.foldl (fun best q => s.scoreRetrieve p q.1 q.2 store none best) none = some b →
    ∃ before q after, l = before ++ q :: after ∧ s.scoreRetrieve p q.1 q.2 store none none = some b
      ∧ (∀ q' ∈ before, ∀ c, s.scoreRetrieve p q'.1 q'.2 store none none = some c → b.score < c.score)
      ∧ (∀ q' ∈ after, ∀ c, s.scoreRetrieve p q'.1 q'.2 store none none = some c → b.score ≤ c.score)
      ∧ (store = none →
        b.legs = s.passLegs p [(.slot q.2, .pick), (.station (stationOf p.crane), .drop)]
        ∧ b.score = scoreOf p.latch.scoring q.1.cls (ageOf p.latch.jobClock q.1.admittedAt) (routeMs b.legs)
          (match s.spanAnswer p.crane p.latch.position [.slot q.2, .station (stationOf p.crane)] with
          | .yieldEligible _ => (s.policyOf (aisleOf p.crane)).yieldPenalty
          | _ => 0))

/-- R105 to R108: the items of a pass in their order. The store stage applies to a PENDING head at or before the stamp, and
examines its candidates one by one; when they are done it clears the stalled mark and goes on to the retrieves if dual is
enabled, or sets the mark, with STORE STALLED when it was clear. The retrieve stage takes the retrieves in serial order and
makes five checks: no wait, the lane's window, a usable spare (with SPARES EMPTY once a pass), the partner rule and the span
answer of the whole route; a retrieve that passes is scored by its own legs (R87, R88). R31: a retrieve waits just when another
live retrieve is for its blocker pallet. R152, R156: it may leave on its lane just when the lane is OPEN and its sequence is
less than the window ahead of next due, across the wrap too. After AMEND STORE the stage goes on at the next place of the new
list (DESIGN CHOICE, log entry 35). R85, R103: the legs of a route by the latched values, the first from the latched
position and each later one from the target before it; from an unknown position, which no run latches, the first starts at its
own target (DESIGN CHOICE, log entry 32). -/
def Obligations.StagesOfAPass : Prop :=
  ∀ (s : State) (p : Pass) (go : Stage → State), (∀ g, go g = s.setPass (some { p with stage := g })) →
    (∀ (j : Job) (rest : List Job), p.stage = .start → s.pool.stationQueue (stationOf p.crane) = j :: rest →
      s.passItem p = some
        (if j.state = .pending ∧ atOrBefore j.serial p.latch.stamp = true then go (.store j.tag j.serial 0 none)
        else go (.retrieve none none none)))
    ∧ (p.stage = .start → s.pool.stationQueue (stationOf p.crane) = [] →
      s.passItem p = some (go (.retrieve none none none)))
    ∧ (∀ tag serial k best, p.stage = .store tag serial k best →
      (∀ j a, s.pool.find tag = some j → j.serial = serial → j.candidates[k]? = some a →
        s.passItem p = some (go (.store tag serial (k + 1) (s.considerSlot p tag serial a best))))
      ∧ (∀ j pick, s.pool.find tag = some j → j.serial = serial → j.candidates.length ≤ k → best = some pick →
        s.passItem p = some
          (State.setPass (s.modJobOf tag fun i => i.setStalled false) (some { p with
            stage := if (s.policyOf (aisleOf p.crane)).dual then .retrieve (some pick) none none else .storeOnly pick })))
      ∧ (∀ j, s.pool.find tag = some j → j.serial = serial → j.candidates.length ≤ k → best = none →
        s.passItem p = some
          (State.setPass
            (if j.stalled then s.modJobOf tag fun i => i.setStalled true
            else (s.modJobOf tag fun i => i.setStalled true).raise (.storeStalled tag (stationOf p.crane)))
            (some { p with stage := .retrieve none none none }))))
    ∧ (∀ store cursor best (supplied : Job → Prop), p.stage = .retrieve store cursor best →
      (∀ j, supplied j ↔ j.isRetrieve = true ∧ j.aisle = aisleOf p.crane ∧ j.state = .pending
        ∧ atOrBefore j.serial p.latch.stamp = true ∧ ∀ c, cursor = some c → atOrBefore j.serial c = false) →
      ((∀ j ∈ s.pool.jobs, ¬supplied j) → s.passItem p = none)
      ∧ ∀ before after j a lane blocker, s.pool.jobs = before ++ j :: after → (∀ i ∈ before, ¬supplied i) → supplied j →
        j.kind = .retrieve a blocker lane →
        (s.pool.waitsOn j ≠ none ∨ s.laneEligible j = false →
          s.passItem p = some (go (.retrieve store (some j.serial) best)))
        ∧ (s.pool.waitsOn j = none → s.laneEligible j = true →
          (∀ b, blocker = some b → s.bestSpare p.latch.values a.partner (store.map (·.slot)) = none →
            s.passItem p = some
              (State.setPass (if p.sparesEmpty then s else s.raise (.sparesEmpty (aisleOf p.crane))) (some { p with
                stage := .retrieve store (some j.serial) best, sparesEmpty := true })))
          ∧ ∀ reloc, (blocker = none → reloc = none) →
            (∀ b, blocker = some b → ∃ x, s.bestSpare p.latch.values a.partner (store.map (·.slot)) = some x
              ∧ reloc = some { blocker := b, front := a.partner, spare := x }) →
            s.passItem p = some
              (go (.retrieve store (some j.serial)
                (if s.partnerEligible j then s.scoreRetrieve p j a store reloc best else best)))))
    ∧ (∀ k, p.stage = .storeOnly k → s.passItem p = none)
    ∧ (∀ tag (f : Job → Job), s.modJobOf tag f = s.setJobs (s.pool.jobs.map fun j => if j.tag = tag then f j else j))
    -- the legs of a route
    ∧ (∀ route : List (Place × Action), (s.passLegs p route).length = route.length
      ∧ ∀ i t a, route[i]? = some (t, a) → (s.passLegs p route)[i]?
        = some (s.makeLeg p.latch.values (aisleOf p.crane)
            (match (route.take i).getLast?, p.latch.position with
            | some b, _ => .place b.1
            | none, some q => .position q
            | none, none => .place t) t a))
    -- waiting on another retrieve, and the lane's window
    ∧ (∀ j : Job,
      (s.pool.waitsOn j ≠ none ↔ ∃ b, j.blocker? = some b
        ∧ ∃ k ∈ s.pool.jobs, k.isRetrieve = true ∧ k.pallet = b ∧ k.tag ≠ j.tag)
      ∧ (∀ k, s.pool.waitsOn j = some k →
        k ∈ s.pool.jobs ∧ k.isRetrieve = true ∧ j.blocker? = some k.pallet ∧ k.tag ≠ j.tag)
      ∧ (j.lane? = none → s.laneEligible j = true)
      ∧ (∀ l d, j.lane? = some (l, d) →
        (s.laneEligible j = true ↔
          (s.laneOf l).opened = true ∧ (d - (s.laneOf l).nextDue).toNat < (s.laneOf l).window))
      ∧ ∀ l (i : Nat), i < 65536 → j.lane? = some (l, (s.laneOf l).nextDue + BitVec.ofNat 16 i) →
        (s.laneEligible j = true ↔ (s.laneOf l).opened = true ∧ i < (s.laneOf l).window))
    ∧ ∀ (j : Job) (a : Slot) (store : Option StorePick) (reloc : Option Relocation) (best : Option RetrievePick)
        (route : List (Place × Action)) (legs : List Leg) (answer : SpanAnswer) (score : Nat) (st : Place),
      st = .station (stationOf p.crane) →
      route = (match store with | some k => [(st, .pick), (.slot k.slot, .drop)] | none => [])
        ++ ((match reloc with | some r => [(.slot r.front, .pick), (.slot r.spare, .drop)] | none => [])
          ++ [(.slot a, .pick), (st, .drop)]) →
      legs = s.passLegs p route → answer = s.spanAnswer p.crane p.latch.position (route.map (·.1)) →
      score = scoreOf p.latch.scoring j.cls (ageOf p.latch.jobClock j.admittedAt)
        (routeMs (match store with | some _ => legs.drop 2 | none => legs))
        (match answer with | .yieldEligible _ => (s.policyOf (aisleOf p.crane)).yieldPenalty | _ => 0) →
      s.scoreRetrieve p j a store reloc best
        = if answer ≠ .ineligible ∧ ∀ b, best = some b → score < b.score then
            some { tag := j.tag, serial := j.serial, score := score, legs := legs, relocation := reloc, answer := answer }
          else best

/-- R110, R115 to R119, R121: PASS_COMPLETION first examines the items left, each as an idle step would, and then acts: a pass
that found nothing leaves the crane IDLE and starved; a held crane returns to the head of the queue; a result that is not valid
is run again, and ends the request at the third; a valid one is dispatched. R110: the decision in each row of its table. R117: a
result that stays valid has the span answer that its route has now. R26: the jobs of a result are ORDERED, the store with its
chosen slot and its stalled mark clear. The job of a result must be the one the pass met (DEDUCED, log entry 15). The trigger of
R121 acts before the engine takes its next crane (DESIGN CHOICE, log entry 44). With no pass in flight nothing happens, and an
idle step examines one item (DESIGN CHOICE, log entry 5). -/
def Obligations.PassesComplete : Prop :=
  ∀ (s : State) (p : Pass),
    (s.engine.pass = none → exec .passCompletion s = .next s)
    ∧ (s.engine.pass = some p → s.pending = [] → s.lines.hostIn = [] → (∀ x : Crane, s.lines.craneIn.get x = []) →
      step s = .next (match s.passItem p with | some t => t | none => { s with pending := [.passCompletion] }))
    ∧ (∀ t, s.engine.pass = some p → s.passItem p = some t → exec .passCompletion s = exec .passCompletion t)
    ∧ (s.engine.pass = some p → s.passItem p = none →
      ∀ starved : State,
        starved =
          (let t := (s.setPass none).setCrane p.crane { s.crane p.crane with state := .idle, starved := true }
          if p.note || (s.crane p.crane).homeRequest then (t.trigger p.crane).engineRun else t.engineRun) →
        (s.decision p = none → exec .passCompletion s = .next starved)
        ∧ (∀ r, s.decision p = some r → s.held p.crane = true →
          exec .passCompletion s
            = .next (State.engineRun { s with engine :=
                { queue := { crane := p.crane, invalid := p.invalid } :: s.engine.queue, pass := none } }))
        ∧ (∀ r, s.decision p = some r → s.held p.crane = false → s.recheck p r = .ineligible →
          exec .passCompletion s
            = .next (if p.invalid < 2 then s.startPass p.crane (p.invalid + 1) p.note else starved))
        ∧ (∀ r t, s.decision p = some r → s.held p.crane = false →
          t = (s.setTable (State.convertRetrieve (State.convertStore s.table r) r)).orderJobs r →
          (s.recheck p r = .eligible →
            exec .passCompletion s = .next (((t.dispatchSent p.crane r).setPass none).engineRun))
          ∧ ∀ target, s.recheck p r = .yieldEligible target →
            exec .passCompletion s = .next (((t.dispatchWaiting p p.crane target r).setPass none).engineRun)))
    ∧ (∀ k c b, p.stage = .retrieve (some k) c (some b) → s.decision p
        = some (if b.score ≤ (s.policyOf (aisleOf p.crane)).dualLimit then
            { storeTag := some k.tag, storeSerial := some k.serial, storeSlot := some k.slot, retrieveTag := some b.tag,
              retrieveSerial := some b.serial, relocation := b.relocation, legs := b.legs }
          else
            { storeTag := some k.tag, storeSerial := some k.serial, storeSlot := some k.slot, retrieveTag := none,
              retrieveSerial := none, relocation := none,
              legs := s.passLegs p [(.station (stationOf p.crane), .pick), (.slot k.slot, .drop)] }))
    ∧ (∀ k, p.stage = .storeOnly k ∨ (∃ c, p.stage = .retrieve (some k) c none) → s.decision p
        = some { storeTag := some k.tag, storeSerial := some k.serial, storeSlot := some k.slot, retrieveTag := none,
                 retrieveSerial := none, relocation := none,
                 legs := s.passLegs p [(.station (stationOf p.crane), .pick), (.slot k.slot, .drop)] })
    ∧ (∀ c b, p.stage = .retrieve none c (some b) → s.decision p
        = some { storeTag := none, storeSerial := none, storeSlot := none, retrieveTag := some b.tag,
                 retrieveSerial := some b.serial, relocation := b.relocation, legs := b.legs })
    ∧ (∀ c, p.stage = .retrieve none c none → s.decision p = none)
    ∧ (∀ r, s.recheck p r ≠ .ineligible ↔
        (s.crane p.crane).position = p.latch.position ∧ s.storeValid p.crane r = true ∧ s.retrieveValid r = true
        ∧ s.spanAnswer p.crane (s.crane p.crane).position (r.legs.map (·.target)) ≠ .ineligible)
    ∧ (∀ r, s.recheck p r ≠ .ineligible →
        s.recheck p r = s.spanAnswer p.crane (s.crane p.crane).position (r.legs.map (·.target)))
    ∧ (∀ x r, r.storeTag = none → s.storeValid x r = true) ∧ (∀ r, r.retrieveTag = none → s.retrieveValid r = true)
    ∧ (∀ r, s.orderJobs r
        = s.setJobs (s.pool.jobs.map fun j =>
            if r.storeTag = some j.tag then
              { j with
                state := .ordered
                kind := match j.kind with
                  | .store st candidates _ _ => .store st candidates r.storeSlot false
                  | .retrieve a blocker lane => .retrieve a blocker lane }
            else if r.retrieveTag = some j.tag then { j with state := .ordered }
            else j))
    ∧ (∀ x n note, s.startPass x n note
        = s.setPass (some
          { crane := x, invalid := n, note := note,
            latch :=
              { profileA := s.cost.profileA, profileB := s.cost.profileB, scoring := s.cost.scoring,
                trim := (s.trimOf x).trim, jobClock := s.sup.jobClock, stamp := s.pool.serial,
                position := (s.crane x).position },
            stage := .start, sparesEmpty := false }))
    ∧ (∀ q, s.setPass q = { s with engine := { s.engine with pass := q } })
    ∧ (∀ x tag a r, r.storeTag = some tag → r.storeSlot = some a →
      (s.storeValid x r = true ↔ ∃ j rest, s.pool.stationQueue (stationOf x) = j :: rest ∧ j.tag = tag
        ∧ r.storeSerial = some j.serial ∧ j.state = .pending ∧ a ∈ j.candidates ∧ s.storeEligible a = true))
    ∧ (∀ tag r, r.retrieveTag = some tag →
      (s.retrieveValid r = true ↔ ∃ j, s.pool.find tag = some j ∧ r.retrieveSerial = some j.serial ∧ j.state = .pending
        ∧ s.pool.waitsOn j = none ∧ (j.blocker? ≠ none ↔ r.relocation ≠ none)
        ∧ (∃ a, j.slot? = some a
          ∧ ∀ q, r.relocation = some q → q.front = a.partner ∧ s.spareUsable q.spare r.storeSlot = true)
        ∧ s.partnerEligible j = true ∧ s.laneEligible j = true))

/-! ## Queries, RESET and power-on (R17, R37, R148, R149, R150, R162, R180, R188) -/

/-- R17, R37, R148, R162, R188: the five queries report the values as they stand and change nothing else. -/
def Obligations.QueriesReport : Prop :=
  ∀ (r1 r0 b : Byte) (x : Crane) (a : Aisle) (l : LaneNo) (fields : List Byte) (tag : Word32) (s h : State),
    s.port.replies.length < 16 → h = s.hearHost →
    exec (.queryCrane [r1, r0, BitVec.ofNat 8 x.val]) s
      = .next (h.pushReply
        { ref := r1 ++ r0, kind := 0x0A#8, code := .ok,
          data := .crane
            { ctx := h.crane x, span := h.spanOf x, trim := h.trimOf x, silence := h.silenceOf x,
              queue :=
                if (h.crane x).state = .queued then
                  if ∃ p ∈ h.engine.pass, p.crane = x then some .underEvaluation
                  else some (.standing (h.engine.queue.findIdx (fun e => e.crane == x) + 1))
                else none } })
    ∧ exec (.queryAisle [r1, r0, BitVec.ofNat 8 a.val]) s
      = .next (h.pushReply
        { ref := r1 ++ r0, kind := 0x0F#8, code := .ok,
          data := .aisle
            { geometry := h.geometryOf a, policy := h.policyOf a,
              stride := ((h.geometryOf a).bays + (h.policyOf a).bayGroup - 1) / (h.policyOf a).bayGroup,
              rows := ((h.geometryOf a).levels + (h.policyOf a).levelGroup - 1) / (h.policyOf a).levelGroup,
              first := (h.policyOf a).weightingBase,
              last := (h.policyOf a).weightingBase
                + ((h.geometryOf a).levels + (h.policyOf a).levelGroup - 1) / (h.policyOf a).levelGroup
                  * (((h.geometryOf a).bays + (h.policyOf a).bayGroup - 1) / (h.policyOf a).bayGroup) - 1,
              liveJobs := h.pool.jobs.countP (fun j => j.aisle == a),
              spares := h.table.countP (fun e => e.use.isSpare && e.slot.aisle == a),
              sparesInUse := h.table.countP (fun e => e.use.isSpareInUse && e.slot.aisle == a),
              nearState := (h.crane (craneAt a .near)).state, farState := (h.crane (craneAt a .far)).state,
              held := h.sup.holdAisle.get a, evaluating := h.engine.pass.any (fun p => aisleOf p.crane == a) } })
    ∧ exec (.queryLane [r1, r0, BitVec.ofNat 8 l.val]) s
      = .next (h.pushReply { ref := r1 ++ r0, kind := 0x17#8, code := .ok, data := .lane (h.laneOf l) })
    ∧ (∀ j, readTag fields = some tag → h.pool.find tag = some j →
      exec (.queryJob (r1 :: r0 :: fields)) s
        = .next (h.pushReply
          { ref := r1 ++ r0, kind := 0x05#8, code := .ok,
            data := .job
              { job := j, age := min 65535 (h.sup.jobClock - j.admittedAt).toNat, order := h.orderOf j.tag,
                waits := (h.pool.waitsOn j).map (·.tag),
                queuePosition :=
                  match j.kind with
                  | .store st .. => some ((h.pool.stationQueue st).findIdx (fun k => k.tag == j.tag) + 1)
                  | .retrieve .. => none } }))
    ∧ (readTag fields = some tag → (∀ j ∈ h.pool.jobs, j.tag ≠ tag) →
      exec (.queryJob (r1 :: r0 :: fields)) s
        = .next (h.pushReply { ref := r1 ++ r0, kind := 0x05#8, code := .unknownTag, data := .empty }))
    ∧ exec (.queryStatus [r1, r0]) s
      = .next (h.pushReply
        { ref := r1 ++ r0, kind := 0x1E#8, code := .ok,
          data := .status
            { flags := (List.finRange 11).map fun k => (h.notices.classOf k).flag,
              enabledFlags := (List.finRange 11).map fun k =>
                (h.notices.classOf k).flag && (h.notices.classOf k).notice,
              missed := (List.finRange 11).map fun k => (h.notices.classOf k).missed,
              noticesQueued := h.notices.queue.length,
              noticesByLevel := (List.range 4).map fun v => h.notices.queue.countP (fun n => n.level == v),
              evaluating := h.engine.pass.map fun p => (p.crane, p.invalid + 1),
              queueLength := h.engine.queue.length, holdCommand := h.sup.holdCommand, holdSilence := h.sup.holdSilence,
              holdAisle := h.sup.holdAisle, record := h.sup.record, liveJobs := h.pool.jobs.length,
              pendingJobs := h.pool.jobs.countP (fun j => j.state == .pending),
              orderedJobs := h.pool.jobs.countP (fun j => j.state == .ordered),
              activeJobs := h.pool.jobs.countP (fun j => j.state == .active), jobClock := h.sup.jobClock,
              durationClock := h.sup.durationClock, timing := h.sup.timing, hostSilence := h.sup.hostSilence,
              roundCount := h.sup.roundCount, linkErrors := h.port.linkErrors,
              lineErrors := (List.finRange 16).map fun x => (h.crane x).lineErrors } })
    ∧ (15 < b.toNat → exec (.queryCrane [r1, r0, b]) s
        = .next (h.pushReply { ref := r1 ++ r0, kind := 0x0A#8, code := .range, data := .empty }))
    ∧ (7 < b.toNat →
      exec (.queryAisle [r1, r0, b]) s
        = .next (h.pushReply { ref := r1 ++ r0, kind := 0x0F#8, code := .range, data := .empty })
      ∧ exec (.queryLane [r1, r0, b]) s
        = .next (h.pushReply { ref := r1 ++ r0, kind := 0x17#8, code := .range, data := .empty }))

/-- R180: RESET with scope ALL leaves every block as power-on does, but for the lines, the receivers, the transmitter and the
reply stream; with scope JOBS it leaves what the table of R180 and R74, R150 say; any other scope is refused RANGE. -/
def Obligations.ResetTaken : Prop :=
  ∀ (r1 r0 b : Byte) (s h : State), s.port.replies.length < 16 → h = s.hearHost →
    exec (.reset [r1, r0, 0#8]) s
      = .next
        (State.pushReply
          { State.reset with pending := h.pending, lines := h.lines, port := { h.port with linkErrors := 0 } }
          { ref := r1 ++ r0, kind := 0x1F#8, code := .ok, data := .empty })
    ∧ (1 < b.toNat →
      exec (.reset [r1, r0, b]) s
        = .next (h.pushReply { ref := r1 ++ r0, kind := 0x1F#8, code := .range, data := .empty }))
    ∧ ∃ t : State,
      exec (.reset [r1, r0, 1#8]) s
        = .next (t.pushReply { ref := r1 ++ r0, kind := 0x1F#8, code := .ok, data := .empty })
      ∧ t.pending = h.pending ∧ t.port = h.port ∧ t.pool = { h.pool with jobs := [] } ∧ t.table = []
      ∧ (∃ v, t.cost = { h.cost with trims := v }
        ∧ ∀ x : Crane, v.get x
          = { trim := (h.trimOf x).trim, auto := (h.trimOf x).auto, legs := 0, predicted := 0, actual := 0 })
      ∧ t.engine = { queue := [], pass := none } ∧ t.orders.idCounter = h.orders.idCounter
      ∧ (∀ x, t.crane x
          = if (h.crane x).state = .offline then
              { h.crane x with order := none, homeRequest := false, starved := false }
            else
              { h.crane x with
                state := .syncing, order := none, homeRequest := false, starved := false, timeouts := 0
                stateCause := none })
      ∧ (∀ x, t.spanOf x
          = match (h.crane x).state, (h.crane x).position with
            | .awaitYield, some p => .bays p.bay p.bay
            | _, _ => h.spanOf x)
      ∧ (∀ a, t.pairOf a = none)
      ∧ (∀ l, t.laneOf l = { opened := false, nextDue := 0, window := 1, delivered := [], liveJobs := 0 })
      ∧ (∀ x, t.silenceOf x = if (h.crane x).state = .offline then h.silenceOf x else 0)
      ∧ t.sup = { h.sup with silence := t.sup.silence, hostSilence := 0, holdCommand := true }
      ∧ t.notices.queue = []
      ∧ (∀ k, t.notices.classOf k = { h.notices.classOf k with flag := false, missed := false })
      ∧ (∀ x, t.lines.craneOut.get x
          = h.lines.craneOut.get x
            ++ (match (h.crane x).order with
              | some o => if o.state = .awaitYield then [] else [frameOf 0x03#8 [0]]
              | none => [])
            ++ (if (h.crane x).state = .offline then [] else [frameOf 0x04#8 [0]]))
      ∧ t.lines = { h.lines with craneOut := t.lines.craneOut }

/-- R5, R8, R11, R57, R75, R86, R91, R123, R149, R151, R163 to R174, R181: the values after power-on; POWER_ON gives them
with the strap as it stands (the queue of commands and the bytes on the incoming lines are the model's own, log entry 2). -/
def Obligations.PowerOnValues : Prop :=
  (∀ (strap : LineRate) (s : State), exec (.powerOn strap) s
    = .next { State.reset with
        pending := s.pending
        port := { State.reset.port with lineRate := strap }
        lines := { State.reset.lines with hostIn := s.lines.hostIn, craneIn := s.lines.craneIn } })
  ∧ ∃ s, s = State.reset
    ∧ s.port.rx = { state := .hunt, gap := 0 } ∧ s.port.linkErrors = 0 ∧ s.port.replies = [] ∧ s.port.tx = none
    ∧ s.port.lastSent = .notice
    ∧ s.pool = { jobs := [], serial := 0, watchThreshold := 320, watchEdges := .off } ∧ s.table = []
    ∧ (∀ x, s.spanOf x = .absent) ∧ (∀ a, s.pairOf a = none)
    ∧ (∀ a, s.geometryOf a
        = { configured := false, bays := 1, levels := 1, doubleDeep := false, nearLevel := 1, farLevel := 1,
            fit := .nearOnly, gap := 1 })
    ∧ (∀ a, s.policyOf a
        = { profileMode := .profileA, windowBayLo := 1, windowBayHi := 1, windowLevelLo := 1, windowLevelHi := 1,
            windowInvert := false, weighting := false, weightingMode := .bothRates, weightingBase := 0, bayGroup := 1,
            levelGroup := 1, dual := false, dualLimit := 20000, yieldPenalty := 5000 })
    ∧ (∀ i, weightAt s.cost.weights i = { mark := false, factor := 1024 })
    ∧ s.cost.profileA = { kx := 7520, cx := 2400, ky := 24000, cy := 1800, kf := 7000, kd := 3500, ks := 6000 }
    ∧ s.cost.profileB = s.cost.profileA
    ∧ s.cost.scoring = { bias0 := 0, bias1 := 2000, bias2 := 6000, bias3 := 15000, ageGain := 10, ageCap := 3000 }
    ∧ (∀ x, s.trimOf x = { trim := 1024, auto := false, legs := 0, predicted := 0, actual := 0 })
    ∧ s.engine = { queue := [], pass := none }
    ∧ (∀ x, s.crane x
        = { state := .offline, position := none, aboard := .unknown, order := none, timeouts := 0, homeRequest := false,
            starved := false, faultCode := none, stateCause := none, anomalies := 0, lineErrors := 0 })
    ∧ s.orders.idCounter = 0
    ∧ (∀ l, s.laneOf l = { opened := false, nextDue := 0, window := 1, delivered := [], liveJobs := 0 })
    ∧ s.sup.timing = { code := 1, silenceLimit := 30, acceptLimit := 10, hostLimit := 0, autoRelease := false }
    ∧ s.sup.jobClock = 0 ∧ s.sup.durationClock = 0 ∧ (∀ x, s.silenceOf x = 0) ∧ s.sup.hostSilence = 0
    ∧ s.sup.pollPointer = 15 ∧ s.sup.roundCount = 0
    ∧ s.sup.holdCommand = true ∧ s.sup.holdSilence = false ∧ (∀ a, s.aisleHeld a = false)
    ∧ s.sup.record
        = { holdCause := .none, holdAisle := none, holdClock := 0, releaseCause := .none, releaseAisle := none,
            releaseClock := 0 }
    ∧ s.notices.queue = []
    ∧ (∀ k, s.notices.classOf k
        = { flag := false, missed := false, notice := true, clearOnSend := true,
            level := [1, 2, 3, 1, 2, 2, 3, 1, 0, 3, 0].getD k.val 0 })
    ∧ s.trimsInLaw ∧ s.noticesInLaw ∧ s.repliesInLaw ∧ s.weightsInLaw ∧ s.workInLaw ∧ s.lanesInLaw ∧ s.railInLaw
    ∧ s.slotsInLaw ∧ s.spansOnRail
end

