-- ==== Sys2Proof/Laws/State.lean ====
section
/-! SUPPORT. One lemma per field per update of the state, and reading after writing one place of a collection. -/

namespace Sys2Proof.Machine

/-! ## One place of a fixed collection -/

theorem upd_get {α : Type} {n : Nat} (v : Vector α n) (i j : Fin n) (a : α) :
    (upd v i a).get j = if i = j then a else v.get j := by
  simp only [upd, Vector.get_eq_getElem, Vector.getElem_set, Fin.ext_iff]

@[simp] theorem upd_get_self {α : Type} {n : Nat} (v : Vector α n) (i : Fin n) (a : α) : (upd v i a).get i = a := by
  simp [upd_get]

theorem upd_get_other {α : Type} {n : Nat} (v : Vector α n) {i j : Fin n} (a : α) (h : i ≠ j) :
    (upd v i a).get j = v.get j := by
  simp [upd_get, h]

namespace State

/-! ## The fields an update leaves -/

@[simp] theorem setCrane_pending (s : State) (x : Crane) (c : CraneCtx) : (s.setCrane x c).pending = s.pending := rfl
@[simp] theorem setCrane_lines (s : State) (x : Crane) (c : CraneCtx) : (s.setCrane x c).lines = s.lines := rfl
@[simp] theorem setCrane_port (s : State) (x : Crane) (c : CraneCtx) : (s.setCrane x c).port = s.port := rfl
@[simp] theorem setCrane_pool (s : State) (x : Crane) (c : CraneCtx) : (s.setCrane x c).pool = s.pool := rfl
@[simp] theorem setCrane_table (s : State) (x : Crane) (c : CraneCtx) : (s.setCrane x c).table = s.table := rfl
@[simp] theorem setCrane_spans (s : State) (x : Crane) (c : CraneCtx) : (s.setCrane x c).spans = s.spans := rfl
@[simp] theorem setCrane_cost (s : State) (x : Crane) (c : CraneCtx) : (s.setCrane x c).cost = s.cost := rfl
@[simp] theorem setCrane_engine (s : State) (x : Crane) (c : CraneCtx) : (s.setCrane x c).engine = s.engine := rfl
@[simp] theorem setCrane_lanes (s : State) (x : Crane) (c : CraneCtx) : (s.setCrane x c).lanes = s.lanes := rfl
@[simp] theorem setCrane_sup (s : State) (x : Crane) (c : CraneCtx) : (s.setCrane x c).sup = s.sup := rfl
@[simp] theorem setCrane_notices (s : State) (x : Crane) (c : CraneCtx) : (s.setCrane x c).notices = s.notices := rfl

@[simp] theorem modCrane_pending (s : State) (x : Crane) (f : CraneCtx → CraneCtx) : (s.modCrane x f).pending = s.pending := rfl
@[simp] theorem modCrane_lines (s : State) (x : Crane) (f : CraneCtx → CraneCtx) : (s.modCrane x f).lines = s.lines := rfl
@[simp] theorem modCrane_port (s : State) (x : Crane) (f : CraneCtx → CraneCtx) : (s.modCrane x f).port = s.port := rfl
@[simp] theorem modCrane_pool (s : State) (x : Crane) (f : CraneCtx → CraneCtx) : (s.modCrane x f).pool = s.pool := rfl
@[simp] theorem modCrane_table (s : State) (x : Crane) (f : CraneCtx → CraneCtx) : (s.modCrane x f).table = s.table := rfl
@[simp] theorem modCrane_spans (s : State) (x : Crane) (f : CraneCtx → CraneCtx) : (s.modCrane x f).spans = s.spans := rfl
@[simp] theorem modCrane_cost (s : State) (x : Crane) (f : CraneCtx → CraneCtx) : (s.modCrane x f).cost = s.cost := rfl
@[simp] theorem modCrane_engine (s : State) (x : Crane) (f : CraneCtx → CraneCtx) : (s.modCrane x f).engine = s.engine := rfl
@[simp] theorem modCrane_lanes (s : State) (x : Crane) (f : CraneCtx → CraneCtx) : (s.modCrane x f).lanes = s.lanes := rfl
@[simp] theorem modCrane_sup (s : State) (x : Crane) (f : CraneCtx → CraneCtx) : (s.modCrane x f).sup = s.sup := rfl
@[simp] theorem modCrane_notices (s : State) (x : Crane) (f : CraneCtx → CraneCtx) : (s.modCrane x f).notices = s.notices := rfl

@[simp] theorem modOrder_pending (s : State) (x : Crane) (f : Order → Order) : (s.modOrder x f).pending = s.pending := rfl
@[simp] theorem modOrder_lines (s : State) (x : Crane) (f : Order → Order) : (s.modOrder x f).lines = s.lines := rfl
@[simp] theorem modOrder_port (s : State) (x : Crane) (f : Order → Order) : (s.modOrder x f).port = s.port := rfl
@[simp] theorem modOrder_pool (s : State) (x : Crane) (f : Order → Order) : (s.modOrder x f).pool = s.pool := rfl
@[simp] theorem modOrder_table (s : State) (x : Crane) (f : Order → Order) : (s.modOrder x f).table = s.table := rfl
@[simp] theorem modOrder_spans (s : State) (x : Crane) (f : Order → Order) : (s.modOrder x f).spans = s.spans := rfl
@[simp] theorem modOrder_cost (s : State) (x : Crane) (f : Order → Order) : (s.modOrder x f).cost = s.cost := rfl
@[simp] theorem modOrder_engine (s : State) (x : Crane) (f : Order → Order) : (s.modOrder x f).engine = s.engine := rfl
@[simp] theorem modOrder_lanes (s : State) (x : Crane) (f : Order → Order) : (s.modOrder x f).lanes = s.lanes := rfl
@[simp] theorem modOrder_sup (s : State) (x : Crane) (f : Order → Order) : (s.modOrder x f).sup = s.sup := rfl
@[simp] theorem modOrder_notices (s : State) (x : Crane) (f : Order → Order) : (s.modOrder x f).notices = s.notices := rfl

@[simp] theorem setCraneState_pending (s : State) (x : Crane) (st : CraneState) : (s.setCraneState x st).pending = s.pending := rfl
@[simp] theorem setCraneState_lines (s : State) (x : Crane) (st : CraneState) : (s.setCraneState x st).lines = s.lines := rfl
@[simp] theorem setCraneState_port (s : State) (x : Crane) (st : CraneState) : (s.setCraneState x st).port = s.port := rfl
@[simp] theorem setCraneState_pool (s : State) (x : Crane) (st : CraneState) : (s.setCraneState x st).pool = s.pool := rfl
@[simp] theorem setCraneState_table (s : State) (x : Crane) (st : CraneState) : (s.setCraneState x st).table = s.table := rfl
@[simp] theorem setCraneState_spans (s : State) (x : Crane) (st : CraneState) : (s.setCraneState x st).spans = s.spans := rfl
@[simp] theorem setCraneState_cost (s : State) (x : Crane) (st : CraneState) : (s.setCraneState x st).cost = s.cost := rfl
@[simp] theorem setCraneState_engine (s : State) (x : Crane) (st : CraneState) : (s.setCraneState x st).engine = s.engine := rfl
@[simp] theorem setCraneState_lanes (s : State) (x : Crane) (st : CraneState) : (s.setCraneState x st).lanes = s.lanes := rfl
@[simp] theorem setCraneState_sup (s : State) (x : Crane) (st : CraneState) : (s.setCraneState x st).sup = s.sup := rfl
@[simp] theorem setCraneState_notices (s : State) (x : Crane) (st : CraneState) : (s.setCraneState x st).notices = s.notices := rfl

@[simp] theorem anomaly_pending (s : State) (x : Crane) : (s.anomaly x).pending = s.pending := rfl
@[simp] theorem anomaly_lines (s : State) (x : Crane) : (s.anomaly x).lines = s.lines := rfl
@[simp] theorem anomaly_port (s : State) (x : Crane) : (s.anomaly x).port = s.port := rfl
@[simp] theorem anomaly_pool (s : State) (x : Crane) : (s.anomaly x).pool = s.pool := rfl
@[simp] theorem anomaly_table (s : State) (x : Crane) : (s.anomaly x).table = s.table := rfl
@[simp] theorem anomaly_spans (s : State) (x : Crane) : (s.anomaly x).spans = s.spans := rfl
@[simp] theorem anomaly_cost (s : State) (x : Crane) : (s.anomaly x).cost = s.cost := rfl
@[simp] theorem anomaly_engine (s : State) (x : Crane) : (s.anomaly x).engine = s.engine := rfl
@[simp] theorem anomaly_lanes (s : State) (x : Crane) : (s.anomaly x).lanes = s.lanes := rfl
@[simp] theorem anomaly_sup (s : State) (x : Crane) : (s.anomaly x).sup = s.sup := rfl
@[simp] theorem anomaly_notices (s : State) (x : Crane) : (s.anomaly x).notices = s.notices := rfl

@[simp] theorem setSpan_pending (s : State) (x : Crane) (sp : Span) : (s.setSpan x sp).pending = s.pending := rfl
@[simp] theorem setSpan_lines (s : State) (x : Crane) (sp : Span) : (s.setSpan x sp).lines = s.lines := rfl
@[simp] theorem setSpan_port (s : State) (x : Crane) (sp : Span) : (s.setSpan x sp).port = s.port := rfl
@[simp] theorem setSpan_pool (s : State) (x : Crane) (sp : Span) : (s.setSpan x sp).pool = s.pool := rfl
@[simp] theorem setSpan_table (s : State) (x : Crane) (sp : Span) : (s.setSpan x sp).table = s.table := rfl
@[simp] theorem setSpan_cost (s : State) (x : Crane) (sp : Span) : (s.setSpan x sp).cost = s.cost := rfl
@[simp] theorem setSpan_engine (s : State) (x : Crane) (sp : Span) : (s.setSpan x sp).engine = s.engine := rfl
@[simp] theorem setSpan_orders (s : State) (x : Crane) (sp : Span) : (s.setSpan x sp).orders = s.orders := rfl
@[simp] theorem setSpan_lanes (s : State) (x : Crane) (sp : Span) : (s.setSpan x sp).lanes = s.lanes := rfl
@[simp] theorem setSpan_sup (s : State) (x : Crane) (sp : Span) : (s.setSpan x sp).sup = s.sup := rfl
@[simp] theorem setSpan_notices (s : State) (x : Crane) (sp : Span) : (s.setSpan x sp).notices = s.notices := rfl

@[simp] theorem setPair_pending (s : State) (a : Aisle) (p : Option YieldPair) : (s.setPair a p).pending = s.pending := rfl
@[simp] theorem setPair_lines (s : State) (a : Aisle) (p : Option YieldPair) : (s.setPair a p).lines = s.lines := rfl
@[simp] theorem setPair_port (s : State) (a : Aisle) (p : Option YieldPair) : (s.setPair a p).port = s.port := rfl
@[simp] theorem setPair_pool (s : State) (a : Aisle) (p : Option YieldPair) : (s.setPair a p).pool = s.pool := rfl
@[simp] theorem setPair_table (s : State) (a : Aisle) (p : Option YieldPair) : (s.setPair a p).table = s.table := rfl
@[simp] theorem setPair_cost (s : State) (a : Aisle) (p : Option YieldPair) : (s.setPair a p).cost = s.cost := rfl
@[simp] theorem setPair_engine (s : State) (a : Aisle) (p : Option YieldPair) : (s.setPair a p).engine = s.engine := rfl
@[simp] theorem setPair_orders (s : State) (a : Aisle) (p : Option YieldPair) : (s.setPair a p).orders = s.orders := rfl
@[simp] theorem setPair_lanes (s : State) (a : Aisle) (p : Option YieldPair) : (s.setPair a p).lanes = s.lanes := rfl
@[simp] theorem setPair_sup (s : State) (a : Aisle) (p : Option YieldPair) : (s.setPair a p).sup = s.sup := rfl
@[simp] theorem setPair_notices (s : State) (a : Aisle) (p : Option YieldPair) : (s.setPair a p).notices = s.notices := rfl

@[simp] theorem setTable_pending (s : State) (t : List Entry) : (s.setTable t).pending = s.pending := rfl
@[simp] theorem setTable_lines (s : State) (t : List Entry) : (s.setTable t).lines = s.lines := rfl
@[simp] theorem setTable_port (s : State) (t : List Entry) : (s.setTable t).port = s.port := rfl
@[simp] theorem setTable_pool (s : State) (t : List Entry) : (s.setTable t).pool = s.pool := rfl
@[simp] theorem setTable_spans (s : State) (t : List Entry) : (s.setTable t).spans = s.spans := rfl
@[simp] theorem setTable_cost (s : State) (t : List Entry) : (s.setTable t).cost = s.cost := rfl
@[simp] theorem setTable_engine (s : State) (t : List Entry) : (s.setTable t).engine = s.engine := rfl
@[simp] theorem setTable_orders (s : State) (t : List Entry) : (s.setTable t).orders = s.orders := rfl
@[simp] theorem setTable_lanes (s : State) (t : List Entry) : (s.setTable t).lanes = s.lanes := rfl
@[simp] theorem setTable_sup (s : State) (t : List Entry) : (s.setTable t).sup = s.sup := rfl
@[simp] theorem setTable_notices (s : State) (t : List Entry) : (s.setTable t).notices = s.notices := rfl

@[simp] theorem setJobs_pending (s : State) (js : List Job) : (s.setJobs js).pending = s.pending := rfl
@[simp] theorem setJobs_lines (s : State) (js : List Job) : (s.setJobs js).lines = s.lines := rfl
@[simp] theorem setJobs_port (s : State) (js : List Job) : (s.setJobs js).port = s.port := rfl
@[simp] theorem setJobs_table (s : State) (js : List Job) : (s.setJobs js).table = s.table := rfl
@[simp] theorem setJobs_spans (s : State) (js : List Job) : (s.setJobs js).spans = s.spans := rfl
@[simp] theorem setJobs_cost (s : State) (js : List Job) : (s.setJobs js).cost = s.cost := rfl
@[simp] theorem setJobs_engine (s : State) (js : List Job) : (s.setJobs js).engine = s.engine := rfl
@[simp] theorem setJobs_orders (s : State) (js : List Job) : (s.setJobs js).orders = s.orders := rfl
@[simp] theorem setJobs_lanes (s : State) (js : List Job) : (s.setJobs js).lanes = s.lanes := rfl
@[simp] theorem setJobs_sup (s : State) (js : List Job) : (s.setJobs js).sup = s.sup := rfl
@[simp] theorem setJobs_notices (s : State) (js : List Job) : (s.setJobs js).notices = s.notices := rfl

@[simp] theorem modJobOf_pending (s : State) (tag : Word32) (f : Job → Job) : (s.modJobOf tag f).pending = s.pending := rfl
@[simp] theorem modJobOf_lines (s : State) (tag : Word32) (f : Job → Job) : (s.modJobOf tag f).lines = s.lines := rfl
@[simp] theorem modJobOf_port (s : State) (tag : Word32) (f : Job → Job) : (s.modJobOf tag f).port = s.port := rfl
@[simp] theorem modJobOf_table (s : State) (tag : Word32) (f : Job → Job) : (s.modJobOf tag f).table = s.table := rfl
@[simp] theorem modJobOf_spans (s : State) (tag : Word32) (f : Job → Job) : (s.modJobOf tag f).spans = s.spans := rfl
@[simp] theorem modJobOf_cost (s : State) (tag : Word32) (f : Job → Job) : (s.modJobOf tag f).cost = s.cost := rfl
@[simp] theorem modJobOf_engine (s : State) (tag : Word32) (f : Job → Job) : (s.modJobOf tag f).engine = s.engine := rfl
@[simp] theorem modJobOf_orders (s : State) (tag : Word32) (f : Job → Job) : (s.modJobOf tag f).orders = s.orders := rfl
@[simp] theorem modJobOf_lanes (s : State) (tag : Word32) (f : Job → Job) : (s.modJobOf tag f).lanes = s.lanes := rfl
@[simp] theorem modJobOf_sup (s : State) (tag : Word32) (f : Job → Job) : (s.modJobOf tag f).sup = s.sup := rfl
@[simp] theorem modJobOf_notices (s : State) (tag : Word32) (f : Job → Job) : (s.modJobOf tag f).notices = s.notices := rfl

@[simp] theorem setLane_pending (s : State) (l : LaneNo) (r : Lane) : (s.setLane l r).pending = s.pending := rfl
@[simp] theorem setLane_lines (s : State) (l : LaneNo) (r : Lane) : (s.setLane l r).lines = s.lines := rfl
@[simp] theorem setLane_port (s : State) (l : LaneNo) (r : Lane) : (s.setLane l r).port = s.port := rfl
@[simp] theorem setLane_pool (s : State) (l : LaneNo) (r : Lane) : (s.setLane l r).pool = s.pool := rfl
@[simp] theorem setLane_table (s : State) (l : LaneNo) (r : Lane) : (s.setLane l r).table = s.table := rfl
@[simp] theorem setLane_spans (s : State) (l : LaneNo) (r : Lane) : (s.setLane l r).spans = s.spans := rfl
@[simp] theorem setLane_cost (s : State) (l : LaneNo) (r : Lane) : (s.setLane l r).cost = s.cost := rfl
@[simp] theorem setLane_engine (s : State) (l : LaneNo) (r : Lane) : (s.setLane l r).engine = s.engine := rfl
@[simp] theorem setLane_orders (s : State) (l : LaneNo) (r : Lane) : (s.setLane l r).orders = s.orders := rfl
@[simp] theorem setLane_sup (s : State) (l : LaneNo) (r : Lane) : (s.setLane l r).sup = s.sup := rfl
@[simp] theorem setLane_notices (s : State) (l : LaneNo) (r : Lane) : (s.setLane l r).notices = s.notices := rfl

@[simp] theorem setTrimOf_pending (s : State) (x : Crane) (t : Trim) : (s.setTrimOf x t).pending = s.pending := rfl
@[simp] theorem setTrimOf_lines (s : State) (x : Crane) (t : Trim) : (s.setTrimOf x t).lines = s.lines := rfl
@[simp] theorem setTrimOf_port (s : State) (x : Crane) (t : Trim) : (s.setTrimOf x t).port = s.port := rfl
@[simp] theorem setTrimOf_pool (s : State) (x : Crane) (t : Trim) : (s.setTrimOf x t).pool = s.pool := rfl
@[simp] theorem setTrimOf_table (s : State) (x : Crane) (t : Trim) : (s.setTrimOf x t).table = s.table := rfl
@[simp] theorem setTrimOf_spans (s : State) (x : Crane) (t : Trim) : (s.setTrimOf x t).spans = s.spans := rfl
@[simp] theorem setTrimOf_engine (s : State) (x : Crane) (t : Trim) : (s.setTrimOf x t).engine = s.engine := rfl
@[simp] theorem setTrimOf_orders (s : State) (x : Crane) (t : Trim) : (s.setTrimOf x t).orders = s.orders := rfl
@[simp] theorem setTrimOf_lanes (s : State) (x : Crane) (t : Trim) : (s.setTrimOf x t).lanes = s.lanes := rfl
@[simp] theorem setTrimOf_sup (s : State) (x : Crane) (t : Trim) : (s.setTrimOf x t).sup = s.sup := rfl
@[simp] theorem setTrimOf_notices (s : State) (x : Crane) (t : Trim) : (s.setTrimOf x t).notices = s.notices := rfl

@[simp] theorem setSilence_pending (s : State) (x : Crane) (n : Nat) : (s.setSilence x n).pending = s.pending := rfl
@[simp] theorem setSilence_lines (s : State) (x : Crane) (n : Nat) : (s.setSilence x n).lines = s.lines := rfl
@[simp] theorem setSilence_port (s : State) (x : Crane) (n : Nat) : (s.setSilence x n).port = s.port := rfl
@[simp] theorem setSilence_pool (s : State) (x : Crane) (n : Nat) : (s.setSilence x n).pool = s.pool := rfl
@[simp] theorem setSilence_table (s : State) (x : Crane) (n : Nat) : (s.setSilence x n).table = s.table := rfl
@[simp] theorem setSilence_spans (s : State) (x : Crane) (n : Nat) : (s.setSilence x n).spans = s.spans := rfl
@[simp] theorem setSilence_cost (s : State) (x : Crane) (n : Nat) : (s.setSilence x n).cost = s.cost := rfl
@[simp] theorem setSilence_engine (s : State) (x : Crane) (n : Nat) : (s.setSilence x n).engine = s.engine := rfl
@[simp] theorem setSilence_orders (s : State) (x : Crane) (n : Nat) : (s.setSilence x n).orders = s.orders := rfl
@[simp] theorem setSilence_lanes (s : State) (x : Crane) (n : Nat) : (s.setSilence x n).lanes = s.lanes := rfl
@[simp] theorem setSilence_notices (s : State) (x : Crane) (n : Nat) : (s.setSilence x n).notices = s.notices := rfl

@[simp] theorem setEngine_pending (s : State) (e : Engine) : (s.setEngine e).pending = s.pending := rfl
@[simp] theorem setEngine_lines (s : State) (e : Engine) : (s.setEngine e).lines = s.lines := rfl
@[simp] theorem setEngine_port (s : State) (e : Engine) : (s.setEngine e).port = s.port := rfl
@[simp] theorem setEngine_pool (s : State) (e : Engine) : (s.setEngine e).pool = s.pool := rfl
@[simp] theorem setEngine_table (s : State) (e : Engine) : (s.setEngine e).table = s.table := rfl
@[simp] theorem setEngine_spans (s : State) (e : Engine) : (s.setEngine e).spans = s.spans := rfl
@[simp] theorem setEngine_cost (s : State) (e : Engine) : (s.setEngine e).cost = s.cost := rfl
@[simp] theorem setEngine_orders (s : State) (e : Engine) : (s.setEngine e).orders = s.orders := rfl
@[simp] theorem setEngine_lanes (s : State) (e : Engine) : (s.setEngine e).lanes = s.lanes := rfl
@[simp] theorem setEngine_sup (s : State) (e : Engine) : (s.setEngine e).sup = s.sup := rfl
@[simp] theorem setEngine_notices (s : State) (e : Engine) : (s.setEngine e).notices = s.notices := rfl

@[simp] theorem setPass_pending (s : State) (p : Option Pass) : (s.setPass p).pending = s.pending := rfl
@[simp] theorem setPass_lines (s : State) (p : Option Pass) : (s.setPass p).lines = s.lines := rfl
@[simp] theorem setPass_port (s : State) (p : Option Pass) : (s.setPass p).port = s.port := rfl
@[simp] theorem setPass_pool (s : State) (p : Option Pass) : (s.setPass p).pool = s.pool := rfl
@[simp] theorem setPass_table (s : State) (p : Option Pass) : (s.setPass p).table = s.table := rfl
@[simp] theorem setPass_spans (s : State) (p : Option Pass) : (s.setPass p).spans = s.spans := rfl
@[simp] theorem setPass_cost (s : State) (p : Option Pass) : (s.setPass p).cost = s.cost := rfl
@[simp] theorem setPass_orders (s : State) (p : Option Pass) : (s.setPass p).orders = s.orders := rfl
@[simp] theorem setPass_lanes (s : State) (p : Option Pass) : (s.setPass p).lanes = s.lanes := rfl
@[simp] theorem setPass_sup (s : State) (p : Option Pass) : (s.setPass p).sup = s.sup := rfl
@[simp] theorem setPass_notices (s : State) (p : Option Pass) : (s.setPass p).notices = s.notices := rfl

@[simp] theorem emit_pending (s : State) (x : Crane) (frame : List Byte) : (s.emit x frame).pending = s.pending := rfl
@[simp] theorem emit_port (s : State) (x : Crane) (frame : List Byte) : (s.emit x frame).port = s.port := rfl
@[simp] theorem emit_pool (s : State) (x : Crane) (frame : List Byte) : (s.emit x frame).pool = s.pool := rfl
@[simp] theorem emit_table (s : State) (x : Crane) (frame : List Byte) : (s.emit x frame).table = s.table := rfl
@[simp] theorem emit_spans (s : State) (x : Crane) (frame : List Byte) : (s.emit x frame).spans = s.spans := rfl
@[simp] theorem emit_cost (s : State) (x : Crane) (frame : List Byte) : (s.emit x frame).cost = s.cost := rfl
@[simp] theorem emit_engine (s : State) (x : Crane) (frame : List Byte) : (s.emit x frame).engine = s.engine := rfl
@[simp] theorem emit_orders (s : State) (x : Crane) (frame : List Byte) : (s.emit x frame).orders = s.orders := rfl
@[simp] theorem emit_lanes (s : State) (x : Crane) (frame : List Byte) : (s.emit x frame).lanes = s.lanes := rfl
@[simp] theorem emit_sup (s : State) (x : Crane) (frame : List Byte) : (s.emit x frame).sup = s.sup := rfl
@[simp] theorem emit_notices (s : State) (x : Crane) (frame : List Byte) : (s.emit x frame).notices = s.notices := rfl

@[simp] theorem setNotices_pending (s : State) (p : Port) (u : NoticeUnit) : (s.setNotices p u).pending = s.pending := rfl
@[simp] theorem setNotices_lines (s : State) (p : Port) (u : NoticeUnit) : (s.setNotices p u).lines = s.lines := rfl
@[simp] theorem setNotices_pool (s : State) (p : Port) (u : NoticeUnit) : (s.setNotices p u).pool = s.pool := rfl
@[simp] theorem setNotices_table (s : State) (p : Port) (u : NoticeUnit) : (s.setNotices p u).table = s.table := rfl
@[simp] theorem setNotices_spans (s : State) (p : Port) (u : NoticeUnit) : (s.setNotices p u).spans = s.spans := rfl
@[simp] theorem setNotices_cost (s : State) (p : Port) (u : NoticeUnit) : (s.setNotices p u).cost = s.cost := rfl
@[simp] theorem setNotices_engine (s : State) (p : Port) (u : NoticeUnit) : (s.setNotices p u).engine = s.engine := rfl
@[simp] theorem setNotices_orders (s : State) (p : Port) (u : NoticeUnit) : (s.setNotices p u).orders = s.orders := rfl
@[simp] theorem setNotices_lanes (s : State) (p : Port) (u : NoticeUnit) : (s.setNotices p u).lanes = s.lanes := rfl
@[simp] theorem setNotices_sup (s : State) (p : Port) (u : NoticeUnit) : (s.setNotices p u).sup = s.sup := rfl

/-! ## Reading what an update wrote -/

theorem crane_setCrane (s : State) (x y : Crane) (c : CraneCtx) :
    (s.setCrane x c).crane y = if x = y then c else s.crane y := upd_get _ _ _ _

@[simp] theorem crane_setCrane_self (s : State) (x : Crane) (c : CraneCtx) : (s.setCrane x c).crane x = c := by
  simp [crane_setCrane]

theorem crane_modCrane (s : State) (x y : Crane) (f : CraneCtx → CraneCtx) :
    (s.modCrane x f).crane y = if x = y then f (s.crane x) else s.crane y := crane_setCrane _ _ _ _

@[simp] theorem crane_modCrane_self (s : State) (x : Crane) (f : CraneCtx → CraneCtx) :
    (s.modCrane x f).crane x = f (s.crane x) := by
  simp [crane_modCrane]

theorem spanOf_setSpan (s : State) (x y : Crane) (sp : Span) :
    (s.setSpan x sp).spanOf y = if x = y then sp else s.spanOf y := upd_get _ _ _ _

@[simp] theorem spanOf_setSpan_self (s : State) (x : Crane) (sp : Span) : (s.setSpan x sp).spanOf x = sp := by
  simp [spanOf_setSpan]

theorem pairOf_setPair (s : State) (a b : Aisle) (p : Option YieldPair) :
    (s.setPair a p).pairOf b = if a = b then p else s.pairOf b := upd_get _ _ _ _

theorem laneOf_setLane (s : State) (l m : LaneNo) (r : Lane) :
    (s.setLane l r).laneOf m = if l = m then r else s.laneOf m := upd_get _ _ _ _

@[simp] theorem laneOf_setLane_self (s : State) (l : LaneNo) (r : Lane) : (s.setLane l r).laneOf l = r := by
  simp [laneOf_setLane]

theorem trimOf_setTrimOf (s : State) (x y : Crane) (t : Trim) :
    (s.setTrimOf x t).trimOf y = if x = y then t else s.trimOf y := upd_get _ _ _ _

@[simp] theorem trimOf_setTrimOf_self (s : State) (x : Crane) (t : Trim) : (s.setTrimOf x t).trimOf x = t := by
  simp [trimOf_setTrimOf]

theorem silenceOf_setSilence (s : State) (x y : Crane) (n : Nat) :
    (s.setSilence x n).silenceOf y = if x = y then n else s.silenceOf y := upd_get _ _ _ _

@[simp] theorem silenceOf_setSilence_self (s : State) (x : Crane) (n : Nat) : (s.setSilence x n).silenceOf x = n := by
  simp [silenceOf_setSilence]

/-! ## The reads an update of another block leaves -/

@[simp] theorem spanOf_setCrane (s : State) (x : Crane) (c : CraneCtx) (y : Crane) : (s.setCrane x c).spanOf y = s.spanOf y := rfl
@[simp] theorem pairOf_setCrane (s : State) (x : Crane) (c : CraneCtx) (y : Aisle) : (s.setCrane x c).pairOf y = s.pairOf y := rfl
@[simp] theorem geometryOf_setCrane (s : State) (x : Crane) (c : CraneCtx) (y : Aisle) : (s.setCrane x c).geometryOf y = s.geometryOf y := rfl
@[simp] theorem policyOf_setCrane (s : State) (x : Crane) (c : CraneCtx) (y : Aisle) : (s.setCrane x c).policyOf y = s.policyOf y := rfl
@[simp] theorem trimOf_setCrane (s : State) (x : Crane) (c : CraneCtx) (y : Crane) : (s.setCrane x c).trimOf y = s.trimOf y := rfl
@[simp] theorem laneOf_setCrane (s : State) (x : Crane) (c : CraneCtx) (y : LaneNo) : (s.setCrane x c).laneOf y = s.laneOf y := rfl
@[simp] theorem silenceOf_setCrane (s : State) (x : Crane) (c : CraneCtx) (y : Crane) : (s.setCrane x c).silenceOf y = s.silenceOf y := rfl
@[simp] theorem aisleHeld_setCrane (s : State) (x : Crane) (c : CraneCtx) (y : Aisle) : (s.setCrane x c).aisleHeld y = s.aisleHeld y := rfl

@[simp] theorem spanOf_modCrane (s : State) (x : Crane) (f : CraneCtx → CraneCtx) (y : Crane) : (s.modCrane x f).spanOf y = s.spanOf y := rfl
@[simp] theorem pairOf_modCrane (s : State) (x : Crane) (f : CraneCtx → CraneCtx) (y : Aisle) : (s.modCrane x f).pairOf y = s.pairOf y := rfl
@[simp] theorem geometryOf_modCrane (s : State) (x : Crane) (f : CraneCtx → CraneCtx) (y : Aisle) : (s.modCrane x f).geometryOf y = s.geometryOf y := rfl
@[simp] theorem policyOf_modCrane (s : State) (x : Crane) (f : CraneCtx → CraneCtx) (y : Aisle) : (s.modCrane x f).policyOf y = s.policyOf y := rfl
@[simp] theorem trimOf_modCrane (s : State) (x : Crane) (f : CraneCtx → CraneCtx) (y : Crane) : (s.modCrane x f).trimOf y = s.trimOf y := rfl
@[simp] theorem laneOf_modCrane (s : State) (x : Crane) (f : CraneCtx → CraneCtx) (y : LaneNo) : (s.modCrane x f).laneOf y = s.laneOf y := rfl
@[simp] theorem silenceOf_modCrane (s : State) (x : Crane) (f : CraneCtx → CraneCtx) (y : Crane) : (s.modCrane x f).silenceOf y = s.silenceOf y := rfl
@[simp] theorem aisleHeld_modCrane (s : State) (x : Crane) (f : CraneCtx → CraneCtx) (y : Aisle) : (s.modCrane x f).aisleHeld y = s.aisleHeld y := rfl

@[simp] theorem spanOf_modOrder (s : State) (x : Crane) (f : Order → Order) (y : Crane) : (s.modOrder x f).spanOf y = s.spanOf y := rfl
@[simp] theorem pairOf_modOrder (s : State) (x : Crane) (f : Order → Order) (y : Aisle) : (s.modOrder x f).pairOf y = s.pairOf y := rfl
@[simp] theorem geometryOf_modOrder (s : State) (x : Crane) (f : Order → Order) (y : Aisle) : (s.modOrder x f).geometryOf y = s.geometryOf y := rfl
@[simp] theorem policyOf_modOrder (s : State) (x : Crane) (f : Order → Order) (y : Aisle) : (s.modOrder x f).policyOf y = s.policyOf y := rfl
@[simp] theorem trimOf_modOrder (s : State) (x : Crane) (f : Order → Order) (y : Crane) : (s.modOrder x f).trimOf y = s.trimOf y := rfl
@[simp] theorem laneOf_modOrder (s : State) (x : Crane) (f : Order → Order) (y : LaneNo) : (s.modOrder x f).laneOf y = s.laneOf y := rfl
@[simp] theorem silenceOf_modOrder (s : State) (x : Crane) (f : Order → Order) (y : Crane) : (s.modOrder x f).silenceOf y = s.silenceOf y := rfl
@[simp] theorem aisleHeld_modOrder (s : State) (x : Crane) (f : Order → Order) (y : Aisle) : (s.modOrder x f).aisleHeld y = s.aisleHeld y := rfl

@[simp] theorem spanOf_setCraneState (s : State) (x : Crane) (st : CraneState) (y : Crane) : (s.setCraneState x st).spanOf y = s.spanOf y := rfl
@[simp] theorem pairOf_setCraneState (s : State) (x : Crane) (st : CraneState) (y : Aisle) : (s.setCraneState x st).pairOf y = s.pairOf y := rfl
@[simp] theorem geometryOf_setCraneState (s : State) (x : Crane) (st : CraneState) (y : Aisle) : (s.setCraneState x st).geometryOf y = s.geometryOf y := rfl
@[simp] theorem policyOf_setCraneState (s : State) (x : Crane) (st : CraneState) (y : Aisle) : (s.setCraneState x st).policyOf y = s.policyOf y := rfl
@[simp] theorem trimOf_setCraneState (s : State) (x : Crane) (st : CraneState) (y : Crane) : (s.setCraneState x st).trimOf y = s.trimOf y := rfl
@[simp] theorem laneOf_setCraneState (s : State) (x : Crane) (st : CraneState) (y : LaneNo) : (s.setCraneState x st).laneOf y = s.laneOf y := rfl
@[simp] theorem silenceOf_setCraneState (s : State) (x : Crane) (st : CraneState) (y : Crane) : (s.setCraneState x st).silenceOf y = s.silenceOf y := rfl
@[simp] theorem aisleHeld_setCraneState (s : State) (x : Crane) (st : CraneState) (y : Aisle) : (s.setCraneState x st).aisleHeld y = s.aisleHeld y := rfl

@[simp] theorem spanOf_anomaly (s : State) (x : Crane) (y : Crane) : (s.anomaly x).spanOf y = s.spanOf y := rfl
@[simp] theorem pairOf_anomaly (s : State) (x : Crane) (y : Aisle) : (s.anomaly x).pairOf y = s.pairOf y := rfl
@[simp] theorem geometryOf_anomaly (s : State) (x : Crane) (y : Aisle) : (s.anomaly x).geometryOf y = s.geometryOf y := rfl
@[simp] theorem policyOf_anomaly (s : State) (x : Crane) (y : Aisle) : (s.anomaly x).policyOf y = s.policyOf y := rfl
@[simp] theorem trimOf_anomaly (s : State) (x : Crane) (y : Crane) : (s.anomaly x).trimOf y = s.trimOf y := rfl
@[simp] theorem laneOf_anomaly (s : State) (x : Crane) (y : LaneNo) : (s.anomaly x).laneOf y = s.laneOf y := rfl
@[simp] theorem silenceOf_anomaly (s : State) (x : Crane) (y : Crane) : (s.anomaly x).silenceOf y = s.silenceOf y := rfl
@[simp] theorem aisleHeld_anomaly (s : State) (x : Crane) (y : Aisle) : (s.anomaly x).aisleHeld y = s.aisleHeld y := rfl

@[simp] theorem crane_setSpan (s : State) (x : Crane) (sp : Span) (y : Crane) : (s.setSpan x sp).crane y = s.crane y := rfl
@[simp] theorem geometryOf_setSpan (s : State) (x : Crane) (sp : Span) (y : Aisle) : (s.setSpan x sp).geometryOf y = s.geometryOf y := rfl
@[simp] theorem policyOf_setSpan (s : State) (x : Crane) (sp : Span) (y : Aisle) : (s.setSpan x sp).policyOf y = s.policyOf y := rfl
@[simp] theorem trimOf_setSpan (s : State) (x : Crane) (sp : Span) (y : Crane) : (s.setSpan x sp).trimOf y = s.trimOf y := rfl
@[simp] theorem laneOf_setSpan (s : State) (x : Crane) (sp : Span) (y : LaneNo) : (s.setSpan x sp).laneOf y = s.laneOf y := rfl
@[simp] theorem silenceOf_setSpan (s : State) (x : Crane) (sp : Span) (y : Crane) : (s.setSpan x sp).silenceOf y = s.silenceOf y := rfl
@[simp] theorem aisleHeld_setSpan (s : State) (x : Crane) (sp : Span) (y : Aisle) : (s.setSpan x sp).aisleHeld y = s.aisleHeld y := rfl

@[simp] theorem crane_setPair (s : State) (a : Aisle) (p : Option YieldPair) (y : Crane) : (s.setPair a p).crane y = s.crane y := rfl
@[simp] theorem geometryOf_setPair (s : State) (a : Aisle) (p : Option YieldPair) (y : Aisle) : (s.setPair a p).geometryOf y = s.geometryOf y := rfl
@[simp] theorem policyOf_setPair (s : State) (a : Aisle) (p : Option YieldPair) (y : Aisle) : (s.setPair a p).policyOf y = s.policyOf y := rfl
@[simp] theorem trimOf_setPair (s : State) (a : Aisle) (p : Option YieldPair) (y : Crane) : (s.setPair a p).trimOf y = s.trimOf y := rfl
@[simp] theorem laneOf_setPair (s : State) (a : Aisle) (p : Option YieldPair) (y : LaneNo) : (s.setPair a p).laneOf y = s.laneOf y := rfl
@[simp] theorem silenceOf_setPair (s : State) (a : Aisle) (p : Option YieldPair) (y : Crane) : (s.setPair a p).silenceOf y = s.silenceOf y := rfl
@[simp] theorem aisleHeld_setPair (s : State) (a : Aisle) (p : Option YieldPair) (y : Aisle) : (s.setPair a p).aisleHeld y = s.aisleHeld y := rfl

@[simp] theorem crane_setTable (s : State) (t : List Entry) (y : Crane) : (s.setTable t).crane y = s.crane y := rfl
@[simp] theorem spanOf_setTable (s : State) (t : List Entry) (y : Crane) : (s.setTable t).spanOf y = s.spanOf y := rfl
@[simp] theorem pairOf_setTable (s : State) (t : List Entry) (y : Aisle) : (s.setTable t).pairOf y = s.pairOf y := rfl
@[simp] theorem geometryOf_setTable (s : State) (t : List Entry) (y : Aisle) : (s.setTable t).geometryOf y = s.geometryOf y := rfl
@[simp] theorem policyOf_setTable (s : State) (t : List Entry) (y : Aisle) : (s.setTable t).policyOf y = s.policyOf y := rfl
@[simp] theorem trimOf_setTable (s : State) (t : List Entry) (y : Crane) : (s.setTable t).trimOf y = s.trimOf y := rfl
@[simp] theorem laneOf_setTable (s : State) (t : List Entry) (y : LaneNo) : (s.setTable t).laneOf y = s.laneOf y := rfl
@[simp] theorem silenceOf_setTable (s : State) (t : List Entry) (y : Crane) : (s.setTable t).silenceOf y = s.silenceOf y := rfl
@[simp] theorem aisleHeld_setTable (s : State) (t : List Entry) (y : Aisle) : (s.setTable t).aisleHeld y = s.aisleHeld y := rfl

@[simp] theorem crane_setJobs (s : State) (js : List Job) (y : Crane) : (s.setJobs js).crane y = s.crane y := rfl
@[simp] theorem spanOf_setJobs (s : State) (js : List Job) (y : Crane) : (s.setJobs js).spanOf y = s.spanOf y := rfl
@[simp] theorem pairOf_setJobs (s : State) (js : List Job) (y : Aisle) : (s.setJobs js).pairOf y = s.pairOf y := rfl
@[simp] theorem geometryOf_setJobs (s : State) (js : List Job) (y : Aisle) : (s.setJobs js).geometryOf y = s.geometryOf y := rfl
@[simp] theorem policyOf_setJobs (s : State) (js : List Job) (y : Aisle) : (s.setJobs js).policyOf y = s.policyOf y := rfl
@[simp] theorem trimOf_setJobs (s : State) (js : List Job) (y : Crane) : (s.setJobs js).trimOf y = s.trimOf y := rfl
@[simp] theorem laneOf_setJobs (s : State) (js : List Job) (y : LaneNo) : (s.setJobs js).laneOf y = s.laneOf y := rfl
@[simp] theorem silenceOf_setJobs (s : State) (js : List Job) (y : Crane) : (s.setJobs js).silenceOf y = s.silenceOf y := rfl
@[simp] theorem aisleHeld_setJobs (s : State) (js : List Job) (y : Aisle) : (s.setJobs js).aisleHeld y = s.aisleHeld y := rfl

@[simp] theorem crane_modJobOf (s : State) (tag : Word32) (f : Job → Job) (y : Crane) : (s.modJobOf tag f).crane y = s.crane y := rfl
@[simp] theorem spanOf_modJobOf (s : State) (tag : Word32) (f : Job → Job) (y : Crane) : (s.modJobOf tag f).spanOf y = s.spanOf y := rfl
@[simp] theorem pairOf_modJobOf (s : State) (tag : Word32) (f : Job → Job) (y : Aisle) : (s.modJobOf tag f).pairOf y = s.pairOf y := rfl
@[simp] theorem geometryOf_modJobOf (s : State) (tag : Word32) (f : Job → Job) (y : Aisle) : (s.modJobOf tag f).geometryOf y = s.geometryOf y := rfl
@[simp] theorem policyOf_modJobOf (s : State) (tag : Word32) (f : Job → Job) (y : Aisle) : (s.modJobOf tag f).policyOf y = s.policyOf y := rfl
@[simp] theorem trimOf_modJobOf (s : State) (tag : Word32) (f : Job → Job) (y : Crane) : (s.modJobOf tag f).trimOf y = s.trimOf y := rfl
@[simp] theorem laneOf_modJobOf (s : State) (tag : Word32) (f : Job → Job) (y : LaneNo) : (s.modJobOf tag f).laneOf y = s.laneOf y := rfl
@[simp] theorem silenceOf_modJobOf (s : State) (tag : Word32) (f : Job → Job) (y : Crane) : (s.modJobOf tag f).silenceOf y = s.silenceOf y := rfl
@[simp] theorem aisleHeld_modJobOf (s : State) (tag : Word32) (f : Job → Job) (y : Aisle) : (s.modJobOf tag f).aisleHeld y = s.aisleHeld y := rfl

@[simp] theorem crane_setLane (s : State) (l : LaneNo) (r : Lane) (y : Crane) : (s.setLane l r).crane y = s.crane y := rfl
@[simp] theorem spanOf_setLane (s : State) (l : LaneNo) (r : Lane) (y : Crane) : (s.setLane l r).spanOf y = s.spanOf y := rfl
@[simp] theorem pairOf_setLane (s : State) (l : LaneNo) (r : Lane) (y : Aisle) : (s.setLane l r).pairOf y = s.pairOf y := rfl
@[simp] theorem geometryOf_setLane (s : State) (l : LaneNo) (r : Lane) (y : Aisle) : (s.setLane l r).geometryOf y = s.geometryOf y := rfl
@[simp] theorem policyOf_setLane (s : State) (l : LaneNo) (r : Lane) (y : Aisle) : (s.setLane l r).policyOf y = s.policyOf y := rfl
@[simp] theorem trimOf_setLane (s : State) (l : LaneNo) (r : Lane) (y : Crane) : (s.setLane l r).trimOf y = s.trimOf y := rfl
@[simp] theorem silenceOf_setLane (s : State) (l : LaneNo) (r : Lane) (y : Crane) : (s.setLane l r).silenceOf y = s.silenceOf y := rfl
@[simp] theorem aisleHeld_setLane (s : State) (l : LaneNo) (r : Lane) (y : Aisle) : (s.setLane l r).aisleHeld y = s.aisleHeld y := rfl

@[simp] theorem crane_setTrimOf (s : State) (x : Crane) (t : Trim) (y : Crane) : (s.setTrimOf x t).crane y = s.crane y := rfl
@[simp] theorem spanOf_setTrimOf (s : State) (x : Crane) (t : Trim) (y : Crane) : (s.setTrimOf x t).spanOf y = s.spanOf y := rfl
@[simp] theorem pairOf_setTrimOf (s : State) (x : Crane) (t : Trim) (y : Aisle) : (s.setTrimOf x t).pairOf y = s.pairOf y := rfl
@[simp] theorem laneOf_setTrimOf (s : State) (x : Crane) (t : Trim) (y : LaneNo) : (s.setTrimOf x t).laneOf y = s.laneOf y := rfl
@[simp] theorem silenceOf_setTrimOf (s : State) (x : Crane) (t : Trim) (y : Crane) : (s.setTrimOf x t).silenceOf y = s.silenceOf y := rfl
@[simp] theorem aisleHeld_setTrimOf (s : State) (x : Crane) (t : Trim) (y : Aisle) : (s.setTrimOf x t).aisleHeld y = s.aisleHeld y := rfl

@[simp] theorem crane_setSilence (s : State) (x : Crane) (n : Nat) (y : Crane) : (s.setSilence x n).crane y = s.crane y := rfl
@[simp] theorem spanOf_setSilence (s : State) (x : Crane) (n : Nat) (y : Crane) : (s.setSilence x n).spanOf y = s.spanOf y := rfl
@[simp] theorem pairOf_setSilence (s : State) (x : Crane) (n : Nat) (y : Aisle) : (s.setSilence x n).pairOf y = s.pairOf y := rfl
@[simp] theorem geometryOf_setSilence (s : State) (x : Crane) (n : Nat) (y : Aisle) : (s.setSilence x n).geometryOf y = s.geometryOf y := rfl
@[simp] theorem policyOf_setSilence (s : State) (x : Crane) (n : Nat) (y : Aisle) : (s.setSilence x n).policyOf y = s.policyOf y := rfl
@[simp] theorem trimOf_setSilence (s : State) (x : Crane) (n : Nat) (y : Crane) : (s.setSilence x n).trimOf y = s.trimOf y := rfl
@[simp] theorem laneOf_setSilence (s : State) (x : Crane) (n : Nat) (y : LaneNo) : (s.setSilence x n).laneOf y = s.laneOf y := rfl

@[simp] theorem crane_setEngine (s : State) (e : Engine) (y : Crane) : (s.setEngine e).crane y = s.crane y := rfl
@[simp] theorem spanOf_setEngine (s : State) (e : Engine) (y : Crane) : (s.setEngine e).spanOf y = s.spanOf y := rfl
@[simp] theorem pairOf_setEngine (s : State) (e : Engine) (y : Aisle) : (s.setEngine e).pairOf y = s.pairOf y := rfl
@[simp] theorem geometryOf_setEngine (s : State) (e : Engine) (y : Aisle) : (s.setEngine e).geometryOf y = s.geometryOf y := rfl
@[simp] theorem policyOf_setEngine (s : State) (e : Engine) (y : Aisle) : (s.setEngine e).policyOf y = s.policyOf y := rfl
@[simp] theorem trimOf_setEngine (s : State) (e : Engine) (y : Crane) : (s.setEngine e).trimOf y = s.trimOf y := rfl
@[simp] theorem laneOf_setEngine (s : State) (e : Engine) (y : LaneNo) : (s.setEngine e).laneOf y = s.laneOf y := rfl
@[simp] theorem silenceOf_setEngine (s : State) (e : Engine) (y : Crane) : (s.setEngine e).silenceOf y = s.silenceOf y := rfl
@[simp] theorem aisleHeld_setEngine (s : State) (e : Engine) (y : Aisle) : (s.setEngine e).aisleHeld y = s.aisleHeld y := rfl

@[simp] theorem crane_setPass (s : State) (p : Option Pass) (y : Crane) : (s.setPass p).crane y = s.crane y := rfl
@[simp] theorem spanOf_setPass (s : State) (p : Option Pass) (y : Crane) : (s.setPass p).spanOf y = s.spanOf y := rfl
@[simp] theorem pairOf_setPass (s : State) (p : Option Pass) (y : Aisle) : (s.setPass p).pairOf y = s.pairOf y := rfl
@[simp] theorem geometryOf_setPass (s : State) (p : Option Pass) (y : Aisle) : (s.setPass p).geometryOf y = s.geometryOf y := rfl
@[simp] theorem policyOf_setPass (s : State) (p : Option Pass) (y : Aisle) : (s.setPass p).policyOf y = s.policyOf y := rfl
@[simp] theorem trimOf_setPass (s : State) (p : Option Pass) (y : Crane) : (s.setPass p).trimOf y = s.trimOf y := rfl
@[simp] theorem laneOf_setPass (s : State) (p : Option Pass) (y : LaneNo) : (s.setPass p).laneOf y = s.laneOf y := rfl
@[simp] theorem silenceOf_setPass (s : State) (p : Option Pass) (y : Crane) : (s.setPass p).silenceOf y = s.silenceOf y := rfl
@[simp] theorem aisleHeld_setPass (s : State) (p : Option Pass) (y : Aisle) : (s.setPass p).aisleHeld y = s.aisleHeld y := rfl

@[simp] theorem crane_emit (s : State) (x : Crane) (frame : List Byte) (y : Crane) : (s.emit x frame).crane y = s.crane y := rfl
@[simp] theorem spanOf_emit (s : State) (x : Crane) (frame : List Byte) (y : Crane) : (s.emit x frame).spanOf y = s.spanOf y := rfl
@[simp] theorem pairOf_emit (s : State) (x : Crane) (frame : List Byte) (y : Aisle) : (s.emit x frame).pairOf y = s.pairOf y := rfl
@[simp] theorem geometryOf_emit (s : State) (x : Crane) (frame : List Byte) (y : Aisle) : (s.emit x frame).geometryOf y = s.geometryOf y := rfl
@[simp] theorem policyOf_emit (s : State) (x : Crane) (frame : List Byte) (y : Aisle) : (s.emit x frame).policyOf y = s.policyOf y := rfl
@[simp] theorem trimOf_emit (s : State) (x : Crane) (frame : List Byte) (y : Crane) : (s.emit x frame).trimOf y = s.trimOf y := rfl
@[simp] theorem laneOf_emit (s : State) (x : Crane) (frame : List Byte) (y : LaneNo) : (s.emit x frame).laneOf y = s.laneOf y := rfl
@[simp] theorem silenceOf_emit (s : State) (x : Crane) (frame : List Byte) (y : Crane) : (s.emit x frame).silenceOf y = s.silenceOf y := rfl
@[simp] theorem aisleHeld_emit (s : State) (x : Crane) (frame : List Byte) (y : Aisle) : (s.emit x frame).aisleHeld y = s.aisleHeld y := rfl

@[simp] theorem crane_setNotices (s : State) (p : Port) (u : NoticeUnit) (y : Crane) : (s.setNotices p u).crane y = s.crane y := rfl
@[simp] theorem spanOf_setNotices (s : State) (p : Port) (u : NoticeUnit) (y : Crane) : (s.setNotices p u).spanOf y = s.spanOf y := rfl
@[simp] theorem pairOf_setNotices (s : State) (p : Port) (u : NoticeUnit) (y : Aisle) : (s.setNotices p u).pairOf y = s.pairOf y := rfl
@[simp] theorem geometryOf_setNotices (s : State) (p : Port) (u : NoticeUnit) (y : Aisle) : (s.setNotices p u).geometryOf y = s.geometryOf y := rfl
@[simp] theorem policyOf_setNotices (s : State) (p : Port) (u : NoticeUnit) (y : Aisle) : (s.setNotices p u).policyOf y = s.policyOf y := rfl
@[simp] theorem trimOf_setNotices (s : State) (p : Port) (u : NoticeUnit) (y : Crane) : (s.setNotices p u).trimOf y = s.trimOf y := rfl
@[simp] theorem laneOf_setNotices (s : State) (p : Port) (u : NoticeUnit) (y : LaneNo) : (s.setNotices p u).laneOf y = s.laneOf y := rfl
@[simp] theorem silenceOf_setNotices (s : State) (p : Port) (u : NoticeUnit) (y : Crane) : (s.setNotices p u).silenceOf y = s.silenceOf y := rfl
@[simp] theorem aisleHeld_setNotices (s : State) (p : Port) (u : NoticeUnit) (y : Aisle) : (s.setNotices p u).aisleHeld y = s.aisleHeld y := rfl

@[simp] theorem geometryOf_setTrimOf (s : State) (x : Crane) (t : Trim) (y : Aisle) :
    (s.setTrimOf x t).geometryOf y = s.geometryOf y := rfl
@[simp] theorem policyOf_setTrimOf (s : State) (x : Crane) (t : Trim) (y : Aisle) :
    (s.setTrimOf x t).policyOf y = s.policyOf y := rfl
@[simp] theorem spanOf_setPair (s : State) (a : Aisle) (p : Option YieldPair) (y : Crane) :
    (s.setPair a p).spanOf y = s.spanOf y := rfl
@[simp] theorem pairOf_setSpan (s : State) (x : Crane) (sp : Span) (y : Aisle) :
    (s.setSpan x sp).pairOf y = s.pairOf y := rfl

end State

end Sys2Proof.Machine
end

