-- ==== Sys2Proof/Laws/Keeps.lean ====
section
/-! SUPPORT. What no effect of an event on jobs, spans, orders and the engine touches: the queue of commands, the clocks and
settings, the receivers; and the laws it keeps. -/

namespace Sys2Proof.Machine

/-- What the effects of an event leave of the reply stream: the replies as they were, with no frame in transmission replaced;
or the reply at the head in transmission, where nothing was (R178, R179). -/
def RepliesKept (p q : Port) : Prop :=
  (q.replies = p.replies ∧ (p.tx = none ∨ q.tx = p.tx))
    ∨ (p.tx = none ∧ ∃ r rest, p.replies = r :: rest ∧ q.replies = rest ∧ q.tx = some (.reply r))

theorem RepliesKept.refl (p : Port) : RepliesKept p p := .inl ⟨rfl, .inr rfl⟩

theorem RepliesKept.trans {p q r : Port} (h : RepliesKept p q) (k : RepliesKept q r) : RepliesKept p r := by
  obtain ⟨h1, h2⟩ | ⟨h1, a, rest, h2, h3, h4⟩ := h <;> obtain ⟨k1, k2⟩ | ⟨k1, b, more, k2, k3, k4⟩ := k
  · refine .inl ⟨k1.trans h1, ?_⟩
    rcases h2 with h2 | h2
    · exact .inl h2
    · rcases k2 with k2 | k2
      · exact .inl (h2 ▸ k2)
      · exact .inr (k2.trans h2)
  · refine .inr ⟨?_, b, more, h1 ▸ k2, k3, k4⟩
    rcases h2 with h2 | h2
    · exact h2
    · exact h2 ▸ k1
  · refine .inr ⟨h1, a, rest, h2, k1.trans h3, ?_⟩
    rcases k2 with k2 | k2
    · simp [h4] at k2
    · exact k2.trans h4
  · simp [h4] at k1

theorem RepliesKept.length_le {p q : Port} (h : RepliesKept p q) : q.replies.length ≤ p.replies.length := by
  obtain ⟨h, -⟩ | ⟨-, r, rest, h, k, -⟩ := h <;> simp [*]

/-- What every effect of an event of the store keeps of the state it starts from. -/
structure Keeps (s t : State) : Prop where
  pending : t.pending = s.pending
  sup : t.sup = s.sup
  cost : t.cost = { s.cost with trims := t.cost.trims }
  trims : s.trimsInLaw → t.trimsInLaw
  rx : t.port.rx = s.port.rx
  linkErrors : t.port.linkErrors = s.port.linkErrors
  lineRate : t.port.lineRate = s.port.lineRate
  replies : RepliesKept s.port t.port
  notices : s.noticesInLaw → t.noticesInLaw
  craneRx : t.lines.craneRx = s.lines.craneRx
  hostIn : t.lines.hostIn = s.lines.hostIn
  craneIn : t.lines.craneIn = s.lines.craneIn
  hostOut : t.lines.hostOut = s.lines.hostOut

namespace Keeps

theorem refl (s : State) : Keeps s s := by
  constructor <;> first | rfl | exact id | exact .refl _

theorem trans {s t u : State} (h : Keeps s t) (k : Keeps t u) : Keeps s u where
  pending := k.pending.trans h.pending
  sup := k.sup.trans h.sup
  cost := by rw [k.cost, h.cost]
  trims := fun x => k.trims (h.trims x)
  rx := k.rx.trans h.rx
  linkErrors := k.linkErrors.trans h.linkErrors
  lineRate := k.lineRate.trans h.lineRate
  replies := h.replies.trans k.replies
  notices := fun x => k.notices (h.notices x)
  craneRx := k.craneRx.trans h.craneRx
  hostIn := k.hostIn.trans h.hostIn
  craneIn := k.craneIn.trans h.craneIn
  hostOut := k.hostOut.trans h.hostOut

variable {s t : State}

/-! ## The single updates -/

theorem setCrane (h : Keeps s t) (x : Crane) (c : CraneCtx) : Keeps s (t.setCrane x c) :=
  h.trans ⟨rfl, rfl, rfl, id, rfl, rfl, rfl, .refl _, id, rfl, rfl, rfl, rfl⟩
theorem modCrane (h : Keeps s t) (x : Crane) (f : CraneCtx → CraneCtx) : Keeps s (t.modCrane x f) := h.setCrane _ _
theorem modOrder (h : Keeps s t) (x : Crane) (f : Order → Order) : Keeps s (t.modOrder x f) := h.modCrane _ _
theorem setCraneState (h : Keeps s t) (x : Crane) (st : CraneState) : Keeps s (t.setCraneState x st) := h.modCrane _ _
theorem anomaly (h : Keeps s t) (x : Crane) : Keeps s (t.anomaly x) := h.modCrane _ _
theorem setSpan (h : Keeps s t) (x : Crane) (sp : Span) : Keeps s (t.setSpan x sp) :=
  h.trans ⟨rfl, rfl, rfl, id, rfl, rfl, rfl, .refl _, id, rfl, rfl, rfl, rfl⟩
theorem setPair (h : Keeps s t) (a : Aisle) (p : Option YieldPair) : Keeps s (t.setPair a p) :=
  h.trans ⟨rfl, rfl, rfl, id, rfl, rfl, rfl, .refl _, id, rfl, rfl, rfl, rfl⟩
theorem setTable (h : Keeps s t) (u : List Entry) : Keeps s (t.setTable u) :=
  h.trans ⟨rfl, rfl, rfl, id, rfl, rfl, rfl, .refl _, id, rfl, rfl, rfl, rfl⟩
theorem setJobs (h : Keeps s t) (js : List Job) : Keeps s (t.setJobs js) :=
  h.trans ⟨rfl, rfl, rfl, id, rfl, rfl, rfl, .refl _, id, rfl, rfl, rfl, rfl⟩
theorem modJobOf (h : Keeps s t) (tag : Word32) (f : Job → Job) : Keeps s (t.modJobOf tag f) := h.setJobs _
theorem setLane (h : Keeps s t) (l : LaneNo) (r : Lane) : Keeps s (t.setLane l r) :=
  h.trans ⟨rfl, rfl, rfl, id, rfl, rfl, rfl, .refl _, id, rfl, rfl, rfl, rfl⟩
theorem setEngine (h : Keeps s t) (e : Engine) : Keeps s (t.setEngine e) :=
  h.trans ⟨rfl, rfl, rfl, id, rfl, rfl, rfl, .refl _, id, rfl, rfl, rfl, rfl⟩
theorem setPass (h : Keeps s t) (p : Option Pass) : Keeps s (t.setPass p) :=
  h.trans ⟨rfl, rfl, rfl, id, rfl, rfl, rfl, .refl _, id, rfl, rfl, rfl, rfl⟩
theorem emit (h : Keeps s t) (x : Crane) (f : List Byte) : Keeps s (t.emit x f) :=
  h.trans ⟨rfl, rfl, rfl, id, rfl, rfl, rfl, .refl _, id, rfl, rfl, rfl, rfl⟩
theorem withOrders (h : Keeps s t) (o : OrderUnit) : Keeps s { t with orders := o } :=
  h.trans ⟨rfl, rfl, rfl, id, rfl, rfl, rfl, .refl _, id, rfl, rfl, rfl, rfl⟩
theorem withPool (h : Keeps s t) (p : Pool) : Keeps s { t with pool := p } :=
  h.trans ⟨rfl, rfl, rfl, id, rfl, rfl, rfl, .refl _, id, rfl, rfl, rfl, rfl⟩
theorem withEngine (h : Keeps s t) (e : Engine) : Keeps s { t with engine := e } :=
  h.trans ⟨rfl, rfl, rfl, id, rfl, rfl, rfl, .refl _, id, rfl, rfl, rfl, rfl⟩

/-- A trim within its law written. -/
theorem setTrimOf (h : Keeps s t) (x : Crane) (r : Trim) (hr : t.trimsInLaw → 512 ≤ r.trim ∧ r.trim ≤ 2048) :
    Keeps s (t.setTrimOf x r) :=
  h.trans
    { pending := rfl, sup := rfl, cost := rfl, rx := rfl, linkErrors := rfl, lineRate := rfl, replies := .refl _
      notices := id, craneRx := rfl, hostIn := rfl, craneIn := rfl, hostOut := rfl
      trims := fun k y => by
        rw [State.trimOf_setTrimOf]
        split
        · exact hr k
        · exact k y }

/-- A fold of effects that each keep. -/
theorem foldl {α : Type} {f : State → α → State} (hf : ∀ u a, Keeps u (f u a)) :
    ∀ (l : List α) {t : State}, Keeps s t → Keeps s (l.foldl f t)
  | [], _, h => h
  | a :: l, _, h => foldl hf l (h.trans (hf _ a))

end Keeps

/-! ## The notice unit and the transmitter -/

theorem NoticeUnit.modClass_queue (u : NoticeUnit) (k : Fin 11) (f : ClassRecord → ClassRecord) :
    (u.modClass k f).queue = u.queue := rfl

theorem withoutYoungest_length (level : Nat) (q : List Notice) {e : Notice} (h : youngestOf level q = some e) :
    (withoutYoungest level q).length = q.length - 1 := by
  unfold youngestOf at h
  unfold withoutYoungest
  have hm := List.mem_of_find?_eq_some h
  have hp := List.find?_some h
  rw [List.length_reverse, List.length_eraseP_of_mem hm hp, List.length_reverse]

/-- The queue keeps its bound of 32 when a notice is offered to it (R183). -/
theorem NoticeUnit.offer_bound (u : NoticeUnit) (n : Notice) (h : u.queue.length ≤ 32) :
    (u.offer n).queue.length ≤ 32 := by
  unfold NoticeUnit.offer Config.noticeQueueSize
  split
  · simp; omega
  · dsimp only
    split
    · split
      · rename_i e he
        rw [NoticeUnit.modClass_queue]
        have := withoutYoungest_length _ _ he
        simp [this]; omega
      · exact h
    · exact h

theorem NoticeUnit.record_bound (u : NoticeUnit) (e : Event) (c : Word32) (h : u.queue.length ≤ 32) :
    (u.record e c).queue.length ≤ 32 := by
  unfold NoticeUnit.record
  dsimp only
  split
  · exact NoticeUnit.offer_bound _ _ h
  · exact h

theorem NoticeUnit.sent_bound (u : NoticeUnit) (n : Notice) : (u.sent n).queue.length ≤ u.queue.length := by
  unfold NoticeUnit.sent
  dsimp only
  split
  · rw [NoticeUnit.modClass_queue]; exact List.length_eraseP_le
  · exact List.length_eraseP_le

/-- What the transmitter's start can do: nothing, the reply at the head of the stream, or the notice the queue selects. -/
theorem startTx_cases (p : Port) (u : NoticeUnit) :
    startTx p u = (p, u) ∨ (∃ r, p.tx = none ∧ p.replies.head? = some r ∧ startTx p u = (startReply p r, u))
      ∨ (∃ n, p.tx = none ∧ u.next = some n ∧ startTx p u = (startNotice p n, u.sent n)) := by
  unfold startTx
  repeat' split
  all_goals simp_all

namespace Keeps

variable {s t : State}

theorem transmit (h : Keeps s t) : Keeps s t.transmit := by
  refine h.trans ?_
  unfold State.transmit
  rcases startTx_cases t.port t.notices with e | ⟨r, free, hr, e⟩ | ⟨n, free, _, e⟩ <;> rw [e]
  · exact Keeps.refl _
  · exact ⟨rfl, rfl, rfl, id, rfl, rfl, rfl, .inr ⟨free, r, _, List.eq_cons_of_mem_head? hr, rfl, rfl⟩, id, rfl, rfl, rfl,
      rfl⟩
  · exact ⟨rfl, rfl, rfl, id, rfl, rfl, rfl, .inl ⟨rfl, .inl free⟩, fun k => (NoticeUnit.sent_bound _ _).trans k, rfl, rfl, rfl,
      rfl⟩

theorem raise (h : Keeps s t) (e : Event) : Keeps s (t.raise e) := by
  unfold State.raise
  refine transmit (h.trans ?_)
  exact ⟨rfl, rfl, rfl, id, rfl, rfl, rfl, .refl _, fun k => NoticeUnit.record_bound _ _ _ k, rfl, rfl, rfl, rfl⟩

theorem holdChanged (h : Keeps s t) : Keeps s t.holdChanged := h.raise _

theorem craneStateEvent (h : Keeps s t) (x : Crane) (c : StateCause) : Keeps s (t.craneStateEvent x c) :=
  (h.modCrane _ _).raise _

end Keeps

end Sys2Proof.Machine
end

