-- ==== Sys2Proof/Laws/KeepsOps.lean ====
section
/-! SUPPORT. Every shared operation of an event of the store keeps what `Keeps` says: spans, engine, jobs, orders, crane
records, passes. -/

namespace Sys2Proof.Machine

/-- The trim after an update lies within its law (R94). -/
theorem updatedTrim_bounds (t : Trim) (h : 512 ≤ t.trim ∧ t.trim ≤ 2048) :
    512 ≤ State.updatedTrim t ∧ State.updatedTrim t ≤ 2048 := by
  unfold State.updatedTrim clamp Config.trimLow Config.trimHigh
  split
  · exact h
  · omega

namespace Keeps

variable {s t : State}

theorem ite {c : Prop} [Decidable c] {a b : State} (ha : Keeps s a) (hb : Keeps s b) :
    Keeps s (if c then a else b) := by
  split
  · exact ha
  · exact hb

theorem setPosition (h : Keeps s t) (x : Crane) (b l : Nat) : Keeps s (t.setPosition x b l) := by
  unfold State.setPosition
  try dsimp only
  repeat' first
    | with_reducible exact h
    | with_reducible refine Keeps.modCrane ?_ _ _

theorem restSpan (h : Keeps s t) (x : Crane) : Keeps s (t.restSpan x) := by
  unfold State.restSpan
  try dsimp only
  repeat' first
    | with_reducible exact h
    | with_reducible refine Keeps.setSpan ?_ _ _
    | split

theorem takeInRange (h : Keeps s t) (x : Crane) (b l : Nat) : Keeps s (t.takeInRange x b l) := by
  unfold State.takeInRange
  try dsimp only
  repeat' first
    | with_reducible exact h
    | with_reducible refine Keeps.ite ?_ ?_
    | with_reducible refine Keeps.setPosition ?_ _ _ _
    | with_reducible refine Keeps.setSpan ?_ _ _
    | with_reducible refine Keeps.anomaly ?_ _
    | split

theorem reportRange (h : Keeps s t) (x : Crane) (b l : Nat) : Keeps s (t.reportRange x b l) := by
  unfold State.reportRange
  try dsimp only
  repeat' first
    | with_reducible exact h
    | with_reducible refine Keeps.ite ?_ ?_
    | with_reducible refine Keeps.anomaly ?_ _

theorem takePosition (h : Keeps s t) (x : Crane) (b l : Nat) : Keeps s (t.takePosition x b l) := by
  unfold State.takePosition
  try dsimp only
  repeat' first
    | with_reducible exact h
    | with_reducible refine Keeps.reportRange ?_ _ _ _
    | with_reducible refine Keeps.takeInRange ?_ _ _ _
    | with_reducible refine Keeps.restSpan ?_ _

theorem loseSight (h : Keeps s t) (x : Crane) : Keeps s (t.loseSight x) := by
  unfold State.loseSight
  try dsimp only
  repeat' first
    | with_reducible exact h
    | with_reducible refine Keeps.setSpan ?_ _ _
    | with_reducible refine Keeps.modCrane ?_ _ _

theorem placeOrder (h : Keeps s t) (x : Crane) (o : Order) : Keeps s (t.placeOrder x o) :=
  (h.modCrane _ _).withOrders _

theorem sendOrder (h : Keeps s t) (x : Crane) : Keeps s (t.sendOrder x) := by
  unfold State.sendOrder
  try dsimp only
  repeat' first
    | with_reducible exact h
    | with_reducible refine Keeps.emit ?_ _ _
    | with_reducible refine Keeps.setCraneState ?_ _ _
    | with_reducible refine Keeps.modOrder ?_ _ _
    | split

theorem claimSpan (h : Keeps s t) (x : Crane) (p : Option Position) (ps : List Place) : Keeps s (t.claimSpan x p ps) := by
  unfold State.claimSpan
  try dsimp only
  repeat' first
    | with_reducible exact h
    | with_reducible refine Keeps.setSpan ?_ _ _
    | split

theorem createHome (h : Keeps s t) (x : Crane) : Keeps s (t.createHome x) := by
  unfold State.createHome
  try dsimp only
  repeat' first
    | with_reducible exact h
    | with_reducible refine Keeps.claimSpan ?_ _ _ _
    | with_reducible refine Keeps.sendOrder ?_ _
    | with_reducible refine Keeps.placeOrder ?_ _ _
    | with_reducible refine Keeps.modCrane ?_ _ _

theorem startPass (h : Keeps s t) (x : Crane) (i : Nat) (n : Bool) : Keeps s (t.startPass x i n) := by
  unfold State.startPass
  try dsimp only
  repeat' first
    | with_reducible exact h
    | with_reducible refine Keeps.setPass ?_ _

theorem dequeue (h : Keeps s t) (x : Crane) : Keeps s (t.dequeue x) := by
  unfold State.dequeue
  try dsimp only
  repeat' first
    | with_reducible exact h
    | with_reducible refine Keeps.setEngine ?_ _

theorem engineTake : ∀ (n : Nat) {t : State}, Keeps s t → Keeps s (State.engineTake n t)
  | 0, _, h => h
  | n + 1, t, h => by
    unfold State.engineTake
    split
    · split
      · exact engineTake n ((h.dequeue _).createHome _)
      · exact (h.dequeue _).startPass _ _ _
    · exact h

theorem engineRun (h : Keeps s t) : Keeps s t.engineRun := engineTake _ h

theorem enqueue (h : Keeps s t) (x : Crane) : Keeps s (t.enqueue x) := by
  unfold State.enqueue
  try dsimp only
  repeat' first
    | with_reducible exact h
    | with_reducible refine Keeps.engineRun ?_
    | with_reducible refine Keeps.setEngine ?_ _
    | with_reducible refine Keeps.setCraneState ?_ _ _

theorem noteTrigger (h : Keeps s t) (x : Crane) : Keeps s (t.noteTrigger x) := by
  unfold State.noteTrigger
  try dsimp only
  repeat' first
    | with_reducible exact h
    | with_reducible refine Keeps.ite ?_ ?_
    | with_reducible refine Keeps.setPass ?_ _
    | split

theorem trigger (h : Keeps s t) (x : Crane) : Keeps s (t.trigger x) := by
  unfold State.trigger
  try dsimp only
  repeat' first
    | with_reducible exact h
    | with_reducible refine Keeps.ite ?_ ?_
    | with_reducible refine Keeps.noteTrigger ?_ _
    | with_reducible refine Keeps.enqueue ?_ _
    | with_reducible refine Keeps.createHome ?_ _
    | split

theorem triggerAll (h : Keeps s t) (xs : List Crane) : Keeps s (t.triggerAll xs) :=
  Keeps.foldl (fun u x => (Keeps.refl u).trigger x) xs h

theorem triggerAisle (h : Keeps s t) (a : Aisle) : Keeps s (t.triggerAisle a) := by
  unfold State.triggerAisle
  try dsimp only
  repeat' first
    | with_reducible exact h
    | with_reducible refine Keeps.trigger ?_ _

theorem shrunkFrom (h : Keeps s t) (x : Crane) (old : Span) : Keeps s (t.shrunkFrom x old) := ite (h.trigger _) h

theorem changeSpan (h : Keeps s t) (x : Crane) (sp : Span) : Keeps s (t.changeSpan x sp) :=
  (h.setSpan _ _).shrunkFrom _ _

theorem reportPosition (h : Keeps s t) (x : Crane) (b l : Nat) : Keeps s (t.reportPosition x b l) :=
  (h.takePosition _ _ _).shrunkFrom _ _

theorem spanToPosition (h : Keeps s t) (x : Crane) : Keeps s (t.spanToPosition x) := by
  unfold State.spanToPosition
  try dsimp only
  repeat' first
    | with_reducible exact h
    | with_reducible refine Keeps.changeSpan ?_ _ _
    | split

theorem setIdle (h : Keeps s t) (x : Crane) : Keeps s (t.setIdle x) := by
  unfold State.setIdle
  try dsimp only
  repeat' first
    | with_reducible exact h
    | with_reducible refine Keeps.ite ?_ ?_
    | with_reducible refine Keeps.craneStateEvent ?_ _ _
    | with_reducible refine Keeps.setCraneState ?_ _ _

theorem idleTriggers (h : Keeps s t) (x : Crane) : Keeps s (t.idleTriggers x) := by
  unfold State.idleTriggers
  try dsimp only
  repeat' first
    | with_reducible exact h
    | with_reducible refine Keeps.trigger ?_ _

theorem becomeIdle (h : Keeps s t) (x : Crane) : Keeps s (t.becomeIdle x) := by
  unfold State.becomeIdle
  try dsimp only
  repeat' first
    | with_reducible exact h
    | with_reducible refine Keeps.idleTriggers ?_ _
    | with_reducible refine Keeps.setIdle ?_ _

theorem leaveEngine (h : Keeps s t) (x : Crane) : Keeps s (t.leaveEngine x) := by
  unfold State.leaveEngine
  try dsimp only
  repeat' first
    | with_reducible exact h
    | with_reducible refine Keeps.ite ?_ ?_
    | with_reducible refine Keeps.engineRun ?_
    | with_reducible refine Keeps.dequeue ?_ _
    | with_reducible refine Keeps.setPass ?_ _

theorem watch (h : Keeps s t) (m n : Nat) : Keeps s (t.watch m n) := by
  unfold State.watch
  try dsimp only
  repeat' first
    | with_reducible exact h
    | with_reducible refine Keeps.ite ?_ ?_
    | with_reducible refine Keeps.raise ?_ _
    | split

theorem lowerLane (h : Keeps s t) (l : Option (LaneNo × Word16)) : Keeps s (t.lowerLane l) := by
  unfold State.lowerLane
  try dsimp only
  repeat' first
    | with_reducible exact h
    | with_reducible refine Keeps.setLane ?_ _ _
    | split

theorem deliverOnly (h : Keeps s t) (l : LaneNo) (d : Word16) : Keeps s (t.deliverOnly l d) := by
  unfold State.deliverOnly
  try dsimp only
  repeat' first
    | with_reducible exact h
    | with_reducible refine Keeps.ite ?_ ?_
    | with_reducible refine Keeps.raise ?_ _
    | with_reducible refine Keeps.setLane ?_ _ _

theorem deliver (h : Keeps s t) (l : LaneNo) (d : Word16) : Keeps s (t.deliver l d) := by
  unfold State.deliver
  try dsimp only
  repeat' first
    | with_reducible exact h
    | with_reducible refine Keeps.ite ?_ ?_
    | with_reducible refine Keeps.deliverOnly ?_ _ _
    | with_reducible refine Keeps.triggerAll ?_ _

theorem removeJob (h : Keeps s t) (tag : Word32) (c : Bool) : Keeps s (t.removeJob tag c) := by
  unfold State.removeJob
  try dsimp only
  repeat' first
    | with_reducible exact h
    | with_reducible refine Keeps.ite ?_ ?_
    | with_reducible refine Keeps.lowerLane ?_ _
    | with_reducible refine Keeps.watch ?_ _ _
    | with_reducible refine Keeps.setJobs ?_ _
    | with_reducible refine Keeps.setTable ?_ _
    | split

theorem returnJob (h : Keeps s t) (tag : Word32) : Keeps s (t.returnJob tag) := by
  unfold State.returnJob
  try dsimp only
  repeat' first
    | with_reducible exact h
    | with_reducible refine Keeps.modJobOf ?_ _ _

theorem activateJob (h : Keeps s t) (tag : Word32) : Keeps s (t.activateJob tag) := by
  unfold State.activateJob
  try dsimp only
  repeat' first
    | with_reducible exact h
    | with_reducible refine Keeps.modJobOf ?_ _ _

theorem completeStore (h : Keeps s t) (tag : Word32) : Keeps s (t.completeStore tag) := by
  unfold State.completeStore
  try dsimp only
  repeat' first
    | with_reducible exact h
    | with_reducible refine Keeps.removeJob ?_ _ _
    | with_reducible refine Keeps.raise ?_ _
    | split

theorem completeRetrieve (h : Keeps s t) (tag : Word32) : Keeps s (t.completeRetrieve tag) := by
  unfold State.completeRetrieve
  try dsimp only
  repeat' first
    | with_reducible exact h
    | with_reducible refine Keeps.removeJob ?_ _ _
    | with_reducible refine Keeps.deliver ?_ _ _
    | with_reducible refine Keeps.raise ?_ _
    | split

theorem strandJob (h : Keeps s t) (tag : Word32) (x : Crane) : Keeps s (t.strandJob tag x) := by
  unfold State.strandJob
  try dsimp only
  repeat' first
    | with_reducible exact h
    | with_reducible refine Keeps.removeJob ?_ _ _
    | with_reducible refine Keeps.raise ?_ _

theorem relocationDone (h : Keeps s t) (tag : Word32) (r : Relocation) : Keeps s (t.relocationDone tag r) := by
  unfold State.relocationDone
  try dsimp only
  repeat' first
    | with_reducible exact h
    | with_reducible refine Keeps.raise ?_ _
    | with_reducible refine Keeps.setTable ?_ _

theorem relocationUndone (h : Keeps s t) (tag : Word32) : Keeps s (t.relocationUndone tag) := by
  unfold State.relocationUndone
  try dsimp only
  repeat' first
    | with_reducible exact h
    | with_reducible refine Keeps.setTable ?_ _

theorem declineJob (h : Keeps s t) (tag : Word32) (r : Byte) : Keeps s (t.declineJob tag r) := by
  unfold State.declineJob
  try dsimp only
  repeat' first
    | with_reducible exact h
    | with_reducible refine Keeps.ite ?_ ?_
    | with_reducible refine Keeps.removeJob ?_ _ _
    | with_reducible refine Keeps.raise ?_ _
    | with_reducible refine Keeps.modJobOf ?_ _ _
    | split

theorem revertEntries (h : Keeps s t) (o : Order) : Keeps s (t.revertEntries o) := by
  unfold State.revertEntries
  try dsimp only
  repeat' first
    | with_reducible exact h
    | with_reducible refine Keeps.setTable ?_ _

theorem returnJobs (h : Keeps s t) (o : Order) : Keeps s (t.returnJobs o) :=
  Keeps.foldl (fun u x => (Keeps.refl u).returnJob x) _ h

theorem activateJobs (h : Keeps s t) (o : Order) : Keeps s (t.activateJobs o) :=
  Keeps.foldl (fun u x => (Keeps.refl u).activateJob x) _ h

theorem endStore (h : Keeps s t) (o : Order) : Keeps s (t.endStore o) := by
  unfold State.endStore
  try dsimp only
  repeat' first
    | with_reducible exact h
    | with_reducible refine Keeps.completeStore ?_ _
    | split

theorem endRetrieve (h : Keeps s t) (o : Order) : Keeps s (t.endRetrieve o) := by
  unfold State.endRetrieve
  try dsimp only
  repeat' first
    | with_reducible exact h
    | with_reducible refine Keeps.relocationDone ?_ _ _
    | with_reducible refine Keeps.completeRetrieve ?_ _
    | split

theorem abandonStore (h : Keeps s t) (o : Order) (x : Crane) : Keeps s (t.abandonStore o x) := by
  unfold State.abandonStore
  try dsimp only
  repeat' first
    | with_reducible exact h
    | with_reducible refine Keeps.ite ?_ ?_
    | with_reducible refine Keeps.strandJob ?_ _ _
    | with_reducible refine Keeps.completeStore ?_ _
    | with_reducible refine Keeps.returnJob ?_ _
    | with_reducible refine Keeps.setTable ?_ _
    | split

theorem abandonRetrieve (h : Keeps s t) (o : Order) (x : Crane) : Keeps s (t.abandonRetrieve o x) := by
  unfold State.abandonRetrieve
  try dsimp only
  repeat' first
    | with_reducible exact h
    | with_reducible refine Keeps.ite ?_ ?_
    | with_reducible refine Keeps.relocationUndone ?_ _
    | with_reducible refine Keeps.relocationDone ?_ _ _
    | with_reducible refine Keeps.strandJob ?_ _ _
    | with_reducible refine Keeps.completeRetrieve ?_ _
    | with_reducible refine Keeps.returnJob ?_ _
    | split

theorem accumulate (h : Keeps s t) (x : Crane) (m n : Nat) : Keeps s (t.accumulate x m n) := by
  simp only [State.accumulate]
  split
  · refine (h.setTrimOf x _ fun k => ?_).raise _
    have := updatedTrim_bounds (State.accumulated (t.trimOf x) m n) (k x)
    exact this
  · exact h.setTrimOf x _ fun k => k x

theorem capture (h : Keeps s t) (x : Crane) : Keeps s (t.capture x) := by
  unfold State.capture
  try dsimp only
  repeat' first
    | with_reducible exact h
    | with_reducible refine Keeps.modOrder ?_ _ _

theorem markLegs (h : Keeps s t) (x : Crane) (k : Nat) : Keeps s (t.markLegs x k) := by
  unfold State.markLegs
  try dsimp only
  repeat' first
    | with_reducible exact h
    | with_reducible refine Keeps.modCrane ?_ _ _

theorem measureLeg (h : Keeps s t) (x : Crane) : Keeps s (t.measureLeg x) := by
  unfold State.measureLeg
  try dsimp only
  repeat' first
    | with_reducible exact h
    | with_reducible refine Keeps.ite ?_ ?_
    | with_reducible refine Keeps.markLegs ?_ _ _
    | with_reducible refine Keeps.capture ?_ _
    | with_reducible refine Keeps.accumulate ?_ _ _ _
    | with_reducible refine Keeps.modOrder ?_ _ _
    | split

theorem narrowSpan (h : Keeps s t) (x : Crane) : Keeps s (t.narrowSpan x) := by
  unfold State.narrowSpan
  try dsimp only
  repeat' first
    | with_reducible exact h
    | with_reducible refine Keeps.changeSpan ?_ _ _
    | split

theorem takeKindState (h : Keeps s t) (x : Crane) : Keeps s (t.takeKindState x) := by
  unfold State.takeKindState
  try dsimp only
  repeat' first
    | with_reducible exact h
    | with_reducible refine Keeps.ite ?_ ?_
    | with_reducible refine Keeps.craneStateEvent ?_ _ _
    | with_reducible refine Keeps.setCraneState ?_ _ _
    | split

theorem enterFaulted (h : Keeps s t) (x : Crane) (c : StateCause) : Keeps s (t.enterFaulted x c) := by
  unfold State.enterFaulted
  try dsimp only
  repeat' first
    | with_reducible exact h
    | with_reducible refine Keeps.craneStateEvent ?_ _ _
    | with_reducible refine Keeps.setCraneState ?_ _ _

theorem startOrder (h : Keeps s t) (x : Crane) (p : Bool) : Keeps s (t.startOrder x p) := by
  unfold State.startOrder
  try dsimp only
  repeat' first
    | with_reducible exact h
    | with_reducible refine Keeps.ite ?_ ?_
    | with_reducible refine Keeps.takeKindState ?_ _
    | with_reducible refine Keeps.capture ?_ _
    | with_reducible refine Keeps.activateJobs ?_ _
    | with_reducible refine Keeps.modOrder ?_ _ _
    | with_reducible refine Keeps.modCrane ?_ _ _
    | split

theorem startIfSent (h : Keeps s t) (x : Crane) : Keeps s (t.startIfSent x) := by
  unfold State.startIfSent
  try dsimp only
  repeat' first
    | with_reducible exact h
    | with_reducible refine Keeps.ite ?_ ?_
    | with_reducible refine Keeps.startOrder ?_ _ _
    | split

theorem suspendOrder (h : Keeps s t) (x : Crane) : Keeps s (t.suspendOrder x) := by
  unfold State.suspendOrder
  try dsimp only
  repeat' first
    | with_reducible exact h
    | with_reducible refine Keeps.modOrder ?_ _ _

theorem dropOrder (h : Keeps s t) (x : Crane) : Keeps s (t.dropOrder x) := by
  unfold State.dropOrder
  try dsimp only
  repeat' first
    | with_reducible exact h
    | with_reducible refine Keeps.modCrane ?_ _ _

theorem discardWaiting (h : Keeps s t) (x : Crane) : Keeps s (t.discardWaiting x) := by
  unfold State.discardWaiting
  try dsimp only
  repeat' first
    | with_reducible exact h
    | with_reducible refine Keeps.dropOrder ?_ _
    | with_reducible refine Keeps.returnJobs ?_ _
    | with_reducible refine Keeps.revertEntries ?_ _
    | with_reducible refine Keeps.spanToPosition ?_ _
    | with_reducible refine Keeps.setPair ?_ _ _
    | with_reducible refine Keeps.modOrder ?_ _ _
    | split

theorem releaseWaiting (h : Keeps s t) (w : Option Crane) : Keeps s (t.releaseWaiting w) := by
  unfold State.releaseWaiting
  try dsimp only
  repeat' first
    | with_reducible exact h
    | with_reducible refine Keeps.discardWaiting ?_ _
    | with_reducible refine Keeps.setIdle ?_ _
    | split

theorem releasedTriggers (h : Keeps s t) (w : Option Crane) : Keeps s (t.releasedTriggers w) := by
  unfold State.releasedTriggers
  try dsimp only
  repeat' first
    | with_reducible exact h
    | with_reducible refine Keeps.idleTriggers ?_ _
    | split

theorem failYield (h : Keeps s t) (y : Crane) : Keeps s (t.failYield y) := by
  unfold State.failYield
  try dsimp only
  repeat' first
    | with_reducible exact h
    | with_reducible refine Keeps.releasedTriggers ?_ _
    | with_reducible refine Keeps.releaseWaiting ?_ _

theorem idleAfter (h : Keeps s t) (w : Option Crane) (y : Crane) : Keeps s (t.idleAfter w y) := by
  unfold State.idleAfter
  try dsimp only
  repeat' first
    | with_reducible exact h
    | with_reducible refine Keeps.releasedTriggers ?_ _
    | with_reducible refine Keeps.idleTriggers ?_ _
    | with_reducible refine Keeps.setIdle ?_ _

theorem giveUp (h : Keeps s t) (x : Crane) : Keeps s (t.giveUp x) := by
  unfold State.giveUp
  try dsimp only
  repeat' first
    | with_reducible exact h
    | with_reducible refine Keeps.dropOrder ?_ _
    | with_reducible refine Keeps.abandonRetrieve ?_ _ _
    | with_reducible refine Keeps.abandonStore ?_ _ _
    | with_reducible refine Keeps.spanToPosition ?_ _
    | split

theorem orderLostIdle (h : Keeps s t) (x : Crane) : Keeps s (t.orderLostIdle x) := by
  unfold State.orderLostIdle
  try dsimp only
  repeat' first
    | with_reducible exact h
    | with_reducible refine Keeps.giveUp ?_ _
    | with_reducible refine Keeps.releasedTriggers ?_ _
    | with_reducible refine Keeps.releaseWaiting ?_ _
    | with_reducible refine Keeps.idleTriggers ?_ _
    | with_reducible refine Keeps.craneStateEvent ?_ _ _
    | with_reducible refine Keeps.setCraneState ?_ _ _

theorem orderLostSyncing (h : Keeps s t) (x : Crane) : Keeps s (t.orderLostSyncing x) := by
  unfold State.orderLostSyncing
  try dsimp only
  repeat' first
    | with_reducible exact h
    | with_reducible refine Keeps.giveUp ?_ _
    | with_reducible refine Keeps.releasedTriggers ?_ _
    | with_reducible refine Keeps.releaseWaiting ?_ _
    | with_reducible refine Keeps.loseSight ?_ _
    | with_reducible refine Keeps.craneStateEvent ?_ _ _
    | with_reducible refine Keeps.setCraneState ?_ _ _

theorem endDone (h : Keeps s t) (x : Crane) (w : Option Crane) : Keeps s (t.endDone x w) := by
  unfold State.endDone
  try dsimp only
  repeat' first
    | with_reducible exact h
    | with_reducible refine Keeps.idleAfter ?_ _ _
    | with_reducible refine Keeps.dropOrder ?_ _
    | with_reducible refine Keeps.spanToPosition ?_ _

theorem sendWaiting (h : Keeps s t) (x : Crane) : Keeps s (t.sendWaiting x) := by
  unfold State.sendWaiting
  try dsimp only
  repeat' first
    | with_reducible exact h
    | with_reducible refine Keeps.sendOrder ?_ _
    | with_reducible refine Keeps.setPair ?_ _ _

theorem endYield (h : Keeps s t) (x : Crane) : Keeps s (t.endYield x) := by
  unfold State.endYield
  try dsimp only
  repeat' first
    | with_reducible exact h
    | with_reducible refine Keeps.ite ?_ ?_
    | with_reducible refine Keeps.sendWaiting ?_ _
    | with_reducible refine Keeps.endDone ?_ _ _
    | with_reducible refine Keeps.idleAfter ?_ _ _
    | with_reducible refine Keeps.releaseWaiting ?_ _
    | with_reducible refine Keeps.dropOrder ?_ _
    | with_reducible refine Keeps.idleTriggers ?_ _
    | with_reducible refine Keeps.setIdle ?_ _
    | with_reducible refine Keeps.spanToPosition ?_ _
    | split

theorem endDeclined (h : Keeps s t) (x : Crane) (w : Option Crane) : Keeps s (t.endDeclined x w) := by
  unfold State.endDeclined
  try dsimp only
  repeat' first
    | with_reducible exact h
    | with_reducible refine Keeps.ite ?_ ?_
    | with_reducible refine Keeps.idleAfter ?_ _ _
    | with_reducible refine Keeps.releasedTriggers ?_ _
    | with_reducible refine Keeps.dropOrder ?_ _
    | with_reducible refine Keeps.spanToPosition ?_ _
    | with_reducible refine Keeps.modCrane ?_ _ _

theorem endRevoked (h : Keeps s t) (x : Crane) : Keeps s (t.endRevoked x) := by
  unfold State.endRevoked
  try dsimp only
  repeat' first
    | with_reducible exact h
    | with_reducible refine Keeps.ite ?_ ?_
    | with_reducible refine Keeps.dropOrder ?_ _
    | with_reducible refine Keeps.enterFaulted ?_ _ _
    | with_reducible refine Keeps.becomeIdle ?_ _
    | with_reducible refine Keeps.spanToPosition ?_ _
    | with_reducible refine Keeps.modCrane ?_ _ _

theorem clearFault (h : Keeps s t) (x : Crane) (c : StateCause) : Keeps s (t.clearFault x c) := by
  unfold State.clearFault
  try dsimp only
  repeat' first
    | with_reducible exact h
    | with_reducible refine Keeps.ite ?_ ?_
    | with_reducible refine Keeps.idleTriggers ?_ _
    | with_reducible refine Keeps.spanToPosition ?_ _
    | with_reducible refine Keeps.craneStateEvent ?_ _ _
    | with_reducible refine Keeps.setCraneState ?_ _ _
    | with_reducible refine Keeps.modOrder ?_ _ _
    | split

theorem expireAccept (h : Keeps s t) (x : Crane) : Keeps s (t.expireAccept x) := by
  unfold State.expireAccept
  try dsimp only
  repeat' first
    | with_reducible exact h
    | with_reducible refine Keeps.failYield ?_ _
    | with_reducible refine Keeps.emit ?_ _ _
    | with_reducible refine Keeps.modOrder ?_ _ _
    | split

theorem loseCrane (h : Keeps s t) (x : Crane) : Keeps s (t.loseCrane x) := by
  unfold State.loseCrane
  try dsimp only
  repeat' first
    | with_reducible exact h
    | with_reducible refine Keeps.ite ?_ ?_
    | with_reducible refine Keeps.failYield ?_ _
    | with_reducible refine Keeps.discardWaiting ?_ _
    | with_reducible refine Keeps.suspendOrder ?_ _
    | with_reducible refine Keeps.leaveEngine ?_ _
    | with_reducible refine Keeps.craneStateEvent ?_ _ _
    | with_reducible refine Keeps.setCraneState ?_ _ _
    | split

theorem unsettled (h : Keeps s t) (x : Crane) : Keeps s (t.unsettled x) := by
  unfold State.unsettled
  try dsimp only
  repeat' first
    | with_reducible exact h
    | with_reducible refine Keeps.enterFaulted ?_ _ _
    | with_reducible refine Keeps.craneStateEvent ?_ _ _
    | with_reducible refine Keeps.emit ?_ _ _
    | with_reducible refine Keeps.anomaly ?_ _
    | with_reducible refine Keeps.setCraneState ?_ _ _
    | split

theorem notTaken (h : Keeps s t) (x : Crane) : Keeps s (t.notTaken x) := by
  unfold State.notTaken
  try dsimp only
  repeat' first
    | with_reducible exact h
    | with_reducible refine Keeps.ite ?_ ?_
    | with_reducible refine Keeps.unsettled ?_ _
    | with_reducible refine Keeps.anomaly ?_ _

theorem takeAccept (h : Keeps s t) (x : Crane) (id : Word16) : Keeps s (t.takeAccept x id) := by
  unfold State.takeAccept
  try dsimp only
  repeat' first
    | with_reducible exact h
    | with_reducible refine Keeps.ite ?_ ?_
    | with_reducible refine Keeps.notTaken ?_ _
    | with_reducible refine Keeps.unsettled ?_ _
    | with_reducible refine Keeps.startOrder ?_ _ _
    | with_reducible refine Keeps.modOrder ?_ _ _
    | split

theorem declineJobs (h : Keeps s t) (o : Order) (r : Byte) : Keeps s (t.declineJobs o r) := by
  unfold State.declineJobs
  split
  · exact Keeps.foldl (fun u x => (Keeps.refl u).declineJob x r) _ (h.revertEntries o)
  · exact h

theorem declineOrder (h : Keeps s t) (x : Crane) (o : Order) (r : Byte) : Keeps s (t.declineOrder x o r) := by
  unfold State.declineOrder
  try dsimp only
  repeat' first
    | with_reducible exact h
    | with_reducible refine Keeps.declineJobs ?_ _ _
    | with_reducible refine Keeps.endDeclined ?_ _ _
    | with_reducible refine Keeps.releaseWaiting ?_ _

theorem takeDecline (h : Keeps s t) (x : Crane) (id : Word16) (r : Byte) : Keeps s (t.takeDecline x id r) := by
  unfold State.takeDecline
  try dsimp only
  repeat' first
    | with_reducible exact h
    | with_reducible refine Keeps.ite ?_ ?_
    | with_reducible refine Keeps.declineOrder ?_ _ _ _
    | with_reducible refine Keeps.notTaken ?_ _
    | split

theorem revokeOrder (h : Keeps s t) (x : Crane) (o : Order) : Keeps s (t.revokeOrder x o) := by
  unfold State.revokeOrder
  try dsimp only
  repeat' first
    | with_reducible exact h
    | with_reducible refine Keeps.ite ?_ ?_
    | with_reducible refine Keeps.endRevoked ?_ _
    | with_reducible refine Keeps.returnJobs ?_ _
    | with_reducible refine Keeps.revertEntries ?_ _
    | with_reducible refine Keeps.anomaly ?_ _

theorem takeRevoked (h : Keeps s t) (x : Crane) (id : Word16) (b : Bool) : Keeps s (t.takeRevoked x id b) := by
  unfold State.takeRevoked
  try dsimp only
  repeat' first
    | with_reducible exact h
    | with_reducible refine Keeps.ite ?_ ?_
    | with_reducible refine Keeps.revokeOrder ?_ _ _
    | with_reducible refine Keeps.notTaken ?_ _
    | with_reducible refine Keeps.startOrder ?_ _ _
    | split

theorem resumeLost (h : Keeps s t) (x : Crane) : Keeps s (t.resumeLost x) := by
  unfold State.resumeLost
  try dsimp only
  repeat' first
    | with_reducible exact h
    | with_reducible refine Keeps.ite ?_ ?_
    | with_reducible refine Keeps.startIfSent ?_ _
    | with_reducible refine Keeps.takeKindState ?_ _
    | with_reducible refine Keeps.modOrder ?_ _ _
    | split

theorem markLegDone (h : Keeps s t) (x : Crane) (o : Order) (i : Nat) (b l : Byte) : Keeps s (t.markLegDone x o i b l) := by
  unfold State.markLegDone
  try dsimp only
  repeat' first
    | with_reducible exact h
    | with_reducible refine Keeps.ite ?_ ?_
    | with_reducible refine Keeps.narrowSpan ?_ _
    | with_reducible refine Keeps.measureLeg ?_ _
    | with_reducible refine Keeps.markLegs ?_ _ _
    | with_reducible refine Keeps.capture ?_ _
    | with_reducible refine Keeps.reportPosition ?_ _ _ _
    | with_reducible refine Keeps.anomaly ?_ _

theorem takeLegDone (h : Keeps s t) (x : Crane) (id : Word16) (i : Nat) (b l : Byte) : Keeps s (t.takeLegDone x id i b l) := by
  unfold State.takeLegDone
  try dsimp only
  repeat' first
    | with_reducible exact h
    | with_reducible refine Keeps.ite ?_ ?_
    | with_reducible refine Keeps.markLegDone ?_ _ _ _ _ _
    | with_reducible refine Keeps.resumeLost ?_ _
    | with_reducible refine Keeps.unsettled ?_ _
    | with_reducible refine Keeps.startOrder ?_ _ _
    | with_reducible refine Keeps.reportPosition ?_ _ _ _
    | with_reducible refine Keeps.anomaly ?_ _
    | split

theorem finishOrder (h : Keeps s t) (x : Crane) (o : Order) (b l : Byte) : Keeps s (t.finishOrder x o b l) := by
  unfold State.finishOrder
  try dsimp only
  repeat' first
    | with_reducible exact h
    | with_reducible refine Keeps.endYield ?_ _
    | with_reducible refine Keeps.endDone ?_ _ _
    | with_reducible refine Keeps.markLegs ?_ _ _
    | with_reducible refine Keeps.endRetrieve ?_ _
    | with_reducible refine Keeps.endStore ?_ _
    | with_reducible refine Keeps.reportPosition ?_ _ _ _
    | split

theorem takeOrderDone (h : Keeps s t) (x : Crane) (id : Word16) (b l : Byte) : Keeps s (t.takeOrderDone x id b l) := by
  unfold State.takeOrderDone
  try dsimp only
  repeat' first
    | with_reducible exact h
    | with_reducible refine Keeps.ite ?_ ?_
    | with_reducible refine Keeps.finishOrder ?_ _ _ _ _
    | with_reducible refine Keeps.resumeLost ?_ _
    | with_reducible refine Keeps.unsettled ?_ _
    | with_reducible refine Keeps.startOrder ?_ _ _
    | with_reducible refine Keeps.reportPosition ?_ _ _ _
    | with_reducible refine Keeps.anomaly ?_ _
    | split

theorem faultWaiting (h : Keeps s t) (x : Crane) (b l : Byte) : Keeps s (t.faultWaiting x b l) := by
  unfold State.faultWaiting
  try dsimp only
  repeat' first
    | with_reducible exact h
    | with_reducible refine Keeps.discardWaiting ?_ _
    | with_reducible refine Keeps.reportPosition ?_ _ _ _
    | with_reducible refine Keeps.craneStateEvent ?_ _ _
    | with_reducible refine Keeps.setCraneState ?_ _ _

theorem applyFault (h : Keeps s t) (x : Crane) (k : Nat) : Keeps s (t.applyFault x k) := by
  unfold State.applyFault
  try dsimp only
  repeat' first
    | with_reducible exact h
    | with_reducible refine Keeps.ite ?_ ?_
    | with_reducible refine Keeps.failYield ?_ _
    | with_reducible refine Keeps.suspendOrder ?_ _
    | with_reducible refine Keeps.startIfSent ?_ _
    | with_reducible refine Keeps.enterFaulted ?_ _ _
    | with_reducible refine Keeps.markLegs ?_ _ _
    | with_reducible refine Keeps.leaveEngine ?_ _
    | with_reducible refine Keeps.spanToPosition ?_ _
    | split

theorem countAnomaly (h : Keeps s t) (x : Crane) (id : Word16) (k : Nat) : Keeps s (t.countAnomaly x id k) := by
  unfold State.countAnomaly
  split
  · exact ite h (h.anomaly _)
  · exact h

theorem nameAnomaly (h : Keeps s t) (x : Crane) (id : Word16) : Keeps s (t.nameAnomaly x id) := ite h (h.anomaly _)

theorem statusAnomalies (h : Keeps s t) (x : Crane) (m : StatusMode) (id : Word16) (k : Nat) :
    Keeps s (t.statusAnomalies x m id k) := by
  cases m
  · exact (h.countAnomaly _ _ _).nameAnomaly _ _
  · exact h.countAnomaly _ _ _
  · exact (h.countAnomaly _ _ _).nameAnomaly _ _

theorem takeFault (h : Keeps s t) (x : Crane) (c b l : Byte) (id : Word16) (k : Nat) : Keeps s (t.takeFault x c b l id k) := by
  unfold State.takeFault
  try dsimp only
  repeat' first
    | with_reducible exact h
    | with_reducible refine Keeps.ite ?_ ?_
    | with_reducible refine Keeps.nameAnomaly ?_ _ _
    | with_reducible refine Keeps.countAnomaly ?_ _ _ _
    | with_reducible refine Keeps.applyFault ?_ _ _
    | with_reducible refine Keeps.faultWaiting ?_ _ _ _
    | with_reducible refine Keeps.notTaken ?_ _
    | with_reducible refine Keeps.reportPosition ?_ _ _ _
    | with_reducible refine Keeps.modCrane ?_ _ _

theorem takeAboard (h : Keeps s t) (x : Crane) (a : Bool) : Keeps s (t.takeAboard x a) := by
  unfold State.takeAboard
  try dsimp only
  repeat' first
    | with_reducible exact h
    | with_reducible refine Keeps.ite ?_ ?_
    | with_reducible refine Keeps.modCrane ?_ _ _

theorem settleIdle (h : Keeps s t) (x : Crane) : Keeps s (t.settleIdle x) := by
  unfold State.settleIdle
  try dsimp only
  repeat' first
    | with_reducible exact h
    | with_reducible refine Keeps.ite ?_ ?_
    | with_reducible refine Keeps.becomeIdle ?_ _
    | with_reducible refine Keeps.spanToPosition ?_ _
    | with_reducible refine Keeps.craneStateEvent ?_ _ _
    | with_reducible refine Keeps.setCraneState ?_ _ _

theorem loadAboard (h : Keeps s t) (x : Crane) : Keeps s (t.loadAboard x) := by
  unfold State.loadAboard
  try dsimp only
  repeat' first
    | with_reducible exact h
    | with_reducible refine Keeps.enterFaulted ?_ _ _
    | with_reducible refine Keeps.leaveEngine ?_ _
    | with_reducible refine Keeps.spanToPosition ?_ _
    | split

theorem statusSyncing (h : Keeps s t) (x : Crane) (m : StatusMode) (a : Bool) : Keeps s (t.statusSyncing x m a) := by
  unfold State.statusSyncing
  try dsimp only
  repeat' first
    | with_reducible exact h
    | with_reducible refine Keeps.loadAboard ?_ _
    | with_reducible refine Keeps.settleIdle ?_ _
    | with_reducible refine Keeps.applyFault ?_ _ _
    | split

theorem markCount (h : Keeps s t) (x : Crane) (k : Nat) : Keeps s (t.markCount x k) := by
  unfold State.markCount
  try dsimp only
  repeat' first
    | with_reducible exact h
    | with_reducible refine Keeps.ite ?_ ?_
    | with_reducible refine Keeps.markLegs ?_ _ _
    | split

theorem busyUnknown (h : Keeps s t) (x : Crane) : Keeps s (t.busyUnknown x) := by
  unfold State.busyUnknown
  try dsimp only
  repeat' first
    | with_reducible exact h
    | with_reducible refine Keeps.leaveEngine ?_ _
    | with_reducible refine Keeps.loseSight ?_ _
    | with_reducible refine Keeps.craneStateEvent ?_ _ _
    | with_reducible refine Keeps.setCraneState ?_ _ _
    | split

theorem statusFree (h : Keeps s t) (x : Crane) (m : StatusMode) (a : Bool) : Keeps s (t.statusFree x m a) := by
  unfold State.statusFree
  try dsimp only
  repeat' first
    | with_reducible exact h
    | with_reducible refine Keeps.busyUnknown ?_ _
    | with_reducible refine Keeps.loadAboard ?_ _
    | with_reducible refine Keeps.applyFault ?_ _ _
    | with_reducible refine Keeps.anomaly ?_ _
    | split

theorem statusOrder (h : Keeps s t) (x : Crane) (o : Order) (m : StatusMode) (n : Bool) (k : Nat) : Keeps s (t.statusOrder x o m n k) := by
  unfold State.statusOrder
  try dsimp only
  repeat' first
    | with_reducible exact h
    | with_reducible refine Keeps.ite ?_ ?_
    | with_reducible refine Keeps.markCount ?_ _ _
    | with_reducible refine Keeps.applyFault ?_ _ _
    | with_reducible refine Keeps.orderLostSyncing ?_ _
    | with_reducible refine Keeps.orderLostIdle ?_ _
    | with_reducible refine Keeps.startIfSent ?_ _
    | with_reducible refine Keeps.narrowSpan ?_ _
    | with_reducible refine Keeps.anomaly ?_ _
    | split

theorem statusFaultedOrder (h : Keeps s t) (x : Crane) (o : Order) (m : StatusMode) (n : Bool) (k : Nat) : Keeps s (t.statusFaultedOrder x o m n k) := by
  unfold State.statusFaultedOrder
  try dsimp only
  repeat' first
    | with_reducible exact h
    | with_reducible refine Keeps.ite ?_ ?_
    | with_reducible refine Keeps.markCount ?_ _ _
    | with_reducible refine Keeps.clearFault ?_ _ _
    | with_reducible refine Keeps.orderLostSyncing ?_ _
    | with_reducible refine Keeps.orderLostIdle ?_ _
    | with_reducible refine Keeps.startIfSent ?_ _
    | with_reducible refine Keeps.anomaly ?_ _
    | split

theorem statusFaultedFree (h : Keeps s t) (x : Crane) (m : StatusMode) (a : Bool) : Keeps s (t.statusFaultedFree x m a) := by
  unfold State.statusFaultedFree
  try dsimp only
  repeat' first
    | with_reducible exact h
    | with_reducible refine Keeps.clearFault ?_ _ _
    | with_reducible refine Keeps.anomaly ?_ _
    | split

theorem statusLost (h : Keeps s t) (x : Crane) (m : StatusMode) (n : Bool) (k : Nat) (a : Bool) : Keeps s (t.statusLost x m n k a) := by
  unfold State.statusLost
  try dsimp only
  repeat' first
    | with_reducible exact h
    | with_reducible refine Keeps.busyUnknown ?_ _
    | with_reducible refine Keeps.markCount ?_ _ _
    | with_reducible refine Keeps.loadAboard ?_ _
    | with_reducible refine Keeps.settleIdle ?_ _
    | with_reducible refine Keeps.applyFault ?_ _ _
    | with_reducible refine Keeps.resumeLost ?_ _
    | with_reducible refine Keeps.orderLostSyncing ?_ _
    | with_reducible refine Keeps.orderLostIdle ?_ _
    | with_reducible refine Keeps.narrowSpan ?_ _
    | with_reducible refine Keeps.anomaly ?_ _
    | split

theorem statusPosition (h : Keeps s t) (x : Crane) (m : StatusMode) (b l : Byte) : Keeps s (t.statusPosition x m b l) := by
  unfold State.statusPosition
  try dsimp only
  repeat' first
    | with_reducible exact h
    | with_reducible refine Keeps.ite ?_ ?_
    | with_reducible refine Keeps.reportRange ?_ _ _ _
    | with_reducible refine Keeps.reportPosition ?_ _ _ _

theorem statusWaiting (h : Keeps s t) (x : Crane) (m : StatusMode) (b l : Byte) (a : Bool) : Keeps s (t.statusWaiting x m b l a) := by
  unfold State.statusWaiting
  try dsimp only
  repeat' first
    | with_reducible exact h
    | with_reducible refine Keeps.takeAboard ?_ _ _
    | with_reducible refine Keeps.faultWaiting ?_ _ _ _
    | with_reducible refine Keeps.anomaly ?_ _
    | split

theorem takeStatus (h : Keeps s t) (x : Crane) (m : StatusMode) (id : Word16) (k : Nat) (b l : Byte) (a : Bool) : Keeps s (t.takeStatus x m id k b l a) := by
  unfold State.takeStatus
  try dsimp only
  repeat' first
    | with_reducible exact h
    | with_reducible refine Keeps.statusWaiting ?_ _ _ _ _ _
    | with_reducible refine Keeps.statusPosition ?_ _ _ _ _
    | with_reducible refine Keeps.statusAnomalies ?_ _ _ _ _
    | with_reducible refine Keeps.statusLost ?_ _ _ _ _ _
    | with_reducible refine Keeps.statusFaultedFree ?_ _ _ _
    | with_reducible refine Keeps.statusFaultedOrder ?_ _ _ _ _ _
    | with_reducible refine Keeps.statusOrder ?_ _ _ _ _ _
    | with_reducible refine Keeps.statusFree ?_ _ _ _
    | with_reducible refine Keeps.statusSyncing ?_ _ _ _
    | with_reducible refine Keeps.takeAboard ?_ _ _
    | split

theorem takeFaultClear (h : Keeps s t) (x : Crane) (b l : Byte) : Keeps s (t.takeFaultClear x b l) := by
  unfold State.takeFaultClear
  try dsimp only
  repeat' first
    | with_reducible exact h
    | with_reducible refine Keeps.settleIdle ?_ _
    | with_reducible refine Keeps.takeAboard ?_ _ _
    | with_reducible refine Keeps.clearFault ?_ _ _
    | with_reducible refine Keeps.reportPosition ?_ _ _ _
    | with_reducible refine Keeps.anomaly ?_ _
    | split

theorem setStage (h : Keeps s t) (p : Pass) (st : Stage) : Keeps s (t.setStage p st) := by
  unfold State.setStage
  try dsimp only
  repeat' first
    | with_reducible exact h
    | with_reducible refine Keeps.setPass ?_ _

theorem stallHead (h : Keeps s t) (p : Pass) (tag serial : Word32) : Keeps s (t.stallHead p tag serial) := by
  unfold State.stallHead
  try dsimp only
  repeat' first
    | with_reducible exact h
    | with_reducible refine Keeps.ite ?_ ?_
    | with_reducible refine Keeps.raise ?_ _
    | with_reducible refine Keeps.modJobOf ?_ _ _
    | split

theorem endStoreStage (h : Keeps s t) (p : Pass) (tag serial : Word32) (b : Option StorePick) :
    Keeps s (t.endStoreStage p tag serial b) := by
  unfold State.endStoreStage
  try dsimp only
  repeat' first
    | with_reducible exact h
    | with_reducible refine Keeps.ite ?_ ?_
    | with_reducible refine Keeps.stallHead ?_ _ _ _
    | with_reducible refine Keeps.setStage ?_ _ _
    | with_reducible refine Keeps.modJobOf ?_ _ _
    | split

theorem noSpares (h : Keeps s t) (p : Pass) : Keeps s (t.noSpares p) := by
  unfold State.noSpares
  try dsimp only
  repeat' first
    | with_reducible exact h
    | with_reducible refine Keeps.ite ?_ ?_
    | with_reducible refine Keeps.raise ?_ _

theorem considerRetrieve (h : Keeps s t) (p : Pass) (j : Job) (a : Slot) (st : Option StorePick) (b : Option RetrievePick) : Keeps s (t.considerRetrieve p j a st b) := by
  unfold State.considerRetrieve
  try dsimp only
  repeat' first
    | with_reducible exact h
    | with_reducible refine Keeps.ite ?_ ?_
    | with_reducible refine Keeps.noSpares ?_ _
    | with_reducible refine Keeps.setStage ?_ _ _
    | split

theorem passItem (h : Keeps s t) (p : Pass) {u : State} (e : t.passItem p = some u) : Keeps s u := by
  unfold State.passItem at e
  repeat' split at e
  all_goals first
    | (cases e; done)
    | (cases e
       first
         | exact h.setStage _ _
         | exact h.endStoreStage _ _ _ _
         | exact h.considerRetrieve _ _ _ _ _)

theorem passItems : ∀ (n : Nat) {t : State}, Keeps s t → Keeps s (State.passItems n t)
  | 0, _, h => h
  | n + 1, t, h => by
    unfold State.passItems
    split
    · exact h
    · split
      · rename_i e
        exact passItems n (h.passItem _ e)
      · exact h

theorem orderJobs (h : Keeps s t) (r : PassResult) : Keeps s (t.orderJobs r) := by
  unfold State.orderJobs
  try dsimp only
  repeat' first
    | with_reducible exact h
    | with_reducible refine Keeps.modJobOf ?_ _ _
    | split

theorem dispatchSent (h : Keeps s t) (x : Crane) (r : PassResult) : Keeps s (t.dispatchSent x r) := by
  unfold State.dispatchSent
  try dsimp only
  repeat' first
    | with_reducible exact h
    | with_reducible refine Keeps.claimSpan ?_ _ _ _
    | with_reducible refine Keeps.sendOrder ?_ _
    | with_reducible refine Keeps.placeOrder ?_ _ _

theorem sendYield (h : Keeps s t) (p : Pass) (x y : Crane) (n : Nat) : Keeps s (t.sendYield p x y n) := by
  unfold State.sendYield
  try dsimp only
  repeat' first
    | with_reducible exact h
    | with_reducible refine Keeps.claimSpan ?_ _ _ _
    | with_reducible refine Keeps.sendOrder ?_ _
    | with_reducible refine Keeps.placeOrder ?_ _ _
    | with_reducible refine Keeps.setPair ?_ _ _
    | split

theorem dispatchWaiting (h : Keeps s t) (p : Pass) (x : Crane) (n : Nat) (r : PassResult) : Keeps s (t.dispatchWaiting p x n r) := by
  unfold State.dispatchWaiting
  try dsimp only
  repeat' first
    | with_reducible exact h
    | with_reducible refine Keeps.sendYield ?_ _ _ _ _
    | with_reducible refine Keeps.claimSpan ?_ _ _ _
    | with_reducible refine Keeps.placeOrder ?_ _ _
    | with_reducible refine Keeps.setCraneState ?_ _ _

theorem dispatch (h : Keeps s t) (p : Pass) (r : PassResult) (a : SpanAnswer) : Keeps s (t.dispatch p r a) := by
  unfold State.dispatch
  try dsimp only
  repeat' first
    | with_reducible exact h
    | with_reducible refine Keeps.dispatchWaiting ?_ _ _ _ _
    | with_reducible refine Keeps.dispatchSent ?_ _ _
    | with_reducible refine Keeps.orderJobs ?_ _
    | with_reducible refine Keeps.engineRun ?_
    | with_reducible refine Keeps.setPass ?_ _
    | with_reducible refine Keeps.setTable ?_ _
    | split

theorem endStarved (h : Keeps s t) (p : Pass) : Keeps s (t.endStarved p) := by
  unfold State.endStarved
  try dsimp only
  repeat' first
    | with_reducible exact h
    | with_reducible refine Keeps.ite ?_ ?_
    | with_reducible refine Keeps.trigger ?_ _
    | with_reducible refine Keeps.engineRun ?_
    | with_reducible refine Keeps.setPass ?_ _
    | with_reducible refine Keeps.modCrane ?_ _ _

theorem putAside (h : Keeps s t) (p : Pass) : Keeps s (t.putAside p) :=
  (h.withEngine _).engineRun

theorem rerun (h : Keeps s t) (p : Pass) : Keeps s (t.rerun p) := by
  unfold State.rerun
  try dsimp only
  repeat' first
    | with_reducible exact h
    | with_reducible refine Keeps.ite ?_ ?_
    | with_reducible refine Keeps.endStarved ?_ _
    | with_reducible refine Keeps.startPass ?_ _ _ _

theorem completePass (h : Keeps s t) (p : Pass) : Keeps s (t.completePass p) := by
  unfold State.completePass
  try dsimp only
  repeat' first
    | with_reducible exact h
    | with_reducible refine Keeps.ite ?_ ?_
    | with_reducible refine Keeps.rerun ?_ _
    | with_reducible refine Keeps.putAside ?_ _
    | with_reducible refine Keeps.endStarved ?_ _
    | with_reducible refine Keeps.dispatch ?_ _ _ _
    | split

theorem passCompletes (h : Keeps s t) : Keeps s t.passCompletes := by
  simp only [State.passCompletes]
  split
  · exact (passItems _ h).completePass _
  · exact passItems _ h

end Keeps

end Sys2Proof.Machine
end

