-- ==== Sys2Proof/Laws/Weights.lean ====
section
/-! SUPPORT. The weighting table keeps its canonical form, and a written entry reads back (R11, R13). -/

namespace Sys2Proof.Machine

/-- The indexes of a table rise. -/
def Weights.rising (t : List (Nat × Weight)) : Prop := t.Pairwise (fun a b => a.1 < b.1)

theorem Weights.wf_iff (t : List (Nat × Weight)) :
    Weights.wf t = true ↔ Weights.rising t ∧ (∀ e ∈ t, e.1 < 2048) ∧ ∀ e ∈ t, e.2 ≠ Weight.default := by
  simp only [Weights.wf, Weights.rising, Bool.and_eq_true, List.all_eq_true, decide_eq_true_eq, bne_iff_ne, and_assoc]
  rfl

theorem weightAt_above (t : List (Nat × Weight)) (i : Nat) (h : ∀ e ∈ t, i < e.1) : weightAt t i = Weight.default := by
  induction t with
  | nil => rfl
  | cons e t ih =>
    have := h e (by simp)
    rw [weightAt, if_neg (by omega)]
    exact ih fun x hx => h x (by simp [hx])

/-- What a written table holds: entries of the table before, and the entry written. -/
theorem mem_weightSet (t : List (Nat × Weight)) (i : Nat) (w : Weight) (e : Nat × Weight) (h : e ∈ weightSet t i w) :
    e ∈ t ∨ (e = (i, w) ∧ w ≠ Weight.default) := by
  induction t with
  | nil =>
    simp only [weightSet] at h
    split at h <;> simp_all
  | cons a t ih =>
    simp only [weightSet] at h
    split at h
    · rcases List.mem_cons.1 h with rfl | h
      · simp
      · rcases ih h with h | h <;> simp [h]
    · split at h
      · split at h
        · simp [h]
        · simp_all; tauto
      · split at h <;> simp_all
        tauto

theorem weightSet_rising (t : List (Nat × Weight)) (i : Nat) (w : Weight) (h : Weights.rising t) :
    Weights.rising (weightSet t i w) := by
  induction t with
  | nil => simp only [weightSet]; split <;> simp [Weights.rising]
  | cons a t ih =>
    obtain ⟨ha, ht⟩ := List.pairwise_cons.1 h
    simp only [weightSet]
    split
    · refine List.pairwise_cons.2 ⟨fun e he => ?_, ih ht⟩
      rcases mem_weightSet _ _ _ _ he with he | ⟨rfl, _⟩
      · exact ha e he
      · assumption
    · split
      · rename_i e
        split
        · exact ht
        · exact List.pairwise_cons.2 ⟨fun x hx => e ▸ ha x hx, ht⟩
      · split
        · exact h
        · refine List.pairwise_cons.2 ⟨fun x hx => ?_, h⟩
          rcases List.mem_cons.1 hx with rfl | hx
          · dsimp only; omega
          · have := ha x hx; dsimp only; omega

/-- A write keeps the canonical form. -/
theorem weightSet_wf (t : List (Nat × Weight)) (i : Nat) (w : Weight) (hi : i < 2048) (h : Weights.wf t = true) :
    Weights.wf (weightSet t i w) = true := by
  obtain ⟨hr, hb, hd⟩ := (Weights.wf_iff t).1 h
  refine (Weights.wf_iff _).2 ⟨weightSet_rising t i w hr, fun e he => ?_, fun e he => ?_⟩
  · rcases mem_weightSet _ _ _ _ he with he | ⟨rfl, _⟩
    · exact hb e he
    · exact hi
  · rcases mem_weightSet _ _ _ _ he with he | ⟨rfl, hw⟩
    · exact hd e he
    · exact hw

/-- A run of writes keeps the canonical form (R13). -/
theorem weightRun_wf (ws : List Weight) (t : List (Nat × Weight)) (i : Nat) (hi : i + ws.length ≤ 2048)
    (h : Weights.wf t = true) : Weights.wf (weightRun t i ws) = true := by
  induction ws generalizing t i with
  | nil => exact h
  | cons w ws ih =>
    rw [List.length_cons] at hi
    exact ih _ _ (by omega) (weightSet_wf t i w (by omega) h)

/-- Reading after a write: the value written at its index, every other entry as before. -/
theorem weightAt_weightSet (t : List (Nat × Weight)) (i : Nat) (w : Weight) (j : Nat) (h : Weights.rising t) :
    weightAt (weightSet t i w) j = if j = i then w else weightAt t j := by
  induction t with
  | nil =>
    by_cases hw : w = Weight.default <;> by_cases hj : j = i <;> simp [weightSet, weightAt, hw, hj, eq_comm (a := i)]
  | cons a t ih =>
    obtain ⟨ha, ht⟩ := List.pairwise_cons.1 h
    simp only [weightSet]
    by_cases h1 : a.1 < i
    · rw [if_pos h1]
      simp only [weightAt, ih ht]
      by_cases hj : a.1 = j
      · rw [if_pos hj, if_neg (by omega), if_pos hj]
      · rw [if_neg hj, if_neg hj]
    · rw [if_neg h1]
      by_cases h2 : a.1 = i
      · rw [if_pos h2]
        by_cases hw : w = Weight.default
        · rw [if_pos hw]
          by_cases hj : j = i
          · rw [if_pos hj, hw]
            exact weightAt_above t j fun e he => by have := ha e he; omega
          · rw [if_neg hj, weightAt, if_neg (by omega)]
        · rw [if_neg hw, weightAt]
          by_cases hj : j = i
          · rw [if_pos hj.symm, if_pos hj]
          · rw [if_neg (Ne.symm hj), if_neg hj, weightAt, if_neg (by omega)]
      · rw [if_neg h2]
        by_cases hw : w = Weight.default
        · rw [if_pos hw]
          by_cases hj : j = i
          · rw [if_pos hj, hw]
            refine weightAt_above _ j fun e he => ?_
            rcases List.mem_cons.1 he with rfl | he
            · omega
            · have := ha e he; omega
          · rw [if_neg hj]
        · rw [if_neg hw, weightAt]
          by_cases hj : j = i
          · rw [if_pos hj.symm, if_pos hj]
          · rw [if_neg (Ne.symm hj), if_neg hj]

theorem weightRun_rising (ws : List Weight) (t : List (Nat × Weight)) (i : Nat) (h : Weights.rising t) :
    Weights.rising (weightRun t i ws) := by
  induction ws generalizing t i with
  | nil => exact h
  | cons w ws ih => exact ih _ _ (weightSet_rising t i w h)

/-- Reading after a run of writes below its start (R13). -/
theorem weightAt_weightRun_below (ws : List Weight) (t : List (Nat × Weight)) (i j : Nat) (h : Weights.rising t)
    (hj : j < i) : weightAt (weightRun t i ws) j = weightAt t j := by
  induction ws generalizing t i with
  | nil => rfl
  | cons w ws ih =>
    rw [weightRun, ih _ _ (weightSet_rising t i w h) (by omega), weightAt_weightSet _ _ _ _ h, if_neg (by omega)]

/-- Reading after a run of writes: the run's values at its indexes, every other entry as before (R13). -/
theorem weightAt_weightRun (ws : List Weight) (t : List (Nat × Weight)) (i j : Nat) (h : Weights.rising t) :
    weightAt (weightRun t i ws) j
      = if h : i ≤ j ∧ j < i + ws.length then ws[j - i]'(by omega) else weightAt t j := by
  induction ws generalizing t i with
  | nil => rw [dif_neg (by simp)]; rfl
  | cons w ws ih =>
    have hs := weightSet_rising t i w h
    by_cases hj : j = i
    · subst hj
      rw [weightRun, weightAt_weightRun_below ws _ _ _ hs (by omega), weightAt_weightSet _ _ _ _ h]
      simp
    · rw [weightRun, ih _ _ hs, weightAt_weightSet _ _ _ _ h, if_neg hj]
      by_cases hr : i + 1 ≤ j ∧ j < i + 1 + ws.length
      · rw [dif_pos hr, dif_pos (by simp; omega)]
        have : j - i = (j - (i + 1)) + 1 := by omega
        simp [this]
      · rw [dif_neg hr, dif_neg (by simp; omega)]

end Sys2Proof.Machine
end

