-- ==== Sys2Proof/Tests/Slice0.lean ====
section
/-! SUPPORT. Tests: the spec's worked examples and layouts, with values worked out by hand, and for each obligation with hypotheses
concrete values that meet them. -/

namespace Sys2Proof.Tests

open Sys2Proof Sys2Proof.Machine

-- one theorem after another: many kernel evaluations at once take a thread, and so memory, each
set_option Elab.async false

/-! ## What the lines cannot carry is ill-formed -/

theorem test_wf_short_request : (Instr.queryLane [1]).wf = false := by decide
theorem test_wf_long_request : (Instr.admitStore (List.replicate 251 0)).wf = false := by decide +kernel
theorem test_wf_longest_request : (Instr.admitStore (List.replicate 250 0)).wf = true := by decide +kernel
theorem test_wf_empty_unknown : (Instr.unknownRequest 0x40 []).wf = false := by decide
theorem test_wf_known_kind : (Instr.unknownRequest 0x1F [1, 2]).wf = false := by decide
theorem test_wf_known_kind_short : (Instr.unknownRequest 0x1F [1]).wf = true := by decide
theorem test_wf_decline_reason : (Instr.decline 3 7 0).wf = false := by decide
theorem test_wf_fault_code : (Instr.fault 3 0 1 1 0 0).wf = false := by decide

/-! ## Frames (11_record_layouts.md) -/

/-- The records of R194 on the line of crane 6, written out by the table. -/
theorem test_records :
    craneRecordOf 6 0x11 [0x02, 0x17] = .accept 6 0x0217
      ∧ craneRecordOf 6 0x12 [0x02, 0x17, 0x05] = .decline 6 0x0217 5
      ∧ craneRecordOf 6 0x13 [0x02, 0x17, 0x01, 45, 3] = .legDone 6 0x0217 1 45 3
      ∧ craneRecordOf 6 0x14 [0x02, 0x17, 45, 3] = .orderDone 6 0x0217 45 3
      ∧ craneRecordOf 6 0x15 [0x02, 0x17, 0x01] = .revoked 6 0x0217 true
      ∧ craneRecordOf 6 0x16 [0x09, 45, 3, 0x02, 0x17, 0x01] = .fault 6 9 45 3 0x0217 1
      ∧ craneRecordOf 6 0x17 [45, 3] = .faultClear 6 45 3
      ∧ craneRecordOf 6 0x18 [0x01, 0x02, 0x17, 0x01, 45, 3, 0x00] = .status 6 .busy 0x0217 1 45 3 false := by
  decide

/-- Malformed bodies: a length that does not match, a code that no table gives (R194). -/
theorem test_malformed_records :
    craneRecordOf 6 0x11 [0x02] = .unknownCraneRecord 6
      ∧ craneRecordOf 6 0x15 [0x02, 0x17, 0x02] = .unknownCraneRecord 6
      ∧ craneRecordOf 6 0x18 [0x03, 0x02, 0x17, 0x01, 45, 3, 0x00] = .unknownCraneRecord 6
      ∧ craneRecordOf 6 0x19 [45, 3] = .unknownCraneRecord 6 := by
  decide

theorem test_requests :
    requestOf 0x01 [0, 1] = .admitStore [0, 1] ∧ requestOf 0x0B [0, 1, 6] = .setTrim [0, 1, 6]
      ∧ requestOf 0x1F [0, 1, 0] = .reset [0, 1, 0] ∧ requestOf 0x20 [0, 1] = .unknownRequest 0x20 [0, 1]
      ∧ requestOf 0x05 [0] = .unknownRequest 0x05 [0] := by
  decide

/-- The store alone of the example in 11.4: JOB order 0217H of crane 6. -/
def storeLegs : List Leg :=
  [{ target := .station { aisle := 3, side := .near }, action := .pick, legMs := 0, untrimmed := 0, done := false,
     measured := none, valid := true },
   { target := .slot { aisle := 3, side := .left, bay := 45, level := 3, depth := .front }, action := .drop, legMs := 0,
     untrimmed := 0, done := false, measured := none, valid := true }]

/-- "One ORDER on the line": the frame begins 5AH, 00H 0EH, 01H and occupies 20 bytes. -/
theorem test_order_frame :
    (orderFrame (Order.new 0x0217 .job .sent storeLegs)).take 18
        = [0x5A, 0x00, 0x0E, 0x01, 0x02, 0x17, 0x00, 0x02, 0x23, 0x00, 0x00, 0x00, 0x01, 0x03, 0x2D, 0x03, 0x00, 0x02]
      ∧ (orderFrame (Order.new 0x0217 .job .sent storeLegs)).length = 20 := by
  decide +kernel

/-- The yield place of the same example. -/
theorem test_yield_place : placeBytes (.rail 3 18 9) = [0x63, 0x12, 0x09, 0x00] := by decide

/-! ## A store to try things on -/

/-- Aisle 3 of the spec's examples: 60 bays, 24 levels, double-deep, both cranes, gap 3. -/
def aisle3 : Geometry :=
  { configured := true, bays := 60, levels := 24, doubleDeep := true, nearLevel := 1, farLevel := 1, fit := .both, gap := 3 }

def idleAt (bay level : Nat) : CraneCtx :=
  { CraneCtx.powerOn with state := .idle, position := some { bay := bay, level := level }, aboard := .no }

/-- Cranes 6 and 7 IDLE at bays 20 and 61, no hold (the example of 4.3). -/
def site : State :=
  let s := (((((State.reset.setGeometryOf 3 aisle3).setCrane 6 (idleAt 20 9)).setCrane 7 (idleAt 61 1)).setSpan 6
    (.bays 20 20)).setSpan 7 (.bays 61 61))
  { s with sup := { s.sup with holdCommand := false } }

def slot (side : Side) (bay level : Nat) (depth : Depth) : Slot :=
  { aisle := 3, side := side, bay := bay, level := level, depth := depth }

/-- What a command leaves. -/
def after (c : Instr) (s : State) : State :=
  match exec c s with
  | .next t => t
  | .fault _ => s
  | .refused _ => s

/-- The last reply: in the stream, or in transmission. -/
def lastReply (s : State) : Option (ReplyCode × ReplyData) :=
  match s.port.replies.getLast?, s.port.tx with
  | some r, _ => some (r.code, r.data)
  | none, some (.reply r) => some (r.code, r.data)
  | none, _ => none

/-! ## Places, weights and times (chapters 1 and 5) -/

/-- "Placing the range of aisle 3". -/
def policy3 : Policy :=
  { Policy.powerOn with weighting := true, weightingBase := 600, bayGroup := 4, levelGroup := 3 }

theorem test_cell_index :
    cellIndex policy3 aisle3 37 12 = 654 ∧ cellIndex policy3 aisle3 40 10 = 654 ∧ rangeEnd policy3 aisle3 = 720 := by
  decide

/-- A policy for 120 bays and 40 levels with groups of 4: base 1950 is refused, 1748 is the highest that fits. -/
theorem test_policy_range :
    let s := State.reset.setGeometryOf 2 { aisle3 with bays := 120, levels := 40 }
    lastReply (after (.setAislePolicy [0, 1, 2, 0, 1, 1, 1, 1, 0, 1, 0, 0x07, 0x9E, 4, 4, 0, 0, 0, 0, 0]) s)
        = some (.range, .empty)
      ∧ lastReply (after (.setAislePolicy [0, 1, 2, 0, 1, 1, 1, 1, 0, 1, 0, 0x06, 0xD5, 4, 4, 0, 0, 0, 0, 0]) s)
        = some (.range, .empty)
      ∧ lastReply (after (.setAislePolicy [0, 1, 2, 0, 1, 1, 1, 1, 0, 1, 0, 0x06, 0xD4, 4, 4, 0, 0, 0, 0, 0]) s)
        = some (.ok, .empty) := by
  decide +kernel

def values (trim : Nat) : Values := { profileA := .powerOn, profileB := .powerOn, trim := trim }

/-- "One leg computed": factor 1126 in the cell at bay 37, level 12. -/
def weighted (m : WeightingMode) : State :=
  (site.setPolicyOf 3 { policy3 with weightingMode := m }).setWeights [(654, { mark := false, factor := 1126 })]

def farLeg (s : State) (trim : Nat) : Leg :=
  s.makeLeg (values trim) 3 (.place (.station { aisle := 3, side := .near })) (.slot (slot .right 37 12 .rear)) .drop

theorem test_leg_time :
    (farLeg (weighted .bothRates) 1075).untrimmed = 32023 ∧ (farLeg (weighted .bothRates) 1075).legMs = 33617
      ∧ (farLeg (weighted .forkTime) 1024).legMs = 31336 := by
  decide +kernel

/-- Profile selection in window mode (1.6): inside the window profile B, outside profile A. -/
theorem test_window_profile :
    let p : Policy := { policy3 with profileMode := .byWindow, windowBayLo := 61, windowBayHi := 80, windowLevelHi := 30 }
    let v : Values := { profileA := .powerOn, profileB := { Profile.powerOn with kx := 1 }, trim := 1024 }
    let s := site.setPolicyOf 3 p
    (s.legProfile v 3 (some (66, 9))).kx = 1 ∧ (s.legProfile v 3 (some (20, 2))).kx = 7520
      ∧ (s.legProfile v 3 none).kx = 7520 := by
  decide +kernel

/-- R84's routes of 68,700 and 70,000 ms. -/
theorem test_route_saturates :
    let leg (n : Nat) : Leg := { storeLegs.head (by decide) with legMs := n }
    routeMs [leg 21400, leg 18900, leg 16300, leg 12100] = 65535 ∧ routeMs [leg 35000, leg 35000] = 65535
      ∧ routeMs [leg 9610, leg 6840, leg 7115, leg 24760] = 48325 := by
  decide

/-- "Five retrieves compared". -/
theorem test_scores :
    scoreOf .powerOn 1 400 36325 0 = 34325 ∧ scoreOf .powerOn 0 150 48325 0 = 46825
      ∧ scoreOf .powerOn 2 3400 41000 5000 = 22000 ∧ scoreOf .powerOn 3 5000 12000 0 = 0 := by
  decide

/-- "A trim update": the 64th leg takes crane 6 from 1024 to 1075. -/
theorem test_trim_update :
    let s := site.setTrimOf 6 { trim := 1024, auto := true, legs := 63, predicted := 1888000, actual := 1982500 }
    (s.accumulate 6 32000 33500).trimOf 6 = { trim := 1075, auto := true, legs := 0, predicted := 0, actual := 0 }
      ∧ ((s.setTrimOf 6 { s.trimOf 6 with auto := false }).accumulate 6 32000 33500).trimOf 6
        = { trim := 1024, auto := false, legs := 64, predicted := 1920000, actual := 2016000 } := by
  decide +kernel

/-! ## Spans and yields (chapter 4) -/

/-- The routes of 4.3 against crane 6 at bay 20: a retrieve from bay 22 asks it to yield to 18. -/
theorem test_yield_computed :
    let route (bay : Nat) : List Place := [.slot (slot .left bay 9 .front), .station { aisle := 3, side := .far }]
    site.spanAnswer 7 (some { bay := 61, level := 1 }) (route 22) = .yieldEligible 18
      ∧ site.spanAnswer 7 (some { bay := 61, level := 1 }) (route 24) = .eligible
      ∧ site.spanAnswer 7 (some { bay := 61, level := 1 }) (route 3) = .ineligible := by
  decide +kernel

/-! ## Lanes (chapter 8) -/

def lane6 (n : Word16) (set : List Word16) : Lane :=
  { opened := true, nextDue := n, window := 8, delivered := set, liveJobs := 1 }

/-- "A window across the wrap". -/
theorem test_lane_wrap :
    (lane6 65534 []).deliver 0 = (lane6 65534 [0], false) ∧ (lane6 65534 [0]).deliver 65534 = (lane6 65535 [0], true)
      ∧ (lane6 65535 [0]).deliver 65535 = (lane6 1 [], true) ∧ (lane6 65534 []).stale 40000 = true := by
  decide

/-- The lane's SKIP SEQUENCE rows: 65535 is BEHIND and taken as it stands, 3 joins the set. -/
theorem test_skip :
    let s := site.setLane 6 (lane6 1 [])
    lastReply (after (.skipSequence [0, 1, 6, 0xFF, 0xFF]) s) = some (.ok, .nextDue 1)
      ∧ (after (.skipSequence [0, 1, 6, 0, 3]) s).laneOf 6 = lane6 1 [3]
      ∧ lastReply (after (.skipSequence [0, 1, 6, 0, 33]) s) = some (.range, .empty) := by
  decide +kernel

/-! ## Values that meet the hypotheses of the obligations -/

/-! Laws from facts that can be decided. -/

def spanOk (s : State) (x : Crane) : Bool :=
  match s.spanOf x with
  | .bays lo hi => decide (lo ≤ hi) && (s.crane x).position.all (fun p => decide (lo ≤ p.bay) && decide (p.bay ≤ hi))
  | _ => true

theorem spans_ok (s : State) (h : ∀ x, spanOk s x = true) : s.spansInLaw := by
  intro x lo hi e
  have k := h x
  simp only [spanOk, e, Bool.and_eq_true, decide_eq_true_eq] at k
  refine ⟨k.1, fun p hp => ?_⟩
  have q := k.2
  simp only [hp, Option.all_some, Bool.and_eq_true, decide_eq_true_eq] at q
  exact q

/-- The law of the orders, from one fact about every crane and the queue. -/
theorem orders_ok (s : State)
    (h : (∀ e ∈ s.engine.queue, (s.crane e.crane).state = .queued ∧ s.underEvaluation e.crane = false)
      ∧ (s.engine.queue.map (·.crane)).Nodup ∧ (∀ p ∈ s.engine.pass, (s.crane p.crane).state = .queued)
      ∧ (∀ x, (s.crane x).state ∈ [.awaitYield, .ordered, .running, .yielding, .homing] → (s.crane x).order ≠ none)
      ∧ (∀ x, (s.crane x).state ∈ [.offline, .syncing, .idle, .queued] → (s.crane x).order = none)
      ∧ (∀ x, ∀ o ∈ (s.crane x).order, (o.state = .awaitYield ↔ (s.crane x).state = .awaitYield))
      ∧ ∀ y, ∀ o ∈ (s.crane y).order, ∀ w ∈ o.yieldPartner, w = sibling y ∧ (s.crane w).state = .awaitYield) :
    s.ordersInLaw := by
  obtain ⟨queue, nodup, pass, holds, free, waits, partner⟩ := h
  exact ⟨⟨queue, nodup, fun p e => pass p e⟩, holds, free, fun x o e => waits x o e,
    fun y o w e k => partner y o e w k⟩

def Span.isBays : Span → Bool
  | .bays _ _ => true
  | _ => false

theorem isBays_iff (sp : Span) : Span.isBays sp = true ↔ ∃ lo hi, sp = .bays lo hi := by
  cases sp <;> simp [Span.isBays]

/-- The law of the rail, from facts about every crane and the laws of the pairs and of the aisles without one. -/
theorem rail_ok (s : State) (ho : s.ordersInLaw) (hs : s.spansInLaw)
    (hp : ∀ x, ∀ p ∈ (s.crane x).position, p.bay ≤ (s.geometryOf (aisleOf x)).bays + 1)
    (h : (∀ x, s.spanOf x = .absent ↔ (s.crane x).state = .offline)
      ∧ (∀ x, (s.crane x).position ≠ none ↔ Span.isBays (s.spanOf x) = true)
      ∧ (∀ x, (s.crane x).state ∈ [.idle, .queued] → ∃ p ∈ (s.crane x).position, s.spanOf x = .bays p.bay p.bay)
      ∧ (∀ x, (s.crane x).order ≠ none → (s.crane x).position ≠ none)
      ∧ (∀ x, (s.crane x).state = .awaitYield → ∃ r ∈ s.pairOf (aisleOf x), r.waiting = x)
      ∧ ∀ y, ∀ o ∈ (s.crane y).order, ∀ w ∈ o.yieldPartner, ∃ r ∈ s.pairOf (aisleOf y), r.waiting = w)
    (pairs : ∀ a, ∀ r ∈ s.pairOf a, aisleOf r.waiting = a ∧ s.pairInLaw r)
    (free : ∀ a, s.pairOf a = none → (s.crane (craneAt a .near)).position ≠ none →
      (s.crane (craneAt a .far)).position ≠ none → s.separatedAt a) : s.railInLaw := by
  obtain ⟨offline, known, rest, ordered, waits, partner⟩ := h
  refine ⟨ho, hs, fun x p e => hp x p e, offline, fun x => (known x).trans (isBays_iff _), fun x e => ?_, ordered, fun x e => ?_,
    fun y o w e k => ?_, fun a => ?_⟩
  · obtain ⟨p, hp, h⟩ := rest x e
    exact ⟨p, hp, h⟩
  · obtain ⟨r, hr, h⟩ := waits x e
    exact ⟨r, hr, h⟩
  · obtain ⟨r, hr, h⟩ := partner y o e w k
    exact ⟨r, hr, h⟩
  · split
    · next r e => exact pairs a r e
    · next e => exact free a e

/-! States. -/

def nearSlot : Slot := slot .left 45 3 .front

/-- The store of "One ORDER on the line". -/
def storeJob (st : JobState) (chosen : Option Slot) : Job :=
  { serial := 1, tag := 0x40, pallet := 0x1040, cls := 0, admittedAt := 0, state := st, declines := 0,
    kind := .store { aisle := 3, side := .near } [nearSlot] chosen false }

/-- A retrieve behind a blocker, on lane 6. -/
def laneJob (st : JobState) : Job :=
  { serial := 2, tag := 0x41, pallet := 0x1041, cls := 1, admittedAt := 0, state := st, declines := 1,
    kind := .retrieve (slot .right 22 9 .rear) (some 0x1042) (some (6, 1)) }

/-- The retrieve of that blocker, on lane 6 with a given sequence. -/
def frontJob (q : Word16) : Job :=
  { laneJob .pending with tag := 0x42, pallet := 0x1042, kind := .retrieve (slot .right 22 9 .front) none (some (6, q)) }

/-- Both jobs live, lane 6 OPEN with next due 0. -/
def stocked (st : JobState) : State :=
  let s := site.setJobs [storeJob st none, laneJob st]
  (s.setTable [{ slot := slot .right 22 9 .rear, use := .retrieveSource 0x41 },
    { slot := slot .right 30 9 .front, use := .spareFree }]).setLane 6 (lane6 0 [])

def storeOrder (os : OrderState) : Order :=
  { Order.new 0x0217 .job os storeLegs with storeTag := some 0x40, lastCapture := some 5, acceptTimer := 10 }

/-- Crane 6 with the store's order. -/
def carrying (cs : CraneState) (os : OrderState) : State :=
  ((stocked .ordered).setCrane 6 { idleAt 20 9 with state := cs, order := some (storeOrder os) }).setSpan 6 (.bays 0 45)

/-- Crane 7 waits while crane 6 yields to bay 18 (the example of 4.8). -/
def yieldOrder (os : OrderState) : Order :=
  { Order.new 7 .yield os
      [{ storeLegs.head (by decide) with target := .rail 3 18 9, action := .stay }] with
    yieldPartner := some 7, acceptTimer := 10 }

def yielding (os : OrderState) : State :=
  (((((site.setCrane 6 { idleAt 20 9 with state := .yielding, order := some (yieldOrder os) }).setSpan 6
    (.bays 18 20)).setCrane 7
      { idleAt 61 1 with state := .awaitYield, order := some { storeOrder .awaitYield with id := 8 } }).setSpan 7
    (.bays 22 61)).setPair 3 (some { waiting := 7, yielding := 6, target := 18 }))

/-- A pass for crane 7, and crane 6 behind it in the queue. -/
def passing (stage : Stage) : State :=
  let s := (((stocked .pending).setCraneState 7 .queued).setCraneState 6 .queued).startPass 7 0 false
  let s := s.setEngine { s.engine with queue := [{ crane := 6, invalid := 0 }] }
  match s.engine.pass with
  | some p => s.setStage p stage
  | none => s

/-- A command waits. -/
def commanded (c : Instr) (s : State) : State := { s with pending := [c] }

/-- The reply stream holds n replies. -/
def replying (n : Nat) : State :=
  { site with port := { site.port with replies := .replicate n { ref := 0, kind := 0, code := .ok, data := .empty } } }

theorem witness_StepRunsTheFrontCommand : (commanded .passCompletion site).pending = .passCompletion :: [] := rfl

/-- Nothing at hand; a byte on the management line; bytes on the lines of cranes 6 and 7; a pass with an item left, and with none. -/
theorem witness_IdleStepIsOneUnit :
    let byte : LineByte := { byte := 0x5A, good := true }
    let told : State := { site with lines := { site.lines with hostIn := [byte] } }
    let lines := (site.lines.craneIn.set 6 [byte]).set 7 [byte]
    let heard : State := { site with lines := { site.lines with craneIn := lines } }
    site.pending = [] ∧ site.lines.hostIn = [] ∧ (∀ x : Crane, site.lines.craneIn.get x = []) ∧ site.engine.pass = none
      ∧ told.lines.hostIn = byte :: [] ∧ heard.lines.craneIn.get 6 = byte :: []
      ∧ (∀ y : Crane, y < 6 → heard.lines.craneIn.get y = [])
      ∧ (∃ p ∈ (passing .start).engine.pass, ((passing .start).passItem p).isSome = true)
      ∧ ∃ p ∈ (passing (.retrieve none (some 2) none)).engine.pass,
        (passing (.retrieve none (some 2) none)).passItem p = none := by
  decide +kernel

theorem witness_BoundsStayInLaw :
    (carrying .running .running).trimsInLaw ∧ (carrying .running .running).noticesInLaw
      ∧ (carrying .running .running).repliesInLaw ∧ (carrying .running .running).weightsInLaw
      ∧ ∃ t, step (commanded .paceIntervalExpiry (carrying .running .running)) = .next t := by
  refine ⟨?_, ?_, ?_, ?_, _, rfl⟩
  · unfold State.trimsInLaw; decide +kernel
  · unfold State.noticesInLaw; decide +kernel
  · unfold State.repliesInLaw; decide +kernel
  · unfold State.weightsInLaw; decide +kernel

theorem witness_LawsHaveSteps :
    (∃ t, step (stocked .pending) = .next t) ∧ (∃ t, step (commanded .passCompletion (yielding .running)) = .next t)
      ∧ ∀ x bay level rest, (commanded .passCompletion (yielding .running)).pending ≠ .faultClear x bay level :: rest :=
  ⟨⟨_, rfl⟩, ⟨_, rfl⟩, fun _ _ _ _ h => nomatch h⟩

theorem witness_PoolStaysInLaw : (stocked .pending).poolInLaw :=
  ⟨by decide +kernel, by decide +kernel, by decide +kernel, fun _ =>
    Nat.le_trans (List.length_filter_le _ _) (by decide +kernel)⟩

theorem witness_LanesStayInLaw : (stocked .pending).lanesInLaw := by
  have a : ∀ l, ((stocked .pending).laneOf l).liveJobs
        = (stocked .pending).pool.jobs.countP (fun j => j.lane?.any (fun n => n.1 == l))
      ∧ 1 ≤ ((stocked .pending).laneOf l).window ∧ ((stocked .pending).laneOf l).window ≤ 32
      ∧ ((stocked .pending).laneOf l).delivered = [] := by decide +kernel
  refine ⟨by decide +kernel, fun j hj l d e => ?_, fun l => ?_⟩
  · have k : j = storeJob .pending none ∨ j = laneJob .pending := by
      rcases hj with _ | ⟨_, _ | ⟨_, h⟩⟩
      · exact .inl rfl
      · exact .inr rfl
      · cases h
    rcases k with rfl | rfl
    · cases e
    · cases e
      decide +kernel
  · obtain ⟨h1, h2, h3, h4⟩ := a l
    refine ⟨h1, h2, h3, by rw [h4]; exact List.nodup_nil, fun d hd => ?_⟩
    rw [h4] at hd
    cases hd

theorem yielding_spans : (yielding .running).spansInLaw := spans_ok _ (by decide +kernel)

theorem yielding_orders : (yielding .running).ordersInLaw := orders_ok _ (by decide +kernel)

theorem carrying_orders : (carrying .running .running).ordersInLaw := orders_ok _ (by decide +kernel)

/-- Every owned entry is its owner's. -/
def ownedOk (s : State) (e : Entry) : Bool :=
  match e.use with
  | .spareFree => true
  | .retrieveSource t => s.pool.jobs.any fun j => j.tag == t && j.slot? == some e.slot
  | .storeDest t => allCranes.any fun x => (s.crane x).order.any fun o => o.storeTag == some t
  | .blockerSource t => allCranes.any fun x => (s.crane x).order.any fun o =>
      o.retrieveTag == some t && o.relocation.any fun r => r.front == e.slot
  | .spareInUse t => allCranes.any fun x => (s.crane x).order.any fun o =>
      o.retrieveTag == some t && o.relocation.any fun r => r.spare == e.slot

theorem pairing_ok (s : State)
    (each : ∀ x, ∀ o ∈ (s.crane x).order, (o.kind ≠ .job → o.tags = [])
      ∧ (o.storeTag.all fun t => s.pool.jobs.any fun j => j.tag == t && !j.isRetrieve && j.state == State.jobStateUnder o)
      ∧ o.retrieveTag.all fun t => s.pool.jobs.any fun j => j.tag == t && j.isRetrieve && j.state == State.jobStateUnder o)
    (apart : ∀ x y, ∀ o ∈ (s.crane x).order, ∀ q ∈ (s.crane y).order, (o.tags.any fun t => q.tags.contains t) → x = y)
    (back : ∀ j ∈ s.pool.jobs, j.state ≠ .pending → ∃ x, ∃ o ∈ (s.crane x).order, j.tag ∈ o.tags) :
    s.pairingInLaw := by
  refine ⟨fun x o e => ?_, fun x y o q t e f ht hu => apart x y o e q f ?_, fun j hj k => ?_⟩
  · obtain ⟨kind, store, retrieve⟩ := each x o e
    refine ⟨kind, fun t h => ?_, fun t h => ?_⟩
    · simpa [h, and_assoc] using store
    · simpa [h, and_assoc] using retrieve
  · simpa using ⟨t, ht, hu⟩
  · obtain ⟨x, o, e, m⟩ := back j hj k
    exact ⟨x, o, e, m⟩

theorem table_ok (s : State)
    (h : (s.table.map (·.slot)).Nodup ∧ ((s.table.map (·.use)).filter (· != .spareFree)).Nodup
      ∧ (∀ a, (Table.spareList s.table a).length ≤ 16)
      ∧ (∀ j ∈ s.pool.jobs, ∀ a ∈ j.slot?, { slot := a, use := .retrieveSource j.tag } ∈ s.table
        ∧ (j.blocker? ≠ none → a.depth = .rear ∧ (s.geometryOf a.aisle).doubleDeep = true))
      ∧ ∀ e ∈ s.table, ownedOk s e = true) : s.tableInLaw := by
  obtain ⟨slots, uses, spares, sources, owned⟩ := h
  refine ⟨slots, uses, spares, fun j hj a e => sources j hj a e, fun e he => ?_⟩
  have k := owned e he
  revert k
  unfold ownedOk
  cases e.use with
  | spareFree => exact fun _ => trivial
  | retrieveSource t => simp
  | storeDest t => simpa [Option.any_eq_true] using fun x _ o h store => ⟨x, o, h, store⟩
  | blockerSource t => simpa [Option.any_eq_true] using fun x _ o h tag r reloc slot => ⟨x, o, h, tag, r, reloc, slot⟩
  | spareInUse t => simpa [Option.any_eq_true] using fun x _ o h tag r reloc slot => ⟨x, o, h, tag, r, reloc, slot⟩

/-- Crane 6 at work on its store, and a retrieve that waits. -/
def working : State :=
  ((((stocked .pending).setJobs [storeJob .active (some nearSlot), laneJob .pending]).setTable
    ((stocked .pending).table ++ [{ slot := nearSlot, use := .storeDest 0x40 }])).setCrane 6
      { idleAt 20 9 with state := .running, order := some (storeOrder .running) }).setSpan 6 (.bays 0 45)

theorem working_work : working.workInLaw := by
  refine ⟨⟨by decide +kernel, by decide +kernel, by decide +kernel, fun _ =>
    Nat.le_trans (List.length_filter_le _ _) (by decide +kernel)⟩, orders_ok _ (by decide +kernel),
    pairing_ok _ (by decide +kernel) (by decide +kernel) (by decide +kernel), table_ok _ (by decide +kernel)⟩

theorem witness_WorkStaysInLaw :
    working.workInLaw ∧ ∃ t, step (commanded (.orderDone 6 0x0217 45 3) working) = .next t :=
  ⟨working_work, _, rfl⟩

theorem witness_PositionsStayInSpans_and_OrdersStayInLaw :
    (yielding .running).spansInLaw ∧ (yielding .running).ordersInLaw
      ∧ ∃ t, step (commanded (.orderDone 6 7 18 9) (yielding .running)) = .next t :=
  ⟨yielding_spans, yielding_orders, _, rfl⟩

theorem yielding_pair : (yielding .running).pairInLaw { waiting := 7, yielding := 6, target := 18 } := by
  have order : ((yielding .running).crane 6).order = some (yieldOrder .running) := by decide +kernel
  have position : ((yielding .running).crane 7).position = some { bay := 61, level := 1 } := by decide +kernel
  refine ⟨rfl, by decide +kernel, by decide +kernel, ⟨_, order, rfl, .inr rfl, rfl⟩, _, position, ?_⟩
  unfold State.separatedAt
  decide +kernel

theorem witness_SpansStaySeparated : (yielding .running).railInLaw := by
  refine rail_ok _ yielding_orders yielding_spans (by decide +kernel) (by decide +kernel) (fun a r h => ?_) (fun a => ?_)
  · have k : ∀ a, ∀ r ∈ (yielding .running).pairOf a, a = 3 ∧ r = { waiting := 7, yielding := 6, target := 18 } := by
      decide +kernel
    obtain ⟨rfl, rfl⟩ := k a r h
    exact ⟨by decide +kernel, yielding_pair⟩
  · unfold State.separatedAt
    revert a
    decide +kernel

/-- The law of the slots with no pass in flight, from facts that can be decided. -/
theorem slots_ok (s : State)
    (jobs : ∀ j ∈ s.pool.jobs, ∀ c ∈ j.candidates ++ j.chosen?.toList ++ j.slot?.toList,
      s.inGeometry c = true ∧ c.aisle = j.aisle)
    (spares : ∀ e ∈ s.table, e.use.isSpare = true → s.inGeometry e.slot = true)
    (legs : ∀ x, ∀ o ∈ (s.crane x).order, ∀ l ∈ o.legs,
      (match l.target with | .slot c => s.inGeometry c && c.aisle == aisleOf x | _ => true) = true)
    (free : s.engine.pass = none) : s.slotsInLaw := by
  refine ⟨fun j hj c h => jobs j hj c (by simp [h]), spares, fun x o e l hl c h => ?_, fun p _ _ _ e => ?_⟩
  · have k := legs x o e l hl
    rw [h] at k
    simpa [State.slotHeld] using k
  · rw [free] at e
    cases e

/-- Crane 6 at work up to bay 45, crane 7 IDLE at the end of the rail. -/
theorem witness_SlotsStayInGeometry :
    working.workInLaw ∧ working.slotsInLaw ∧ working.railInLaw ∧ working.spansOnRail
      ∧ working.spanOf 7 = .bays (working.geometryOf 3).bays.succ (working.geometryOf 3).bays.succ
      ∧ ∃ t, step (commanded (.orderDone 6 0x0217 45 3) working) = .next t := by
  refine ⟨working_work, slots_ok _ (by decide +kernel) (by decide +kernel) (by decide +kernel) rfl,
    rail_ok _ working_work.2.1 (spans_ok _ (by decide +kernel)) (by decide +kernel) (by decide +kernel) (fun a r h => ?_)
      (fun a => ?_), fun x lo hi h => ?_, by decide +kernel, _, rfl⟩
  · have k : ∀ a, working.pairOf a = none := by decide +kernel
    rw [k a] at h
    cases h
  · unfold State.separatedAt
    revert a
    decide +kernel
  · have k : ∀ x, (match working.spanOf x with
        | .bays _ hi => decide (hi ≤ (working.geometryOf (aisleOf x)).bays + 1)
        | _ => true) = true := by decide +kernel
    have k := k x
    rw [h] at k
    simpa using k

/-! Lines, frames and notices. -/

theorem witness_ReceiversAndDroppedFrames :
    ([] : List Byte).length + 1 < 2 ∧ ([] : List Byte).length + 1 = 1 ∧ (List.replicate 249 (0 : Byte)).length + 1 = 250
      ∧ requestBytes (.queryStatus [0, 1]) = some (0x1E, [0, 1]) ∧ 16 ≤ (replying 16).port.replies.length := by
  decide +kernel

theorem witness_FramesRoundTrip :
    (Instr.accept 15 0xFFFF).wf = true ∧ craneRecordBytes (.accept 15 0xFFFF) = some (15, 0x11, [0xFF, 0xFF])
      ∧ (Instr.decline 0 0x0217 255).wf = true ∧ craneRecordBytes (.decline 0 0x0217 255) = some (0, 0x12, [0x02, 0x17, 0xFF])
      ∧ (Instr.admitStore (.replicate 250 0)).wf = true
      ∧ requestBytes (.admitStore (.replicate 250 0)) = some (0x01, .replicate 250 0)
      ∧ (Instr.unknownRequest 0x20 [0]).wf = true ∧ requestBytes (.unknownRequest 0x20 [0]) = some (0x20, [0]) := by
  decide +kernel

theorem witness_RefusedRequestsChangeNothing :
    requestBytes (.queryStatus [0, 1]) = some (0x1E, 0 :: 1 :: []) ∧ (replying 15).port.replies.length < 16 := by
  decide +kernel

/-- One byte over and one byte short. -/
theorem witness_MalformedRequestsAnswered :
    requestBytes (.queryStatus [0, 1, 0]) = some (0x1E, [0, 1, 0]) ∧ ([0] : List Byte).length ≠ 0
      ∧ requestBytes (.setAislePolicy (0 :: 1 :: .replicate 17 1)) = some (0x0D, 0 :: 1 :: .replicate 17 1)
      ∧ (List.replicate 17 (1 : Byte)).length ≠ 18 ∧ (replying 15).port.replies.length < 16 := by
  decide +kernel

/-- Fields one past what their kind carries: a class of 4, counts of 0 and 5, a slot given twice, a blocker that is the job's
own pallet, a factor of 4096, a notice class given twice, a yes/no byte of 2, a place of kind 3, a crane fit of 3 with configured no. -/
theorem witness_MalformedRequestsAnswered_fields :
    let store (cls count : Byte) (slots : List Byte) : List Byte := [0, 0, 0, 9, 0, 0, 16, 9, cls, 0x23, 0, 0, 0, count] ++ slots
    (readAdmitStore (store 3 1 [3, 45, 3, 0])).isSome = true ∧ readAdmitStore (store 4 1 [3, 45, 3, 0]) = none
      ∧ readAdmitStore (store 3 0 []) = none ∧ readAdmitStore (store 3 2 [3, 45, 3, 0, 3, 45, 3, 9]) = none
      ∧ (readAdmitStore (store 3 4 [3, 1, 3, 0, 3, 2, 3, 0, 3, 3, 3, 0, 3, 4, 3, 0])).isSome = true
      ∧ readAdmitStore (store 3 5 (.replicate 20 3)) = none
      ∧ readAdmitRetrieve [0, 0, 0, 9, 0, 0, 16, 9, 0, 3, 45, 3, 0, 1, 0, 0, 16, 9] = none
      ∧ readAmendStore [0, 0, 0, 0x40, 1, 0x60, 0, 0, 0] = none ∧ readLoadWeights [0, 0, 1, 0x10, 0] = none
      ∧ readSetNotices [2, 10, 1, 3, 0, 10, 1, 3, 0] = none ∧ readSetNotices [1, 10, 2, 3, 0] = none
      ∧ 1 < (2#8).toNat ∧ (0x60#8).toNat / 32 % 4 = 3
      ∧ (readSetGeometry [8, 0, 0, 0, 1, 0, 0, 2, 9]).isSome = true ∧ readSetGeometry [8, 0, 0, 0, 1, 0, 0, 3, 9] = none
      ∧ (readSetGeometry [8, 1, 0, 0, 1, 0, 0, 3, 9]).isSome = true := by
  decide +kernel

/-- A SILENCE hold, auto-released or not. -/
def silent (auto : Bool) : State :=
  { site with sup := { site.sup with holdSilence := true, timing := { site.sup.timing with autoRelease := auto } } }

theorem witness_HostFrameHeard :
    site.sup.holdSilence = false ∧ (silent false).sup.timing.autoRelease = false
      ∧ (silent true).sup.holdSilence = true ∧ (silent true).sup.timing.autoRelease = true := by
  decide +kernel

def notice (level : Nat) (e : Event) : Notice := { level := level, stamp := 0, event := e }

/-- The transmitter with replies, notices and a frame before it. -/
def sending (replies : Nat) (notices : List Notice) (last : TxSource) : State :=
  let s := replying replies
  { s with port := { s.port with lastSent := last }, notices := { s.notices with queue := notices } }

theorem witness_TransmitterAndReplies :
    (site.pushReply { ref := 0, kind := 0, code := .ok, data := .empty }).port.tx
        = some (.reply { ref := 0, kind := 0, code := .ok, data := .empty })
      ∧ (sending 0 [] .notice).port.tx = none ∧ (sending 0 [] .notice).port.replies = []
      ∧ (sending 0 [] .notice).notices.queue = []
      ∧ (sending 1 [] .reply).port.replies = { ref := 0, kind := 0, code := .ok, data := .empty } :: []
      ∧ (sending 1 [] .reply).notices.queue = []
      ∧ (sending 16 [notice 3 (.sparesEmpty 0)] .notice).port.lastSent = .notice
      ∧ (sending 16 [notice 3 (.sparesEmpty 0)] .reply).port.lastSent = .reply
      ∧ (sending 16 [notice 3 (.sparesEmpty 0)] .reply).notices.next = some (notice 3 (.sparesEmpty 0)) := by
  decide +kernel

/-- R37, R189: a STORE job has no waiting item; a retrieve waits on no job, or on the job of a tag. -/
theorem witness_TransmitterAndReplies_waiting :
    waitingBytes (storeJob .pending none) none = [0] ∧ waitingBytes (laneJob .pending) none = [1, 0, 0]
      ∧ waitingBytes (laneJob .pending) (some 0x42) = [1, 1, 1, 0, 0, 0, 0x42] := by
  decide

/-- A queue of 32, the youngest of the lowest level last. -/
def fullUnit : NoticeUnit :=
  { NoticeUnit.powerOn with queue := .replicate 31 (notice 2 (.sparesEmpty 0)) ++ notice 1 (.jobFailed 0 1) :: [] }

def quietUnit : NoticeUnit :=
  { NoticeUnit.powerOn with classes := .replicate 11 { ClassRecord.powerOn 0 with notice := false } }

theorem witness_EventsAreRecorded :
    ((fullUnit.classOf 5).notice = true ∧ (fullUnit.queue.drop 1).length < 32)
      ∧ (quietUnit.classOf (eventClass (.sparesEmpty 0))).notice = false
      ∧ fullUnit.queue.length = 32 ∧ (∀ m ∈ fullUnit.queue, m.level ≤ 3)
      ∧ (∀ m ∈ fullUnit.queue, (notice 1 (.jobFailed 0 1)).level ≤ m.level)
      ∧ (notice 1 (.jobFailed 0 1)).level < (notice 2 (.jobFailed 0 2)).level
      ∧ (notice 1 (.jobFailed 0 2)).level ≤ (notice 1 (.jobFailed 0 1)).level
      ∧ ∀ k, ({ fullUnit with classes := fullUnit.classes.set 5 { fullUnit.classOf 5 with flag := true } } :
          NoticeUnit).classOf k = if k = 5 then { fullUnit.classOf k with flag := true } else fullUnit.classOf k := by
  decide +kernel

theorem witness_NoticesLeaveByLevel :
    let u : NoticeUnit := { fullUnit with
      queue := [notice 1 (.jobFailed 0 1)] ++ notice 2 (.sparesEmpty 0) :: [notice 2 (.sparesEmpty 1)] }
    u.queue = [notice 1 (.jobFailed 0 1)] ++ notice 2 (.sparesEmpty 0) :: [notice 2 (.sparesEmpty 1)]
      ∧ (∀ m ∈ [notice 1 (.jobFailed 0 1)], m.level < (notice 2 (.sparesEmpty 0)).level)
      ∧ ∀ m ∈ [notice 2 (.sparesEmpty 1)], m.level ≤ (notice 2 (.sparesEmpty 0)).level := by
  decide +kernel

theorem witness_TimingAndNoticeSettingsTaken :
    (replying 15).port.replies.length < 16 ∧ (1#8).toNat ≤ 1 ∧ (3#8).toNat = (3 : Fin 4).val ∧ 3 < (4#8).toNat
      ∧ readSetNotices [1, 10, 1, 3, 0] = some [{ cls := 10, notice := true, level := 3, clearOnSend := false }]
      ∧ readSetNotices [1, 10, 1, 4, 0] = some [{ cls := 10, notice := true, level := 4, clearOnSend := false }] := by
  decide +kernel

/-! Clocks, limits and holds. -/

/-- A reply's code and a HOLD CHANGE's causes by their numbers, at the first and the last of each list. -/
theorem witness_TransmitterAndReplies_codes :
    (0x0217 : Word16) = 0x02#8 ++ 0x17#8 ∧ [ReplyCode.busy, .range][1]? = some ReplyCode.range
      ∧ (∀ k, (1#16 ||| 8#16).getLsbD k
          = if k = 0 then true else if k = 1 then false
            else ((Vector.replicate 8 false).set 1 true : Vector Bool 8).toList[k - 2]?.getD false)
      ∧ [CraneState.offline, .lost][1]? = some CraneState.lost
      ∧ eventBytes (.craneState 6 .lost .silence) = [6, 10, 4] ∧ eventBytes (.craneState 15 .offline .withdrawn) = [15, 0, 8] := by
  refine ⟨by decide, by decide, fun k => ?_, by decide⟩
  rcases Nat.lt_or_ge k 16 with h | h
  · revert k; decide +kernel
  · have e : (((Vector.replicate 8 false).set 1 true : Vector Bool 8).toList)[k - 2]? = none :=
      List.getElem?_eq_none (by simp; omega)
    rw [e, BitVec.getLsbD_of_ge _ _ h, if_neg (by omega), if_neg (by omega)]
    rfl

theorem witness_HoldAndResumeTaken :
    (replying 15).port.replies.length < 16 ∧ 7 < (8#8).toNat ∧ (8#8) ≠ 0xFF#8 ∧ 7 < (254#8).toNat ∧ (254#8) ≠ 0xFF#8 := by
  decide +kernel

/-- The pointer stands at 15; crane 6 is the first the rotation can poll, and crane 7 the last. One interval more raises their
counts to 1. -/
theorem witness_PaceExpiryAndPoll :
    (∀ x : Crane, (State.reset.crane x).state ≠ .offline → (0 : Nat) = 0)
      ∧ site.sup.pollPointer + 1 + 6 = 6 ∧ (site.crane 6).state ≠ .offline
      ∧ (∀ m : Fin 16, m < 6 → (site.crane (site.sup.pollPointer + 1 + m)).state = .offline)
      ∧ let u := ((({ site with sup := { site.sup with jobClock := 1, paceElapsed := 0, hostSilence := 1 } } :
            State).setSilence 6 1).setSilence 7 1)
        (∀ x, u.silenceOf x = if (site.crane x).state = .offline then site.silenceOf x else min 255 (site.silenceOf x + 1))
        ∧ ∀ x, u.crane x = { site.crane x with order := (site.crane x).order.map fun o =>
            if o.state = .sent ∨ o.state = .revoking then { o with acceptTimer := o.acceptTimer + 1 } else o } := by
  decide +kernel

/-- Crane 6 with the counts at the limits. -/
def atLimit (cs : CraneState) (os : OrderState) : State := (carrying cs os).setSilence 6 30

theorem atLimit_orders : (atLimit .running .running).ordersInLaw := orders_ok _ (by decide +kernel)

theorem witness_LimitsReached :
    (atLimit .running .running).ordersInLaw ∧ site.silenceOf 6 < site.sup.timing.silenceLimit
      ∧ (State.reset.crane 6).state = .offline ∧ ((atLimit .running .running).crane 6).state ≠ .offline
      ∧ ((atLimit .running .running).crane 6).state ≠ .lost
      ∧ (atLimit .running .running).sup.timing.silenceLimit ≤ (atLimit .running .running).silenceOf 6
      ∧ ((atLimit .running .running).crane 6).order = some (storeOrder .running) :=
  ⟨atLimit_orders, by decide +kernel⟩

/-! The cost unit. -/

/-- Three legs: from the near station to the slot of the worked example, from that slot to the far station, and from a position to
a rail position. -/
theorem witness_LegTimes :
    let s := weighted .bothRates
    let near : Origin := .place (.station { aisle := 3, side := .near })
    let far : Place := .station { aisle := 3, side := .far }
    let deep := slot .right 37 12 .rear
    (s.policyOf 3).weighting = true ∧ (s.policyOf 3).profileMode = .profileA
      ∧ weightAt s.cost.weights (600 + (12 - 1) / 3 * ((60 + 4 - 1) / 4) + (37 - 1) / 4) = { mark := false, factor := 1126 }
      ∧ ((37 : Nat) : Int) = |((s.originAt near).bay : Int) - (s.resolve (.slot deep)).bay|
      ∧ ((11 : Nat) : Int) = |((s.originAt near).level : Int) - (s.resolve (.slot deep)).level|
      ∧ ((24 : Nat) : Int) = |((s.originAt (.place (.slot deep))).bay : Int) - (s.resolve far).bay|
      ∧ ((11 : Nat) : Int) = |((s.originAt (.place (.slot deep))).level : Int) - (s.resolve far).level|
      ∧ ((2 : Nat) : Int) = |((s.originAt (.position { bay := 20, level := 9 })).bay : Int) - (s.resolve (.rail 3 18 9)).bay|
      ∧ ((0 : Nat) : Int)
        = |((s.originAt (.position { bay := 20, level := 9 })).level : Int) - (s.resolve (.rail 3 18 9)).level|
      ∧ (site.policyOf 3).weighting = false := by
  decide +kernel

theorem witness_CellsLieInTheirRange :
    (((weighted .bothRates).policyOf 3).weighting = true)
      ∧ 1 ≤ policy3.bayGroup ∧ 1 ≤ policy3.levelGroup ∧ 60 ≤ aisle3.bays ∧ 24 ≤ aisle3.levels := by
  decide +kernel

theorem witness_CostSettingsTaken :
    (replying 15).port.replies.length < 16 ∧ (1#8).toNat ≤ 1 ∧ 15 < (16#8).toNat
      ∧ (readSetProfile (1 :: .replicate 14 0)).isSome = true ∧ (readSetScoring (.replicate 11 255)).isSome = true := by
  decide +kernel

/-- Settings at the ends of their ranges, and one past them. -/
theorem witness_AisleSettingsTaken :
    (replying 15).port.replies.length < 16
      ∧ (∃ r ∈ readSetGeometry [8, 1, 60, 24, 1, 1, 1, 2, 3], 7 < r.aisle.toNat)
      ∧ (∃ r ∈ readSetGeometry [7, 1, 120, 40, 1, 40, 1, 2, 8], r.aisle.toNat = (7 : Aisle).val)
      ∧ (∃ r ∈ readSetGeometry [7, 0, 0, 0, 1, 0, 0, 2, 9], r.configured = false)
      ∧ (∃ r ∈ readSetGeometry [7, 1, 120, 40, 1, 40, 1, 3, 8], r.configured = true ∧ 2 < r.fit.toNat)
      ∧ (∃ r ∈ readSetPolicy [0, 4, 1, 1, 1, 1, 0, 1, 0, 7, 255, 16, 16, 0, 0, 0, 0, 0], 3 < r.profileMode.toNat)
      ∧ ∃ r ∈ readSetPolicy [7, 3, 1, 120, 1, 40, 0, 1, 0, 7, 255, 16, 16, 0, 0, 0, 0, 0],
        r.aisle.toNat = (7 : Aisle).val ∧ r.profileMode.toNat = profileModeCode .byWindow
        ∧ r.weightingMode.toNat = weightingModeCode .bothRates ∧ r.policy.windowBayLo = 1 ∧ r.policy.windowBayHi = 120
        ∧ r.policy.windowLevelLo = 1 ∧ r.policy.windowLevelHi = 40 ∧ r.policy.weightingBase = 2047
        ∧ r.policy.bayGroup = 16 ∧ r.policy.levelGroup = 16 := by
  decide +kernel

theorem witness_LoadWeightsTaken :
    site.weightsInLaw ∧ (∃ ws, readLoadWeights [0x07, 0xFF, 1, 0x8F, 0xFF] = some (2047, ws) ∧ 2047 + ws.length - 1 ≤ 2047)
      ∧ ∃ ws, readLoadWeights [0x07, 0xFF, 2, 0, 0, 0, 0] = some (2047, ws) ∧ 2047 < 2047 + ws.length - 1 := by
  refine ⟨?_, ⟨_, rfl, by decide⟩, _, rfl, by decide⟩
  unfold State.weightsInLaw
  decide +kernel

/-- At the 63rd and the 64th leg. -/
theorem witness_MeasuredLegsTrim :
    let t : Trim := { trim := 1024, auto := true, legs := 63, predicted := 1888000, actual := 1982500 }
    (site.setTrimOf 6 t).trimOf 6 = t ∧ t.auto = true ∧ 64 ≤ (if t.legs < 64 then t.legs + 1 else t.legs)
      ∧ (site.trimOf 6).auto = false := by
  decide +kernel

/-! Jobs, slots and spares. -/

theorem witness_PlacesAndTheirCode :
    slotBytes (slot .right 37 12 .rear) = [0x1B, 0x25, 0x0C, 0] ∧ stationBytes { aisle := 7, side := .far } = [0x47, 0, 0, 0]
      ∧ (slot .right 255 255 .rear).bay < 256 ∧ (0x63#8).toNat / 32 % 4 = 3 := by
  decide +kernel

/-- An ADMIT STORE at a station, and one at a slot. -/
theorem witness_AdmitStoreTaken :
    (replying 15).port.replies.length < 16
      ∧ (∃ r, readAdmitStore [0, 0, 0, 9, 0, 0, 16, 9, 3, 0x23, 0, 0, 0, 1, 3, 45, 3, 0] = some r
        ∧ r.station = .station { aisle := 3, side := .near })
      ∧ ∃ r, readAdmitStore [0, 0, 0, 9, 0, 0, 16, 9, 3, 3, 45, 3, 0, 1, 3, 45, 3, 0] = some r
        ∧ r.station = .slot nearSlot :=
  ⟨by decide +kernel, ⟨_, rfl, by decide +kernel⟩, _, rfl, by decide +kernel⟩

theorem witness_AdmitRetrieveTaken :
    (replying 15).port.replies.length < 16
      ∧ (∃ r, readAdmitRetrieve [0, 0, 0, 9, 0, 0, 16, 9, 0, 3, 45, 3, 0, 3, 0, 0, 16, 8, 6, 0, 1] = some r
        ∧ r.place = .slot nearSlot)
      ∧ ∃ r, readAdmitRetrieve [0, 0, 0, 9, 0, 0, 16, 9, 0, 0x23, 0, 0, 0, 0] = some r
        ∧ r.place = .station { aisle := 3, side := .near } :=
  ⟨by decide +kernel, ⟨_, rfl, by decide +kernel⟩, _, rfl, by decide +kernel⟩

theorem witness_AmendAndCancelTaken :
    (replying 15).port.replies.length < 16
      ∧ readAmendStore [0, 0, 0, 0x40, 1, 3, 45, 3, 0] = some (0x40, [.slot nearSlot])
      ∧ readCancelJob [0, 0, 0, 0x41, 1] = some (0x41, true)
      ∧ (∀ j ∈ (stocked .pending).pool.jobs, j.tag ≠ 0x42)
      ∧ (stocked .pending).pool.find 0x40 = some (storeJob .pending none) ∧ (storeJob .pending none).state = .pending
      ∧ (storeJob .pending none).kind = .store { aisle := 3, side := .near } [nearSlot] none false
      ∧ (stocked .pending).pool.find 0x41 = some (laneJob .pending)
      ∧ (laneJob .pending).kind = .retrieve (slot .right 22 9 .rear) (some 0x1042) (some (6, 1))
      ∧ (stocked .active).pool.find 0x40 = some (storeJob .active none) ∧ (storeJob .active none).state ≠ .pending := by
  decide +kernel

theorem witness_JobsLeaveThePool :
    (stocked .pending).poolInLaw ∧ laneJob .pending ∈ (stocked .pending).pool.jobs :=
  ⟨witness_PoolStaysInLaw, by decide +kernel⟩

theorem witness_SlotRules : (laneJob .pending).slot? = some (slot .right 22 9 .rear) := by decide +kernel

theorem witness_SparesTaken :
    (replying 15).port.replies.length < 16 ∧ readPlace [3, 60, 24, 0] = some (.slot (slot .left 60 24 .front))
      ∧ site.inGeometry (slot .left 60 24 .front) = true ∧ readPlace [3, 61, 24, 0] = some (.slot (slot .left 61 24 .front))
      ∧ site.inGeometry (slot .left 61 24 .front) = false ∧ readPlace [0x23, 0, 0, 0] ≠ none := by
  decide +kernel

/-- A dual route with a relocation, over the table of `stocked`. -/
def dualResult : PassResult :=
  { storeTag := some 0x40, storeSerial := some 1, storeSlot := some nearSlot, retrieveTag := some 0x41,
    retrieveSerial := some 2,
    relocation := some { blocker := 0x1042, front := slot .right 22 9 .front, spare := slot .right 30 9 .front },
    legs := [] }

theorem witness_DispatchEntriesRevert :
    let t := (stocked .pending).table
    let store := { dualResult with retrieveTag := none, relocation := none }
    let retrieve := { dualResult with storeTag := none, storeSlot := none }
    ((t.map (·.slot)).Nodup ∧ (∃ a, store.storeSlot = some a ∧ useAt t a = none)
        ∧ ∀ e ∈ t, e.use ≠ .storeDest 0x40 ∧ e.use ≠ .blockerSource 0x41 ∧ e.use ≠ .spareInUse 0x41)
      ∧ (store.storeTag = some 0x40 ∧ store.retrieveTag = none ∧ store.relocation = none)
      ∧ (retrieve.storeTag = none ∧ retrieve.retrieveTag = some 0x41
        ∧ ({ retrieve with relocation := none } : PassResult).relocation = none)
      ∧ (∃ q, retrieve.relocation = some q ∧ dualResult.relocation = some q ∧ useAt t q.front = none
        ∧ useAt t q.spare = some .spareFree ∧ dualResult.storeSlot ≠ some q.front)
      ∧ dualResult.storeTag = some 0x40 ∧ dualResult.storeSlot = some nearSlot ∧ dualResult.retrieveTag = some 0x41 := by
  refine ⟨⟨by decide +kernel, ⟨nearSlot, by decide +kernel⟩, by decide +kernel⟩, by decide +kernel, by decide +kernel,
    ⟨{ blocker := 0x1042, front := slot .right 22 9 .front, spare := slot .right 30 9 .front }, by decide +kernel⟩,
    by decide +kernel⟩

/-! Spans and lanes. -/

theorem site_spans : site.spansInLaw := spans_ok _ (by decide +kernel)

/-- Crane 7 IDLE and starved, crane 6 as given. -/
def starving (c : CraneCtx) (sp : Span) : State :=
  ((site.setCrane 7 { idleAt 61 1 with starved := true }).setCrane 6 c).setSpan 6 sp

/-- Crane 6 LOST without an order, with an interval that RESET with scope JOBS kept. -/
def resting : State := starving { idleAt 20 9 with state := .lost } (.bays 18 25)

/-- A span that shrinks beside a starved crane, one that does not, and one left to narrow to bays 20 to 45. -/
theorem witness_SpansAndSeparation :
    resting.spanOf 6 = .bays 18 25 ∧ (resting.crane (sibling 6)).starved = true ∧ (site.crane (sibling 6)).starved = false
      ∧ ((carrying .running .running).crane 6).order = some (storeOrder .running)
      ∧ ((carrying .running .running).crane 6).position = some { bay := 20, level := 9 }
      ∧ (carrying .running .running).spanOf 6 = .bays 0 45
      ∧ (carrying .running .running).routeSpan 20 (((storeOrder .running).legs.drop 1).map (·.target)) = .bays 20 45 := by
  decide +kernel

/-- R71: a FAULT from the resting crane leaves it the bay it stands at, which is narrower, and the starved crane is triggered.
-/
theorem test_rest_shrinks :
    ((after (.fault 6 9 20 9 0 0) resting).crane 7).state = .queued
      ∧ (after (.fault 6 9 20 9 0 0) resting).spanOf 6 = .bays 20 20 := by
  decide +kernel

/-- R2 before R68: the bay of a STATUS BUSY from a crane whose span is UNKNOWN is brought into range, which counts, and not
tested. -/
theorem test_busy_range :
    let s := (site.setCrane 6 { CraneCtx.powerOn with state := .syncing }).setSpan 6 .unknown
    ((after (.status 6 .busy 0 0 255 9 false) s).crane 6).anomalies = 1
      ∧ ((after (.status 6 .busy 0 0 61 9 false) s).crane 6).anomalies = 0
      ∧ (after (.status 6 .busy 0 0 255 9 false) s).spanOf 6 = .unknown := by
  decide +kernel

/-- Crane 6 at its bay, in an order, SYNCING, resting, and reported at and past the ends of the rail. -/
theorem witness_ReportedPositionsTaken :
    site.spansInLaw ∧ site.separatedAt (aisleOf 6) ∧ ((carrying .running .running).crane 6).order ≠ none
      ∧ ((site.setCraneState 6 .syncing).crane 6).state = .syncing ∧ 1 ≤ (site.geometryOf (aisleOf 6)).levels
      ∧ (if (site.geometryOf (aisleOf 6)).bays + 1 < 61 then (site.geometryOf (aisleOf 6)).bays + 1 else 61) = 61
      ∧ (if (site.geometryOf (aisleOf 6)).bays + 1 < 62 then (site.geometryOf (aisleOf 6)).bays + 1 else 62) ≠ 62
      ∧ site.spanOf 6 = .bays 20 20 ∧ (site.setSpan 6 .unknown).spanOf 6 = .unknown ∧ site.spanOf 0 = .absent
      ∧ (resting.crane 6).order = none ∧ (resting.crane 6).state = .lost ∧ resting.spanOf 6 = .bays 18 25
      ∧ ((resting.takePosition 6 20 9).crane 6).position = some { bay := 20, level := 9 } := by
  refine ⟨site_spans, ?_, by decide +kernel⟩
  unfold State.separatedAt
  decide +kernel

/-- The three answers of the example in 4.3, the separations they start from, and an answer of the near crane with the target
at the end of the rail. -/
theorem witness_ClaimsKeepSeparation :
    let route (bay : Nat) : List Place := [.slot (slot .left bay 9 .front), .station { aisle := 3, side := .far }]
    let near := (site.setCrane 7 (idleAt 60 1)).setSpan 7 (.bays 60 60)
    (site.setSpan 7 (.bays 61 61)).separatedAt 3 ∧ (3 : Aisle) = aisleOf 7
      ∧ site.spanAnswer 7 (some { bay := 61, level := 1 }) (route 24) = .eligible
      ∧ site.spanAnswer 7 (some { bay := 61, level := 1 }) (route 22) = .yieldEligible 18
      ∧ site.routeSpan 61 (route 22) = .bays 22 61 ∧ 61 ≤ (site.geometryOf 3).bays + 1
      ∧ (site.crane (sibling 7)).state = .idle ∧ (site.crane (sibling 7)).position = some { bay := 20, level := 9 }
      ∧ near.spanAnswer 6 (some { bay := 20, level := 9 }) [.slot (slot .left 57 9 .front)] = .yieldEligible 61
      ∧ near.spanAnswer 6 (some { bay := 20, level := 9 }) [.slot (slot .left 58 9 .front)] = .ineligible := by
  refine ⟨?_, by decide +kernel⟩
  unfold State.separatedAt
  decide +kernel

/-- Sequences at 0, 1, 31 and 32 ahead. -/
theorem witness_LaneDelivery :
    let r := lane6 65534 [0, 1]
    r.opened = true ∧ r.delivered.length ≤ 31 ∧ r.delivered.Nodup ∧ (65534 : Word16) = r.nextDue
      ∧ 1 ≤ ((65535 : Word16) - r.nextDue).toNat ∧ (65535 : Word16) ∉ r.delivered
      ∧ ((29 : Word16) - r.nextDue).toNat = 31 ∧ (29 : Word16) ∉ r.delivered
      ∧ (30 : Word16) ≠ r.nextDue ∧ ((30 : Word16) - r.nextDue).toNat = 32 ∧ (0 : Word16) ∈ r.delivered
      ∧ ((site.setLane 6 (lane6 1 [])).laneOf 6).deliver 1 = (lane6 2 [], true)
      ∧ ((site.setLane 6 (lane6 1 [])).laneOf 6).deliver 2 = (lane6 1 [2], false) := by
  decide +kernel

theorem witness_LaneRequestsTaken :
    (replying 15).port.replies.length < 16 ∧ (0x0217 : Word16) = (0x02#8) ++ (0x17#8) ∧ 7 < (8#8).toNat := by
  decide +kernel

theorem witness_CraneRequestsTaken :
    (∃ done : Nat → Bool, ∀ i, done i = ((storeOrder .running).legs[i]?).any fun l => l.done)
      ∧ (replying 15).port.replies.length < 16 ∧ 15 < (16#8).toNat ∧ (storeOrder .running).storeTag = some 0x40
      ∧ ((carrying .running .running).crane 6).order = some (storeOrder .running) :=
  ⟨⟨_, fun _ => rfl⟩, by decide +kernel⟩

/-- A retrieve's order, alone and with a relocation. -/
theorem witness_CraneRequestsTaken_retrieve :
    let o := { storeOrder .running with storeTag := none, retrieveTag := some 0x41 }
    let q := { o with relocation := dualResult.relocation }
    o.retrieveTag = some 0x41 ∧ o.relocation = none ∧ q.retrieveTag = some 0x41
      ∧ q.relocation = some { blocker := 0x1042, front := slot .right 22 9 .front, spare := slot .right 30 9 .front } := by
  decide +kernel

/-! Records, faults and statuses. -/

theorem witness_RecordsNotTaken :
    (State.reset.crane 6).state = .offline ∧ (site.crane 6).state = .idle ∧ (site.crane 6).order = none
      ∧ ((carrying .running .running).crane 6).order = some (storeOrder .running)
      ∧ ((carrying .ordered .sent).crane 6).order = some (storeOrder .sent) ∧ (storeOrder .sent).state ≠ .revoking
      ∧ ((yielding .running).crane 7).order = some { storeOrder .awaitYield with id := 8 }
      ∧ ((carrying .faulted .suspended).crane 6).order = some (storeOrder .suspended)
      ∧ ((carrying .lost .suspended).crane 6).state = .lost := by
  decide +kernel

theorem witness_OrdersStart :
    ((carrying .ordered .sent).crane 6).order = some (storeOrder .sent)
      ∧ ((carrying .ordered .sent).crane 6).state ∉ [.offline, .faulted, .lost]
      ∧ ((carrying .lost .sent).crane 6).order = some (storeOrder .sent) ∧ ((carrying .lost .sent).crane 6).state = .lost
      ∧ ((carrying .faulted .revoking).crane 6).order = some (storeOrder .revoking)
      ∧ ((carrying .faulted .revoking).crane 6).state = .faulted
      ∧ ((carrying .ordered .revoking).crane 6).state ∉ [.offline, .faulted, .lost] := by
  decide +kernel

theorem witness_OrdersEndUnstarted :
    ((carrying .ordered .revoking).crane 6).order = some (storeOrder .revoking) ∧ (storeOrder .revoking).yieldPartner = none
      ∧ ((carrying .ordered .revoking).crane 6).state ≠ .offline ∧ (storeOrder .sent).state = .sent ∧ (1#8) ≠ 0
      ∧ (carrying .ordered .sent).pool.find 0x40 = some (storeJob .ordered none)
      ∧ (storeJob .ordered none).tag = 0x40
      ∧ ((yielding .sent).crane 6).order = some (yieldOrder .sent) ∧ (yieldOrder .sent).kind = .yield
      ∧ (yieldOrder .sent).yieldPartner = some (sibling 6) ∧ ((yielding .sent).crane 6).state = .yielding := by
  decide +kernel

/-- Timers at the limit of 10 intervals, and one short of it. -/
theorem witness_AcceptTimersExpire :
    ((carrying .ordered .sent).crane 6).order = some (storeOrder .sent)
      ∧ (carrying .ordered .sent).sup.timing.acceptLimit ≤ (storeOrder .sent).acceptTimer
      ∧ ((carrying .ordered .revoking).crane 6).order = some (storeOrder .revoking)
      ∧ ((yielding .sent).crane 6).order = some (yieldOrder .sent) ∧ (yieldOrder .sent).yieldPartner = some 7
      ∧ (yielding .sent).sup.timing.acceptLimit ≤ (yieldOrder .sent).acceptTimer
      ∧ ({ storeOrder .sent with acceptTimer := 9 } : Order).acceptTimer < (carrying .ordered .sent).sup.timing.acceptLimit
      ∧ ((yielding .sent).crane 7).order ≠ none ∧ (site.crane 6).order = none := by
  decide +kernel

/-- The two legs of the order, and one past them. -/
theorem witness_LegsAreMarked :
    (carrying .running .running).ordersInLaw ∧ ((carrying .running .running).crane 6).order = some (storeOrder .running)
      ∧ ((carrying .running .running).crane 6).state ∈ [CraneState.running, .yielding, .homing]
      ∧ (storeOrder .running).nextLeg ≤ (0#8).toNat ∧ (1#8).toNat < (storeOrder .running).legs.length
      ∧ (storeOrder .running).legs.length ≤ (2#8).toNat ∧ (storeOrder .running).lastCapture = some 5
      ∧ ((0#8).toNat = (storeOrder .running).nextLeg ∧ (storeOrder .running).kind = .job
        ∧ ((storeOrder .running).legs[0]?).any (fun l => l.valid) = true) :=
  ⟨carrying_orders, by decide +kernel⟩

/-- The order that a LEG DONE starts, and the one of a crane that its record finds, at the position taken. -/
theorem witness_LegsAreMarked_started :
    let q := { storeOrder .running with legs := storeLegs.modify 0 fun l => { l with valid := false }, lastCapture := some 0 }
    ((((carrying .ordered .sent).startOrder 6 true).reportPosition 6 0 1).crane 6).order = some q
      ∧ q.nextLeg = (storeOrder .sent).nextLeg ∧ q.legs.length = (storeOrder .sent).legs.length
      ∧ (storeOrder .sent).nextLeg ≤ 0 ∧ 1 < (storeOrder .sent).legs.length ∧ (storeOrder .sent).legs.length ≤ 2
      ∧ ((((carrying .running .running).reportPosition 6 0 1).crane 6).order = some (storeOrder .running)) := by
  decide +kernel

theorem witness_OrdersComplete :
    ((carrying .running .running).crane 6).order = some (storeOrder .running) ∧ (storeOrder .running).kind = .job
      ∧ ((carrying .running .running).crane 6).state ∉ [.offline, .lost]
      ∧ ((yielding .running).crane 6).order = some (yieldOrder .running) ∧ (yieldOrder .running).kind = .yield
      ∧ (yieldOrder .running).yieldPartner = some 7 ∧ (Order.new 7 .home .running []).kind = .home
      ∧ ((site.setJobs [storeJob .active (some nearSlot)]).pool.find 0x40 = some (storeJob .active (some nearSlot)))
      ∧ (storeJob .active (some nearSlot)).chosen? = some nearSlot ∧ (storeOrder .running).storeTag = some 0x40
      ∧ (stocked .active).pool.find 0x41 = some (laneJob .active)
      ∧ (laneJob .active).kind = .retrieve (slot .right 22 9 .rear) (some 0x1042) (some (6, 1))
      ∧ dualResult.relocation ≠ none
      ∧ (((((carrying .running .running).reportPosition 6 45 3).markLegs 6 2).crane 6).order.map (·.nextLeg)) = some 2
      ∧ (((((yielding .running).reportPosition 6 18 9).markLegs 6 1).crane 6).order.bind (·.yieldPartner)) = some 7 := by
  decide +kernel

def queuedBehind : State := site.setEngine { site.engine with queue := [{ crane := 6, invalid := 2 }] }

/-- With nothing in the queue, no crane stands in it. -/
theorem nobody_queued (s : State) (x : Crane) (h : s.engine.queue = []) :
    ∀ e ∈ s.engine.queue, e.crane = x → ∃ b, s.spanOf x = .bays b b := by
  simp [h]

theorem witness_FaultsAndTheirClearing :
    (carrying .running .running).ordersInLaw ∧ (carrying .faulted .suspended).engine.queue = []
      ∧ (1#8) ≠ 0 ∧ ((carrying .running .running).crane 6).state ≠ .offline
      ∧ ((carrying .running .running).crane 6).order = some (storeOrder .running)
      ∧ (storeOrder .running).nextLeg ≤ (0#8).toNat ∧ (2#8).toNat ≤ (storeOrder .running).legs.length
      ∧ ((yielding .running).crane 7).state = .awaitYield ∧ ((yielding .running).crane 7).order ≠ none
      ∧ (site.crane 6).state = .idle ∧ ((site.setCraneState 6 .syncing).crane 6).state = .syncing
      ∧ ((carrying .faulted .suspended).crane 6).state = .faulted
      ∧ ((site.setCraneState 6 .lost).crane 6).state = .lost ∧ ((site.setCraneState 6 .lost).crane 6).order = none
      ∧ ((site.setCraneState 6 .lost).reportPosition 6 20 9).spanOf 6 ≠ .unknown :=
  ⟨carrying_orders, by decide +kernel⟩

/-- Counts and ids of the FAULT of a FAULTED crane: one that fits, one past the legs, an id that names no order; and a queued
crane that holds a single bay. -/
theorem witness_FaultsAndTheirClearing_counts :
    (∃ o ∈ ((carrying .faulted .suspended).crane 6).order, o.id = 0x0217 ∧ ¬((2#8).toNat < o.nextLeg ∨ o.legs.length < (2#8).toNat)
        ∧ (o.legs.length < (3#8).toNat) ∧ o.id ≠ 0x0218)
      ∧ (carrying .faulted .suspended).engine.queue = []
      ∧ (queuedBehind.engine.queue.map (·.crane)) = [6] ∧ queuedBehind.spanOf 6 = .bays 20 20
      ∧ (storeOrder .running).id ≠ 0 ∧ (storeOrder .running).id ≠ 0x0218 ∧ (storeOrder .running).legs.length < (3#8).toNat
      ∧ ((carrying .running .running).crane 6).state ∈ [CraneState.ordered, .running, .yielding, .homing]
      ∧ ((carrying .ordered .sent).crane 6).order = some (storeOrder .sent) := by
  decide +kernel

/-- A crane whose report its sibling's span keeps from being taken: both cranes of aisle 3 are UNKNOWN. -/
def unseen (cs : CraneState) : State :=
  ((site.setCrane 6 { CraneCtx.powerOn with state := cs }).setSpan 6 .unknown).setSpan 7 .unknown

theorem witness_FaultsAndTheirClearing_unknown :
    ((unseen .faulted).crane 6).state = .faulted ∧ ((unseen .faulted).crane 6).order = none
      ∧ ((unseen .faulted).reportPosition 6 20 9).spanOf 6 = .unknown := by
  decide +kernel

theorem witness_StatusesAreTaken :
    (carrying .running .running).engine.queue = [] ∧ (yielding .sent).engine.queue = []
      ∧ (queuedBehind.setCraneState 6 .queued).spanOf 6 = .bays 20 20
      ∧ ((site.setCraneState 6 .syncing).crane 6).state = .syncing ∧ (site.crane 6).state = .idle ∧ (site.crane 6).order = none
      ∧ ((queuedBehind.setCraneState 6 .queued).crane 6).state = .queued ∧ ((yielding .running).crane 7).state = .awaitYield
      ∧ ((carrying .running .running).crane 6).order = some (storeOrder .running)
      ∧ ((carrying .running .running).crane 6).state ∈ [CraneState.ordered, .running, .yielding, .homing]
      ∧ ((carrying .faulted .suspended).crane 6).state = .faulted
      ∧ ((carrying .faulted .suspended).crane 6).order = some (storeOrder .suspended)
      ∧ ((site.setCraneState 6 .faulted).crane 6).state = .faulted ∧ ((site.setCraneState 6 .faulted).crane 6).order = none
      ∧ (storeOrder .running).id = 0x0217 ∧ (storeOrder .running).yieldPartner = none
      ∧ ((yielding .sent).crane 6).order = some (yieldOrder .sent) ∧ (yieldOrder .sent).yieldPartner = some 7 := by
  decide +kernel

theorem witness_LostCranesReconcile :
    ((carrying .lost .suspended).crane 6).state = .lost
      ∧ ((carrying .lost .suspended).crane 6).order = some (storeOrder .suspended) ∧ (storeOrder .suspended).id = 0x0217
      ∧ (storeOrder .suspended).kind = .job ∧ (storeOrder .suspended).state ≠ .revoking
      ∧ ((carrying .lost .revoking).crane 6).order = some (storeOrder .revoking)
      ∧ (carrying .lost .suspended).spanOf 6 ≠ .unknown ∧ ((site.setCraneState 6 .lost).crane 6).order = none
      ∧ ((site.setCraneState 6 .lost).reportPosition 6 20 9).spanOf 6 ≠ .unknown ∧ (carrying .lost .suspended).engine.queue = []
      ∧ ((unseen .lost).crane 6).state = .lost
      ∧ (let y := (yielding .suspended).setCraneState 6 .lost
        (y.crane 6).state = .lost ∧ (y.crane 6).order = some (yieldOrder .suspended) ∧ y.engine.queue = [])
      ∧ (yieldOrder .suspended).kind = .yield ∧ ({ yieldOrder .sent with kind := .home } : Order).kind = .home
      ∧ (carrying .lost .sent).crane 6 = { idleAt 20 9 with state := .lost, order := some (storeOrder .sent) } := by
  decide +kernel

/-! Orders, the engine and passes. -/

theorem witness_TriggersAndTheQueue :
    (site.crane 6).state = .idle ∧ (site.crane 6).homeRequest = false
      ∧ ((site.setCrane 6 { site.crane 6 with homeRequest := true }).crane 6).homeRequest = true
      ∧ ((passing .start).crane 7).state = .queued ∧ (∃ p ∈ (passing .start).engine.pass, p.crane = 7)
      ∧ ((carrying .running .running).crane 6).state ≠ .idle ∧ (passing .start).engine.pass ≠ none
      ∧ queuedBehind.engine.pass = none ∧ queuedBehind.engine.queue = [] ++ { crane := 6, invalid := 2 } :: []
      ∧ (∃ e ∈ (passing .start).engine.queue, e.crane = 6) ∧ (∀ p ∈ (passing .start).engine.pass, p.crane ≠ 6)
      ∧ queuedBehind.held 6 = false
      ∧ (({ queuedBehind with sup := { queuedBehind.sup with holdCommand := true } } : State).held 6) = true
      ∧ let s := queuedBehind.setCrane 6 { site.crane 6 with state := .queued, homeRequest := true }
        (s.crane 6).homeRequest = true ∧ s.engine.queue = [] ++ { crane := 6, invalid := 2 } :: [] := by
  decide +kernel

theorem witness_OrdersAreCreated :
    (site.crane 6).position = some { bay := 20, level := 9 }
      ∧ (∃ home : Place, home = .station { aisle := aisleOf 6, side := endOf 6 })
      ∧ (site.crane 7).position = some { bay := 61, level := 1 } ∧ (6 : Crane) = sibling 7 :=
  ⟨by decide +kernel, ⟨_, rfl⟩, by decide +kernel⟩

/-- The pass of `passing`, at the stage given. -/
def passAt (stage : Stage) : Pass :=
  { crane := 7, invalid := 0, note := false,
    latch :=
      { profileA := .powerOn, profileB := .powerOn, scoring := .powerOn, trim := 1024, jobClock := 0, stamp := 0,
        position := some { bay := 61, level := 1 } },
    stage := stage, sparesEmpty := false }

/-- Two retrieves at equal scores, a store with a choice, and a spare. -/
theorem witness_PassesChooseTheLeast :
    ((fun a => (site.storeEligible a && site.spanAnswer 7 (some { bay := 61, level := 1 })
        [.station (stationOf 7), .slot a] != .ineligible)) nearSlot) = true
      ∧ (site.considerSlot (passAt .start) 0x40 1 nearSlot none).isSome = true
      ∧ ((stocked .pending).bestSpare (values 1024) (slot .right 22 9 .front) none) = some (slot .right 30 9 .front)
      ∧ (site.scoreRetrieve (passAt .start) (laneJob .pending) (slot .right 40 9 .front) none none none).isSome = true
      ∧ ([(laneJob .pending, slot .right 40 9 .front), (laneJob .pending, slot .left 40 9 .front)].foldl
          (fun b q => site.scoreRetrieve (passAt .start) q.1 q.2 none none b) none).isSome = true := by
  decide +kernel

/-- A store chosen for crane 7, and a retrieve beside it. -/
def storeChoice : StorePick := { tag := 0x40, serial := 1, slot := nearSlot, sum := 0, answer := .eligible }

def retrieveChoice (score : Nat) : RetrievePick :=
  { tag := 0x41, serial := 2, score := score, legs := [], relocation := none, answer := .eligible }

/-- A pass at its decision: nothing found, a store alone, and a dual within its limit. -/
theorem witness_PassesComplete :
    site.engine.pass = none ∧ (passing .start).pending = [] ∧ (passing .start).lines.hostIn = []
      ∧ (passing (.retrieve none (some 2) none)).engine.pass = some (passAt (.retrieve none (some 2) none))
      ∧ (passing (.retrieve none (some 2) none)).passItem (passAt (.retrieve none (some 2) none)) = none
      ∧ (passing (.retrieve none (some 2) none)).decision (passAt (.retrieve none (some 2) none)) = none
      ∧ (passing (.storeOnly storeChoice)).passItem (passAt (.storeOnly storeChoice)) = none
      ∧ (passing (.storeOnly storeChoice)).decision (passAt (.storeOnly storeChoice)) ≠ none
      ∧ (passing (.storeOnly storeChoice)).held 7 = false
      ∧ (passAt (.retrieve (some storeChoice) none (some (retrieveChoice 20000)))).stage
          = .retrieve (some storeChoice) none (some (retrieveChoice 20000))
      ∧ dualResult.storeTag = some 0x40 ∧ dualResult.storeSlot = some nearSlot
      ∧ (passing .start).engine.pass = some (passAt .start) ∧ ((passing .start).passItem (passAt .start)).isSome = true
      ∧ (passAt (.retrieve (some storeChoice) none none)).stage = .retrieve (some storeChoice) none none
      ∧ (passAt (.retrieve none none (some (retrieveChoice 5)))).stage = .retrieve none none (some (retrieveChoice 5)) := by
  decide +kernel

/-- The three answers of a re-check: no job to serve, a retrieve that can run, and one that asks crane 6 to yield. -/
def retrieveOf (bay : Nat) : State × PassResult :=
  let j := { laneJob .pending with kind := .retrieve (slot .left bay 9 .front) none none }
  ((site.setJobs [j]).setCraneState 7 .queued,
    { storeTag := none, storeSerial := none, storeSlot := none, retrieveTag := some 0x41, retrieveSerial := some 2,
      relocation := none, legs := site.passLegs (passAt .start) (retrievePart (stationOf 7) (slot .left bay 9 .front) none) })

theorem witness_PassesComplete_recheck :
    site.recheck (passAt .start) (retrieveOf 24).2 = .ineligible
      ∧ (retrieveOf 24).1.recheck (passAt .start) (retrieveOf 24).2 = .eligible
      ∧ (retrieveOf 22).1.recheck (passAt .start) (retrieveOf 22).2 = .yieldEligible 18 := by
  decide +kernel

/-- A store waiting at the far station. -/
def farStore : Job :=
  { storeJob .pending none with tag := 0x50, pallet := 0x1050, kind := .store { aisle := 3, side := .far } [nearSlot] none false }

/-- That store and the retrieve of `stocked`, both at or before the stamp of the pass. -/
def stamped (stage : Stage) (dual : Bool) : State × Pass :=
  let p := passAt stage
  (((stocked .pending).setJobs [farStore, laneJob .pending]).setPolicyOf 3 { policy3 with weighting := false, dual := dual },
    { p with latch := { p.latch with stamp := 2 } })

/-- The head of the station's queue, its one candidate and its end, and the retrieve, with a spare to relocate to and with
none. -/
theorem witness_StagesOfAPass :
    let s := (stamped .start true).1
    s.pool.stationQueue (stationOf 7) = farStore :: [] ∧ farStore.state = .pending ∧ atOrBefore farStore.serial 2 = true
      ∧ (stocked .pending).pool.stationQueue (stationOf 7) = []
      ∧ s.pool.find 0x50 = some farStore ∧ farStore.serial = 1 ∧ farStore.candidates[0]? = some nearSlot
      ∧ farStore.candidates.length ≤ 1 ∧ s.pool.jobs = [farStore] ++ laneJob .pending :: [] ∧ farStore.isRetrieve = false
      ∧ ((laneJob .pending).isRetrieve = true ∧ (laneJob .pending).aisle = aisleOf 7 ∧ (laneJob .pending).state = .pending
        ∧ atOrBefore (laneJob .pending).serial 2 = true)
      ∧ (laneJob .pending).kind = .retrieve (slot .right 22 9 .rear) (some 0x1042) (some (6, 1))
      ∧ s.pool.waitsOn (laneJob .pending) = none ∧ s.laneEligible (laneJob .pending) = true
      ∧ s.bestSpare (passAt .start).latch.values (slot .right 22 9 .front) none = some (slot .right 30 9 .front)
      ∧ (s.setTable []).bestSpare (passAt .start).latch.values (slot .right 22 9 .front) none = none
      ∧ (s.setLane 6 (lane6 2 [])).laneEligible (laneJob .pending) = false
      ∧ s.partnerEligible (laneJob .pending) = true
      ∧ ({ s.pool with jobs := [laneJob .pending, frontJob 0] }).waitsOn (laneJob .pending) = some (frontJob 0) := by
  decide +kernel

/-- The window of lane 6 at its first, last and next sequence, across the wrap; the same lane CLOSED, and a retrieve of no
lane. -/
theorem witness_StagesOfAPass_window :
    let s := site.setLane 6 (lane6 65532 [])
    s.laneEligible (frontJob 65532) = true ∧ s.laneEligible (frontJob 3) = true ∧ s.laneEligible (frontJob 4) = false
      ∧ s.laneEligible (frontJob 65531) = false ∧ (frontJob 3).lane? = some (6, (s.laneOf 6).nextDue + BitVec.ofNat 16 7)
      ∧ (s.setLane 6 { lane6 65532 [] with opened := false }).laneEligible (frontJob 3) = false
      ∧ s.laneEligible { frontJob 0 with kind := .retrieve (slot .right 22 9 .front) none none } = true := by
  decide +kernel

/-! Queries and RESET. -/

theorem witness_QueriesReport :
    (replying 15).port.replies.length < 16 ∧ 15 < (16#8).toNat ∧ 7 < (8#8).toNat
      ∧ readTag [0, 0, 0, 0x41] = some 0x41 ∧ (stocked .pending).pool.find 0x41 = some (laneJob .pending)
      ∧ readTag [0, 0, 0, 0x42] = some 0x42 ∧ ∀ j ∈ (stocked .pending).pool.jobs, j.tag ≠ 0x42 := by
  decide +kernel

theorem witness_ResetTaken : (replying 15).port.replies.length < 16 ∧ 1 < (2#8).toNat := by decide +kernel

end Sys2Proof.Tests
end

namespace Sys2Proof.Machine

/-! ## The law of the rack within a step (R3, R57)

No operation of an event changes a geometry. `RackLaw rail g s` says of a state `s` within a step that what it holds is in
the geometry of a fixed state `g` whose geometries it has; with `rail` it says of positions and spans that they are on the
rail. Each operation keeps it, so that one induction over the model's operations serves both halves of R3 and R57. -/

namespace State

/-- The slots of a job are in the geometry, of its aisle, and a blocker has a FRONT slot to stand at (R3, R24). -/
def jobHeld (g : State) (j : Job) : Prop :=
  (∀ c, c ∈ j.candidates ∨ j.chosen? = some c ∨ j.slot? = some c → g.slotHeld j.aisle c)
    ∧ ∀ a, j.slot? = some a → j.blocker? ≠ none → a.depth = .rear ∧ (g.geometryOf a.aisle).doubleDeep = true

/-- The slots that legs end at are in the geometry, of the aisle given. -/
def legsHeld (g : State) (a : Aisle) (legs : List Leg) : Prop :=
  ∀ l ∈ legs, ∀ c, l.target = .slot c → g.slotHeld a c

/-- A place that a route may name, or the slot of the store it is beside. -/
def routeHeld (g : State) (a : Aisle) (store : Option StorePick) (legs : List Leg) : Prop :=
  ∀ l ∈ legs, g.routePlace a l.target ∨ ∃ k, store = some k ∧ l.target = .slot k.slot

/-- The best route that a pass holds. -/
def passHeld (g : State) (p : Pass) : Prop :=
  ∀ store cursor b, p.stage = .retrieve store cursor (some b) → g.routeHeld (aisleOf p.crane) store b.legs

/-- The last bay of the rail of a crane's aisle. -/
def railEnd (g : State) (x : Crane) : Nat := (g.geometryOf (aisleOf x)).bays + 1

end State

/-- A position and a span lie on a rail that ends at bay `e`, and where the position is known the span is an interval. -/
def OnRail (e : Nat) (p : Option Position) (sp : Span) : Prop :=
  (∀ q, p = some q → q.bay ≤ e ∧ ∃ lo hi, sp = .bays lo hi) ∧ ∀ lo hi, sp = .bays lo hi → lo ≤ e ∧ hi ≤ e

theorem OnRail.unplaced {e : Nat} {sp : Span} (h : ∀ lo hi, sp ≠ .bays lo hi) : OnRail e none sp :=
  ⟨fun _ => nofun, fun lo hi k => absurd k (h lo hi)⟩

theorem OnRail.bays {e : Nat} {p : Option Position} {lo hi : Nat} (hp : ∀ q, p = some q → q.bay ≤ e) (hl : lo ≤ e)
    (hh : hi ≤ e) : OnRail e p (.bays lo hi) :=
  ⟨fun q k => ⟨hp q k, lo, hi, rfl⟩, fun _ _ k => by cases k; exact ⟨hl, hh⟩⟩

theorem OnRail.forgotten {e : Nat} {p : Option Position} {sp : Span} (h : OnRail e p sp) : OnRail e none sp :=
  ⟨fun _ => nofun, h.2⟩

/-- The law of the rack within a step. -/
structure RackLaw (rail : Prop) (g s : State) : Prop where
  geometry : s.cost.geometry = g.cost.geometry
  tags : (s.pool.jobs.map (·.tag)).Nodup
  jobs : ∀ j ∈ s.pool.jobs, g.jobHeld j
  spares : ∀ e ∈ s.table, e.use.isSpare = true → g.inGeometry e.slot = true
  orders : ∀ x o, (s.crane x).order = some o → g.legsHeld (aisleOf x) o.legs
  pass : ∀ p, s.engine.pass = some p → g.passHeld p
  rail : rail → ∀ x, OnRail (g.railEnd x) (s.crane x).position (s.spanOf x)

namespace RackLaw

variable {rail : Prop} {g s : State}

/-! ### Reading the geometry -/

theorem geometryOf (h : RackLaw rail g s) (a : Aisle) : s.geometryOf a = g.geometryOf a := by
  unfold State.geometryOf
  rw [h.geometry]

theorem inGeometry (h : RackLaw rail g s) (c : Slot) : s.inGeometry c = g.inGeometry c := by
  unfold State.inGeometry
  rw [h.geometryOf]

theorem resolve (h : RackLaw rail g s) (p : Place) : s.resolve p = g.resolve p := by
  cases p <;> simp only [State.resolve, h.geometryOf]

/-! ### The single updates -/

/-- A state that differs only in what the law does not speak of. -/
theorem of_same {t : State} (h : RackLaw rail g s) (hg : t.cost.geometry = s.cost.geometry)
    (hj : t.pool.jobs = s.pool.jobs) (ht : t.table = s.table) (hc : t.orders.cranes = s.orders.cranes)
    (hs : t.spans.span = s.spans.span) (hp : t.engine.pass = s.engine.pass) : RackLaw rail g t where
  geometry := hg.trans h.geometry
  tags := hj ▸ h.tags
  jobs := hj ▸ h.jobs
  spares := ht ▸ h.spares
  orders := by unfold State.crane; rw [hc]; exact h.orders
  pass := hp ▸ h.pass
  rail := by unfold State.crane State.spanOf; rw [hc, hs]; exact h.rail

theorem setPair (h : RackLaw rail g s) {a : Aisle} {p : Option YieldPair} : RackLaw rail g (s.setPair a p) :=
  h.of_same rfl rfl rfl rfl rfl rfl

theorem setLane (h : RackLaw rail g s) {l : LaneNo} {r : Lane} : RackLaw rail g (s.setLane l r) :=
  h.of_same rfl rfl rfl rfl rfl rfl

theorem setTrimOf (h : RackLaw rail g s) {x : Crane} {t : Trim} : RackLaw rail g (s.setTrimOf x t) :=
  h.of_same rfl rfl rfl rfl rfl rfl

theorem setSilence (h : RackLaw rail g s) {x : Crane} {n : Nat} : RackLaw rail g (s.setSilence x n) :=
  h.of_same rfl rfl rfl rfl rfl rfl

theorem emit (h : RackLaw rail g s) {x : Crane} {frame : List Byte} : RackLaw rail g (s.emit x frame) :=
  h.of_same rfl rfl rfl rfl rfl rfl

theorem setNotices (h : RackLaw rail g s) {p : Port} {u : NoticeUnit} : RackLaw rail g (s.setNotices p u) :=
  h.of_same rfl rfl rfl rfl rfl rfl

theorem raise (h : RackLaw rail g s) {e : Event} : RackLaw rail g (s.raise e) :=
  h.of_same rfl rfl rfl rfl rfl rfl

theorem pushReply (h : RackLaw rail g s) {r : Reply} : RackLaw rail g (s.pushReply r) :=
  h.of_same rfl rfl rfl rfl rfl rfl

theorem setSup (h : RackLaw rail g s) {u : Supervision} : RackLaw rail g { s with sup := u } :=
  h.of_same rfl rfl rfl rfl rfl rfl

theorem setCrane (h : RackLaw rail g s) {x : Crane} {c : CraneCtx}
    (ho : ∀ o, c.order = some o → g.legsHeld (aisleOf x) o.legs)
    (hr : rail → OnRail (g.railEnd x) c.position (s.spanOf x)) : RackLaw rail g (s.setCrane x c) := by
  refine ⟨h.geometry, h.tags, h.jobs, h.spares, fun y o => ?_, h.pass, fun r y => ?_⟩
  · rw [State.crane_setCrane]
    split
    · rename_i e; exact e ▸ ho o
    · exact h.orders y o
  · rw [State.crane_setCrane, State.spanOf_setCrane]
    split
    · rename_i e; exact e ▸ hr r
    · exact h.rail r y

/-- A crane's context changed in other fields than its order and its position. -/
theorem modCrane (h : RackLaw rail g s) {x : Crane} {f : CraneCtx → CraneCtx}
    (ho : (f (s.crane x)).order = (s.crane x).order := by rfl)
    (hp : (f (s.crane x)).position = (s.crane x).position := by rfl) :
    RackLaw rail g (s.modCrane x f) :=
  h.setCrane (fun o e => h.orders x o (ho ▸ e)) fun r => hp ▸ h.rail r x

/-- A crane's position forgotten. -/
theorem forgetPosition (h : RackLaw rail g s) {x : Crane} {f : CraneCtx → CraneCtx}
    (ho : (f (s.crane x)).order = (s.crane x).order := by rfl) (hp : (f (s.crane x)).position = none := by rfl) :
    RackLaw rail g (s.modCrane x f) :=
  h.setCrane (fun o e => h.orders x o (ho ▸ e)) fun r => hp ▸ (h.rail r x).forgotten

theorem setCraneState (h : RackLaw rail g s) {x : Crane} {st : CraneState} : RackLaw rail g (s.setCraneState x st) :=
  h.modCrane

theorem anomaly (h : RackLaw rail g s) {x : Crane} : RackLaw rail g (s.anomaly x) := h.modCrane

theorem craneStateEvent (h : RackLaw rail g s) {x : Crane} {c : StateCause} : RackLaw rail g (s.craneStateEvent x c) :=
  raise h.modCrane

/-- A crane's context changed, its order to one whose legs end where the legs of the order ended. -/
theorem modCrane_targets (h : RackLaw rail g s) {x : Crane} {f : CraneCtx → CraneCtx}
    (ho : ∀ q, (f (s.crane x)).order = some q →
      ∃ o, (s.crane x).order = some o ∧ q.legs.map (·.target) = o.legs.map (·.target))
    (hp : (f (s.crane x)).position = (s.crane x).position := by rfl) : RackLaw rail g (s.modCrane x f) := by
  refine h.setCrane (fun q e l hl c hc => ?_) fun r => hp ▸ h.rail r x
  obtain ⟨o, e, ht⟩ := ho q e
  obtain ⟨m, hm, hmt⟩ := List.mem_map.1 (ht ▸ List.mem_map_of_mem (f := fun l : Leg => l.target) hl)
  exact h.orders x o e m hm c (hmt.trans hc)

/-- An order changed to one whose legs end where the legs of the order ended. -/
theorem modOrder (h : RackLaw rail g s) {x : Crane} {f : Order → Order}
    (hf : ∀ o, (f o).legs.map (·.target) = o.legs.map (·.target)) : RackLaw rail g (s.modOrder x f) :=
  h.modCrane_targets fun q e => by
    obtain ⟨o, ho, rfl⟩ := Option.map_eq_some_iff.1 e
    exact ⟨o, ho, hf o⟩

/-- An order changed in other fields than its legs. -/
theorem modOrder_legs (h : RackLaw rail g s) {x : Crane} {f : Order → Order} (hf : ∀ o, (f o).legs = o.legs := by intro; rfl) :
    RackLaw rail g (s.modOrder x f) :=
  h.modOrder fun o => by rw [hf]

theorem dropOrder (h : RackLaw rail g s) {x : Crane} : RackLaw rail g (s.dropOrder x) :=
  h.setCrane (fun _ e => absurd e (Option.some_ne_none _).symm) fun r => h.rail r x

theorem setSpan (h : RackLaw rail g s) {x : Crane} {sp : Span}
    (hr : rail → OnRail (g.railEnd x) (s.crane x).position sp) : RackLaw rail g (s.setSpan x sp) := by
  refine ⟨h.geometry, h.tags, h.jobs, h.spares, h.orders, h.pass, fun r y => ?_⟩
  rw [State.spanOf_setSpan, State.crane_setSpan]
  split
  · rename_i e; exact e ▸ hr r
  · exact h.rail r y

theorem setTable (h : RackLaw rail g s) {t : List Entry}
    (ht : ∀ e ∈ t, e.use.isSpare = true → g.inGeometry e.slot = true) : RackLaw rail g (s.setTable t) :=
  { h with spares := ht }

theorem setJobs (h : RackLaw rail g s) {js : List Job} (ht : (js.map (·.tag)).Nodup) (hj : ∀ j ∈ js, g.jobHeld j) :
    RackLaw rail g (s.setJobs js) :=
  { h with tags := ht, jobs := hj }

theorem setPass (h : RackLaw rail g s) {p : Option Pass} (hp : ∀ q, p = some q → g.passHeld q) :
    RackLaw rail g (s.setPass p) :=
  { h with pass := hp }

theorem noPass (h : RackLaw rail g s) : RackLaw rail g (s.setPass none) :=
  h.setPass fun _ e => absurd e (Option.some_ne_none _).symm

/-- The queue of the engine changed, and not its pass. -/
theorem setEngine (h : RackLaw rail g s) {e : Engine} (hp : e.pass = s.engine.pass) : RackLaw rail g (s.setEngine e) :=
  h.of_same rfl rfl rfl rfl rfl hp

theorem foldl {α : Type} {f : State → α → State} {l : List α} (h : RackLaw rail g s)
    (hf : ∀ u a, RackLaw rail g u → RackLaw rail g (f u a)) : RackLaw rail g (l.foldl f s) := by
  induction l generalizing s with
  | nil => exact h
  | cons a l ih => exact ih (hf s a h)

theorem ite {c : Prop} [Decidable c] {t u : State} (ht : RackLaw rail g t) (hu : RackLaw rail g u) :
    RackLaw rail g (if c then t else u) := by
  split
  · exact ht
  · exact hu

end RackLaw
end Sys2Proof.Machine

namespace Sys2Proof.Machine

theorem foldl_min_le (l : List Nat) (b : Nat) : l.foldl min b ≤ b := by
  induction l generalizing b with
  | nil => exact le_rfl
  | cons a l ih => exact (ih _).trans (min_le_left b a)

theorem foldl_max_le {l : List Nat} {b e : Nat} (hb : b ≤ e) (hl : ∀ a ∈ l, a ≤ e) : l.foldl max b ≤ e := by
  induction l generalizing b with
  | nil => exact hb
  | cons a l ih => exact ih (max_le hb (hl a (by simp))) fun c hc => hl c (by simp [hc])

@[simp] theorem stationOf_aisle (x : Crane) : (stationOf x).aisle = aisleOf x := rfl

theorem stationBay_le (g : Geometry) (e : RailEnd) : stationBay g e ≤ g.bays + 1 := by
  cases e <;> simp [stationBay]

theorem aisleOf_sibling (x : Crane) : aisleOf (sibling x) = aisleOf x := by
  revert x; decide

theorem sibling_ne (x : Crane) : sibling x ≠ x := by
  revert x; decide

namespace RackLaw

variable {rail : Prop} {g s : State}

/-! ### Spans and positions -/

/-- A known position lies on the rail. -/
theorem position_le (h : RackLaw rail g s) (r : rail) {x : Crane} (q : Position) (e : (s.crane x).position = some q) :
    q.bay ≤ g.railEnd x :=
  ((h.rail r x).1 q e).1

/-- A position is set, and the span to an interval of the rail with it. -/
theorem setPosition_setSpan (h : RackLaw rail g s) {x : Crane} {b l lo hi : Nat}
    (hr : rail → b ≤ g.railEnd x ∧ lo ≤ g.railEnd x ∧ hi ≤ g.railEnd x) :
    RackLaw rail g ((s.setPosition x b l).setSpan x (.bays lo hi)) := by
  refine ⟨h.geometry, h.tags, h.jobs, h.spares, fun y o => ?_, h.pass, fun r y => ?_⟩
  · rw [State.crane_setSpan, State.setPosition, State.crane_modCrane]
    split
    · rename_i e; exact e ▸ h.orders x o
    · exact h.orders y o
  · rw [State.crane_setSpan, State.setPosition, State.crane_modCrane, State.spanOf_setSpan]
    split
    · rename_i e
      obtain ⟨hb, hlo, hhi⟩ := hr r
      exact e ▸ .bays (fun q k => by cases k; exact hb) hlo hhi
    · exact h.rail r y

/-- A position is set within the rail while the span is an interval. -/
theorem setPosition (h : RackLaw rail g s) {x : Crane} {b l lo hi : Nat} (hs : s.spanOf x = .bays lo hi)
    (hb : rail → b ≤ g.railEnd x) : RackLaw rail g (s.setPosition x b l) :=
  h.setCrane (h.orders x) fun r => by
    obtain ⟨hlo, hhi⟩ := (h.rail r x).2 lo hi hs
    exact hs ▸ .bays (fun q k => by cases k; exact hb r) hlo hhi

theorem restSpan (h : RackLaw rail g s) {x : Crane} : RackLaw rail g (s.restSpan x) := by
  have rest (p : Position) (e : (s.crane x).position = some p) : RackLaw rail g (s.setSpan x (.bays p.bay p.bay)) :=
    h.setSpan fun r => .bays (h.position_le r) (h.position_le r p e) (h.position_le r p e)
  unfold State.restSpan
  split
  all_goals first | exact rest _ (by assumption) | exact h

/-- The table of R68 for a bay of the rail. -/
theorem takeInRange (h : RackLaw rail g s) {x : Crane} {b l : Nat} (hb : b ≤ g.railEnd x) :
    RackLaw rail g (s.takeInRange x b l) := by
  unfold State.takeInRange
  split
  · exact h
  · exact ite (h.setPosition_setSpan fun _ => ⟨hb, hb, hb⟩) h
  · rename_i lo hi hs
    have on (r : rail) := (h.rail r x).2 lo hi hs
    refine ite (h.setPosition hs fun _ => hb) (ite (anomaly (h.setPosition_setSpan fun r => ?_)) ?_)
    · exact ⟨hb, (min_le_right lo b).trans hb, max_le (on r).2 hb⟩
    · refine anomaly (h.setPosition hs fun r => ?_)
      split
      · exact (on r).1
      · exact (on r).2

theorem reportRange (h : RackLaw rail g s) {x : Crane} {b l : Nat} : RackLaw rail g (s.reportRange x b l) :=
  ite h h.anomaly

theorem takePosition (h : RackLaw rail g s) {x : Crane} {b l : Nat} : RackLaw rail g (s.takePosition x b l) :=
  restSpan (takeInRange h.reportRange (by
    rw [h.geometryOf]
    exact min_le_right b _))

/-- A span that is no interval, of a crane whose position is not known. -/
theorem setSpan_unplaced (h : RackLaw rail g s) {x : Crane} {sp : Span} (hp : (s.crane x).position = none)
    (hs : ∀ lo hi, sp ≠ .bays lo hi) : RackLaw rail g (s.setSpan x sp) :=
  h.setSpan fun _ => hp ▸ .unplaced hs

theorem loseSight (h : RackLaw rail g s) {x : Crane} : RackLaw rail g (s.loseSight x) :=
  setSpan_unplaced h.forgetPosition (by rw [State.crane_modCrane_self]) nofun

/-! ### Orders and the engine -/

theorem placeOrder (h : RackLaw rail g s) {x : Crane} {o : Order} (ho : g.legsHeld (aisleOf x) o.legs) :
    RackLaw rail g (s.placeOrder x o) :=
  (h.setCrane (c := { s.crane x with order := some o, starved := false }) (fun q e => by cases e; exact ho)
    fun r => h.rail r x).of_same rfl rfl rfl rfl rfl rfl

theorem sendOrder (h : RackLaw rail g s) {x : Crane} : RackLaw rail g (s.sendOrder x) := by
  unfold State.sendOrder
  split
  · exact h
  · exact emit (setCraneState h.modOrder_legs)

/-- A claim of a route along the rail (R62, R72). -/
theorem claimSpan (h : RackLaw rail g s) {x : Crane} {p : Option Position} {ps : List Place}
    (hp : rail → ∀ q, p = some q → q.bay ≤ g.railEnd x) (hps : rail → ∀ t ∈ ps, (g.resolve t).bay ≤ g.railEnd x) :
    RackLaw rail g (s.claimSpan x p ps) := by
  unfold State.claimSpan
  split
  · rename_i q
    refine h.setSpan fun r => ?_
    have hq := hp r q rfl
    refine .bays (h.position_le r) ((foldl_min_le _ _).trans hq) (foldl_max_le hq fun b hb => ?_)
    obtain ⟨t, ht, rfl⟩ := List.mem_map.1 hb
    rw [h.resolve]
    exact hps r t ht
  · exact h

/-- The station of a crane stands on its rail. -/
theorem stationOf_le (x : Crane) : (g.resolve (.station (stationOf x))).bay ≤ g.railEnd x := stationBay_le _ _

theorem createHome (h : RackLaw rail g s) {x : Crane} : RackLaw rail g (s.createHome x) := by
  refine sendOrder (claimSpan (modCrane (h.placeOrder fun l hl c hc => ?_)) (fun r => h.position_le r)
    fun _ t ht => ?_)
  · rw [List.mem_singleton.1 hl] at hc
    cases hc
  · rw [List.mem_singleton.1 ht]
    exact stationOf_le x

theorem startPass (h : RackLaw rail g s) {x : Crane} {n : Nat} {note : Bool} : RackLaw rail g (s.startPass x n note) :=
  h.setPass fun q e => by
    cases e
    exact fun _ _ _ k => by cases k

theorem dequeue (h : RackLaw rail g s) {x : Crane} : RackLaw rail g (s.dequeue x) := h.setEngine rfl

theorem engineTake (n : Nat) {s : State} (h : RackLaw rail g s) : RackLaw rail g (State.engineTake n s) := by
  induction n generalizing s with
  | zero => exact h
  | succ n ih =>
    unfold State.engineTake
    split
    · exact ite (ih h.dequeue.createHome) h.dequeue.startPass
    · exact h

theorem engineRun (h : RackLaw rail g s) : RackLaw rail g s.engineRun := h.engineTake _

theorem enqueue (h : RackLaw rail g s) {x : Crane} : RackLaw rail g (s.enqueue x) :=
  engineRun (setEngine h.setCraneState rfl)

theorem noteTrigger (h : RackLaw rail g s) {x : Crane} : RackLaw rail g (s.noteTrigger x) := by
  unfold State.noteTrigger
  split
  · rename_i p e
    exact ite (h.setPass fun q k => by cases k; exact h.pass p e) h
  · exact h

theorem trigger (h : RackLaw rail g s) {x : Crane} : RackLaw rail g (s.trigger x) := by
  unfold State.trigger
  split
  · exact ite h.createHome h.enqueue
  · exact h.noteTrigger
  · exact h

theorem triggerAll (h : RackLaw rail g s) {xs : List Crane} : RackLaw rail g (s.triggerAll xs) :=
  h.foldl fun _ _ k => k.trigger

theorem triggerAisle (h : RackLaw rail g s) {a : Aisle} : RackLaw rail g (s.triggerAisle a) := trigger h.trigger

theorem shrunkFrom (h : RackLaw rail g s) {x : Crane} {old : Span} : RackLaw rail g (s.shrunkFrom x old) :=
  ite h.trigger h

theorem changeSpan (h : RackLaw rail g s) {x : Crane} {sp : Span}
    (hr : rail → OnRail (g.railEnd x) (s.crane x).position sp) : RackLaw rail g (s.changeSpan x sp) :=
  shrunkFrom (h.setSpan hr)

theorem reportPosition (h : RackLaw rail g s) {x : Crane} {b l : Nat} : RackLaw rail g (s.reportPosition x b l) :=
  shrunkFrom h.takePosition

theorem spanToPosition (h : RackLaw rail g s) {x : Crane} : RackLaw rail g (s.spanToPosition x) := by
  unfold State.spanToPosition
  split
  · rename_i p e
    exact h.changeSpan fun r => .bays (h.position_le r) (h.position_le r p e) (h.position_le r p e)
  · exact h

theorem setIdle (h : RackLaw rail g s) {x : Crane} : RackLaw rail g (s.setIdle x) :=
  ite (craneStateEvent h.setCraneState) h.setCraneState

theorem idleTriggers (h : RackLaw rail g s) {x : Crane} : RackLaw rail g (s.idleTriggers x) := trigger h.trigger

theorem becomeIdle (h : RackLaw rail g s) {x : Crane} : RackLaw rail g (s.becomeIdle x) := idleTriggers h.setIdle

theorem leaveEngine (h : RackLaw rail g s) {x : Crane} : RackLaw rail g (s.leaveEngine x) :=
  ite (engineRun h.noPass) h.dequeue

end RackLaw
end Sys2Proof.Machine

namespace Sys2Proof.Machine

/-! ### Entries of the table whose slots were on a spare list -/

/-- Every entry of `t` on a spare list has the slot of an entry of `u` on a spare list. -/
def SparesFrom (u t : List Entry) : Prop :=
  ∀ e ∈ t, e.use.isSpare = true → ∃ d ∈ u, d.use.isSpare = true ∧ d.slot = e.slot

namespace SparesFrom

theorem of_subset {u t : List Entry} (h : t ⊆ u) : SparesFrom u t := fun e he k => ⟨e, h he, k, rfl⟩

theorem refl (u : List Entry) : SparesFrom u u := of_subset (List.Subset.refl u)

theorem trans {u t v : List Entry} (h : SparesFrom u t) (k : SparesFrom t v) : SparesFrom u v := fun e he s => by
  obtain ⟨d, hd, hs, hds⟩ := k e he s
  obtain ⟨c, hc, hs, hcs⟩ := h d hd hs
  exact ⟨c, hc, hs, hcs.trans hds⟩

theorem dropSlot (u : List Entry) (a : Slot) : SparesFrom u (dropSlot u a) := of_subset (List.filter_subset_self _)

theorem dropUse (u : List Entry) (w : Use) : SparesFrom u (dropUse u w) := of_subset (List.filter_subset_self _)

theorem dropOwner (u : List Entry) (tag : Word32) : SparesFrom u (dropOwner u tag) := of_subset (List.filter_subset_self _)

/-- A change of use between uses of a spare list. -/
theorem changeUse (u : List Entry) {old new : Use} (h : old.isSpare = true) : SparesFrom u (changeUse u old new) := by
  intro e he k
  obtain ⟨d, hd, rfl⟩ := List.mem_map.1 he
  refine ⟨d, hd, ?_, ?_⟩
  · split at k
    · rename_i e; exact e ▸ h
    · exact k
  · split <;> rfl

theorem addEntry (u : List Entry) (a : Slot) {w : Use} (h : w.isSpare = false) : SparesFrom u (addEntry u a w) := by
  intro e he k
  rcases List.mem_append.1 he with he | he
  · exact ⟨e, he, k, rfl⟩
  · rw [List.mem_singleton.1 he, h] at k
    cases k

theorem revertRetrieve (u : List Entry) (tag : Word32) : SparesFrom u (revertRetrieve u tag) :=
  (dropUse u _).trans (changeUse _ rfl)

end SparesFrom

/-! ### Jobs changed -/

theorem map_tag_modJob (js : List Job) (tag : Word32) {f : Job → Job} (hf : ∀ j, (f j).tag = j.tag) :
    (modJob js tag f).map (·.tag) = js.map (·.tag) := by
  simp only [modJob, List.map_map, List.map_inj_left, Function.comp]
  intro j _
  split
  · exact hf j
  · rfl

/-- What a job names, it named before. -/
structure Job.Within (i j : Job) : Prop where
  tag : i.tag = j.tag
  aisle : i.aisle = j.aisle
  candidates : i.candidates ⊆ j.candidates
  chosen : ∀ c, i.chosen? = some c → c ∈ j.candidates ∨ j.chosen? = some c
  slot : i.slot? = j.slot?
  blocker : i.blocker? ≠ none → j.blocker? ≠ none

namespace Job.Within

theorem held {g : State} {i j : Job} (h : i.Within j) (k : g.jobHeld j) : g.jobHeld i := by
  refine ⟨fun c hc => ?_, fun a ha hb => k.2 a (h.slot ▸ ha) (h.blocker hb)⟩
  rw [h.aisle]
  rcases hc with hc | hc | hc
  · exact k.1 c (.inl (h.candidates hc))
  · exact k.1 c ((h.chosen c hc).imp id .inl)
  · exact k.1 c (.inr (.inr (h.slot ▸ hc)))

theorem refl (j : Job) : j.Within j := ⟨rfl, rfl, List.Subset.refl _, fun _ => .inr, rfl, id⟩

theorem trans {i j k : Job} (h : i.Within j) (h' : j.Within k) : i.Within k :=
  ⟨h.tag.trans h'.tag, h.aisle.trans h'.aisle, List.Subset.trans h.candidates h'.candidates,
    fun c e => (h.chosen c e).elim (fun m => .inl (h'.candidates m)) (h'.chosen c), h.slot.trans h'.slot, fun e => h'.blocker (h.blocker e)⟩

theorem state (j : Job) (st : JobState) : ({ j with state := st } : Job).Within j :=
  ⟨rfl, rfl, List.Subset.refl _, fun _ => .inr, rfl, id⟩

theorem declined (j : Job) (n : Nat) (st : JobState) : ({ j with declines := n, state := st } : Job).Within j :=
  ⟨rfl, rfl, List.Subset.refl _, fun _ => .inr, rfl, id⟩

theorem unchosen (j : Job) : (j.setChosen none).Within j := by
  obtain ⟨_, _, _, _, _, _, _, _ | _⟩ := j
  · exact ⟨rfl, rfl, List.Subset.refl _, nofun, rfl, id⟩
  · exact .refl _

theorem stalled (j : Job) (b : Bool) : (j.setStalled b).Within j := by
  obtain ⟨_, _, _, _, _, _, _, _ | _⟩ := j
  · exact ⟨rfl, rfl, List.Subset.refl _, fun _ => .inr, rfl, id⟩
  · exact .refl _

theorem clearBlocker (pallet : Word32) (j : Job) : (j.clearBlocker pallet).Within j := by
  obtain ⟨_, _, _, _, _, _, _, _ | ⟨slot, blocker, lane⟩⟩ := j
  · exact .refl _
  · simp only [Job.clearBlocker]
    split
    · exact ⟨rfl, rfl, List.Subset.refl _, nofun, rfl, fun k => absurd rfl k⟩
    · exact .refl _

end Job.Within

/-! ### Legs changed -/

theorem targets_modify (legs : List Leg) (n : Nat) {f : Leg → Leg} (hf : ∀ l, (f l).target = l.target) :
    (legs.modify n f).map (·.target) = legs.map (·.target) := by
  refine List.ext_getElem (by simp) fun i h k => ?_
  simp only [List.getElem_map, List.getElem_modify]
  split
  · exact hf _
  · rfl

theorem targets_markTo (o : Order) (k : Nat) : (o.markTo k).legs.map (·.target) = o.legs.map (·.target) := by
  refine List.ext_getElem (by simp [Order.markTo]) fun i h k => ?_
  simp only [Order.markTo, List.getElem_map, List.getElem_mapIdx]
  split <;> rfl

namespace RackLaw

variable {rail : Prop} {g s : State}

/-! ### Jobs -/

theorem setTable_from (h : RackLaw rail g s) {t : List Entry} (ht : SparesFrom s.table t) : RackLaw rail g (s.setTable t) :=
  h.setTable fun e he k => by
    obtain ⟨d, hd, hk, hs⟩ := ht e he k
    exact hs ▸ h.spares d hd hk

/-- The jobs with a tag changed to jobs that the law allows. -/
theorem modJobOf_held (h : RackLaw rail g s) {tag : Word32} {f : Job → Job} (hf : ∀ j, (f j).tag = j.tag)
    (hj : ∀ j ∈ s.pool.jobs, j.tag = tag → g.jobHeld (f j)) : RackLaw rail g (s.modJobOf tag f) := by
  refine h.setJobs (by rw [map_tag_modJob _ _ hf]; exact h.tags) fun i hi => ?_
  obtain ⟨j, hjm, rfl⟩ := List.mem_map.1 hi
  split
  · rename_i e; exact hj j hjm e
  · exact h.jobs j hjm

theorem modJobOf (h : RackLaw rail g s) {tag : Word32} {f : Job → Job} (hf : ∀ j, (f j).Within j) :
    RackLaw rail g (s.modJobOf tag f) :=
  h.modJobOf_held (fun j => (hf j).tag) fun j hj _ => (hf j).held (h.jobs j hj)

theorem watch (h : RackLaw rail g s) {old new : Nat} : RackLaw rail g (s.watch old new) := by
  unfold State.watch
  split
  · exact ite h.raise h
  · exact h

theorem lowerLane (h : RackLaw rail g s) {l : Option (LaneNo × Word16)} : RackLaw rail g (s.lowerLane l) := by
  unfold State.lowerLane
  split
  · exact h.setLane
  · exact h

theorem deliverOnly (h : RackLaw rail g s) {l : LaneNo} {d : Word16} : RackLaw rail g (s.deliverOnly l d) :=
  ite (raise h.setLane) h.setLane

theorem deliver (h : RackLaw rail g s) {l : LaneNo} {d : Word16} : RackLaw rail g (s.deliver l d) :=
  ite h.deliverOnly.triggerAll h.deliverOnly

/-- The jobs left after a removal, their blockers cleared or not. -/
theorem setJobs_removed (h : RackLaw rail g s) {p : Job → Bool} {clears : Bool} {pallet : Word32} :
    RackLaw rail g (s.setJobs
      (if clears then (s.pool.jobs.eraseP p).map (Job.clearBlocker pallet) else s.pool.jobs.eraseP p)) := by
  have left : (s.pool.jobs.eraseP p).Sublist s.pool.jobs := List.eraseP_sublist
  have tags := h.tags.sublist (left.map (·.tag))
  split
  · refine h.setJobs ?_ fun i hi => ?_
    · rw [List.map_map, show (fun j : Job => j.tag) ∘ Job.clearBlocker pallet = fun j => j.tag from
        funext fun j => (Job.Within.clearBlocker pallet j).tag]
      exact tags
    · obtain ⟨j, hj, rfl⟩ := List.mem_map.1 hi
      exact (Job.Within.clearBlocker pallet j).held (h.jobs j (left.subset hj))
  · exact h.setJobs tags fun j hj => h.jobs j (left.subset hj)

theorem removeJob (h : RackLaw rail g s) {tag : Word32} {clears : Bool} : RackLaw rail g (s.removeJob tag clears) := by
  unfold State.removeJob
  split
  · exact h
  · exact watch (lowerLane (h.setJobs_removed.setTable_from (.dropOwner _ _)))

theorem returnJob (h : RackLaw rail g s) {tag : Word32} : RackLaw rail g (s.returnJob tag) :=
  h.modJobOf fun _ => (Job.Within.unchosen _).trans (.state _ _)

theorem activateJob (h : RackLaw rail g s) {tag : Word32} : RackLaw rail g (s.activateJob tag) :=
  h.modJobOf fun _ => .state _ _

theorem completeStore (h : RackLaw rail g s) {tag : Word32} : RackLaw rail g (s.completeStore tag) := by
  unfold State.completeStore
  split
  · exact h.removeJob.raise
  · exact h.removeJob

theorem completeRetrieve (h : RackLaw rail g s) {tag : Word32} : RackLaw rail g (s.completeRetrieve tag) := by
  unfold State.completeRetrieve
  split
  · exact h
  · dsimp only
    split <;> split
    · exact h.removeJob.raise.deliver
    · exact h.removeJob.deliver
    · exact h.removeJob.raise
    · exact h.removeJob

theorem strandJob (h : RackLaw rail g s) {tag : Word32} {x : Crane} : RackLaw rail g (s.strandJob tag x) :=
  h.removeJob.raise

theorem relocationDone (h : RackLaw rail g s) {tag : Word32} {r : Relocation} : RackLaw rail g (s.relocationDone tag r) :=
  raise (h.setTable_from ((SparesFrom.dropUse _ _).trans (.dropUse _ _)))

theorem relocationUndone (h : RackLaw rail g s) {tag : Word32} : RackLaw rail g (s.relocationUndone tag) :=
  h.setTable_from (.revertRetrieve _ _)

theorem declineJob (h : RackLaw rail g s) {tag : Word32} {reason : Byte} : RackLaw rail g (s.declineJob tag reason) := by
  unfold State.declineJob
  split
  · exact h
  · exact ite (h.modJobOf fun _ => (Job.Within.unchosen _).trans (.declined _ _ _)) h.removeJob.raise

theorem revertEntries (h : RackLaw rail g s) {o : Order} : RackLaw rail g (s.revertEntries o) := by
  refine h.setTable_from ?_
  split <;> split
  · exact (SparesFrom.dropUse _ _).trans (.revertRetrieve _ _)
  · exact .revertRetrieve _ _
  · exact .dropUse _ _
  · exact .refl _

theorem returnJobs (h : RackLaw rail g s) {o : Order} : RackLaw rail g (s.returnJobs o) := h.foldl fun _ _ k => k.returnJob

theorem activateJobs (h : RackLaw rail g s) {o : Order} : RackLaw rail g (s.activateJobs o) :=
  h.foldl fun _ _ k => k.activateJob

theorem endStore (h : RackLaw rail g s) {o : Order} : RackLaw rail g (s.endStore o) := by
  unfold State.endStore
  split
  · exact h.completeStore
  · exact h

theorem endRetrieve (h : RackLaw rail g s) {o : Order} : RackLaw rail g (s.endRetrieve o) := by
  unfold State.endRetrieve
  split
  · exact h
  · split
    · exact h.relocationDone.completeRetrieve
    · exact h.completeRetrieve

theorem abandonStore (h : RackLaw rail g s) {o : Order} {x : Crane} : RackLaw rail g (s.abandonStore o x) := by
  unfold State.abandonStore
  split
  · exact h
  · exact ite (h.returnJob.setTable_from (.dropUse _ _)) (ite h.strandJob h.completeStore)

theorem abandonRetrieve (h : RackLaw rail g s) {o : Order} {x : Crane} : RackLaw rail g (s.abandonRetrieve o x) := by
  unfold State.abandonRetrieve
  dsimp only
  split
  · exact h
  · exact ite h.returnJob (ite h.strandJob h.completeRetrieve)
  · exact ite h.relocationUndone.returnJob (ite h.relocationUndone.strandJob
      (ite h.relocationDone.returnJob (ite h.relocationDone.strandJob h.relocationDone.completeRetrieve)))

/-! ### The life of an order -/

theorem accumulate (h : RackLaw rail g s) {x : Crane} {m n : Nat} : RackLaw rail g (s.accumulate x m n) :=
  ite (raise h.setTrimOf) h.setTrimOf

theorem capture (h : RackLaw rail g s) {x : Crane} : RackLaw rail g (s.capture x) := h.modOrder_legs

theorem markLegs (h : RackLaw rail g s) {x : Crane} {k : Nat} : RackLaw rail g (s.markLegs x k) := by
  refine h.modCrane_targets (fun q e => ?_) ?_
  · split at e
    · exact ⟨q, e, rfl⟩
    · rename_i o ho
      cases e
      exact ⟨o, ho, targets_markTo o k⟩
  · split <;> rfl

theorem measureLeg (h : RackLaw rail g s) {x : Crane} : RackLaw rail g (s.measureLeg x) := by
  have measured {o : Order} {d : Word32} (n : Nat) : RackLaw rail g ((s.markLegs x (o.nextLeg + 1)).modOrder x fun q =>
      { q with legs := q.legs.modify n fun m => { m with measured := some d } }) :=
    h.markLegs.modOrder fun q => targets_modify _ _ fun _ => rfl
  unfold State.measureLeg
  split
  · exact h
  · split
    · exact ite (measured _).capture.accumulate (measured _).capture
    · exact h.markLegs.capture
    · exact h

/-- The span narrows within itself: where the position is known it is an interval (R69). -/
theorem narrowSpan (h : RackLaw rail g s) {x : Crane} : RackLaw rail g (s.narrowSpan x) := by
  unfold State.narrowSpan
  split
  · rename_i p _ hp
    refine h.changeSpan fun r => ?_
    obtain ⟨hb, lo, hi, hs⟩ := (h.rail r x).1 p hp
    obtain ⟨hlo, hhi⟩ := (h.rail r x).2 lo hi hs
    rw [hs]
    exact .bays (h.position_le r) (max_le hlo ((foldl_min_le _ _).trans hb)) ((min_le_left _ _).trans hhi)
  · exact h

theorem takeKindState (h : RackLaw rail g s) {x : Crane} : RackLaw rail g (s.takeKindState x) := by
  unfold State.takeKindState
  split
  · exact h
  · exact ite (craneStateEvent h.setCraneState) h.setCraneState

theorem enterFaulted (h : RackLaw rail g s) {x : Crane} {c : StateCause} : RackLaw rail g (s.enterFaulted x c) :=
  craneStateEvent h.setCraneState

theorem startOrder (h : RackLaw rail g s) {x : Crane} {proved : Bool} : RackLaw rail g (s.startOrder x proved) := by
  have started {t : State} (k : RackLaw rail g t) (f : Bool) (st : OrderState) : RackLaw rail g (t.modOrder x fun q =>
      { q with state := st, legs := if f then invalidate q.legs 0 else q.legs }) :=
    k.modOrder fun q => by
      dsimp only
      split
      · exact targets_modify _ _ fun _ => rfl
      · rfl
  unfold State.startOrder
  split
  · exact h
  · exact ite (started (modCrane h.activateJobs) _ _).capture (started (modCrane h.activateJobs) _ _).capture.takeKindState

theorem startIfSent (h : RackLaw rail g s) {x : Crane} : RackLaw rail g (s.startIfSent x) := by
  unfold State.startIfSent
  split
  · exact ite h.startOrder h
  · exact h

theorem suspendOrder (h : RackLaw rail g s) {x : Crane} : RackLaw rail g (s.suspendOrder x) :=
  h.modOrder fun _ => targets_modify _ _ fun _ => rfl

theorem discardWaiting (h : RackLaw rail g s) {x : Crane} : RackLaw rail g (s.discardWaiting x) := by
  unfold State.discardWaiting
  split
  · exact h
  · exact spanToPosition (dropOrder (modOrder_legs (setPair h.returnJobs.revertEntries)))

theorem releaseWaiting (h : RackLaw rail g s) {w : Option Crane} : RackLaw rail g (s.releaseWaiting w) := by
  cases w
  · exact h
  · exact h.discardWaiting.setIdle

theorem releasedTriggers (h : RackLaw rail g s) {w : Option Crane} : RackLaw rail g (s.releasedTriggers w) := by
  cases w
  · exact h
  · exact h.idleTriggers

theorem failYield (h : RackLaw rail g s) {y : Crane} : RackLaw rail g (s.failYield y) := releasedTriggers h.releaseWaiting

theorem idleAfter (h : RackLaw rail g s) {w : Option Crane} {y : Crane} : RackLaw rail g (s.idleAfter w y) :=
  idleTriggers h.setIdle.releasedTriggers

theorem giveUp (h : RackLaw rail g s) {x : Crane} : RackLaw rail g (s.giveUp x) := by
  unfold State.giveUp
  split
  · exact h
  · dsimp only
    split
    · exact h.abandonStore.abandonRetrieve.dropOrder.spanToPosition
    · exact h.dropOrder.spanToPosition

theorem orderLostIdle (h : RackLaw rail g s) {x : Crane} : RackLaw rail g (s.orderLostIdle x) :=
  idleTriggers (releasedTriggers (craneStateEvent h.releaseWaiting.giveUp.setCraneState))

theorem orderLostSyncing (h : RackLaw rail g s) {x : Crane} : RackLaw rail g (s.orderLostSyncing x) :=
  releasedTriggers (craneStateEvent h.releaseWaiting.giveUp.loseSight.setCraneState)

theorem endDone (h : RackLaw rail g s) {x : Crane} {w : Option Crane} : RackLaw rail g (s.endDone x w) :=
  h.dropOrder.spanToPosition.idleAfter

theorem sendWaiting (h : RackLaw rail g s) {w : Crane} : RackLaw rail g (s.sendWaiting w) := h.setPair.sendOrder

theorem endYield (h : RackLaw rail g s) {y : Crane} : RackLaw rail g (s.endYield y) := by
  unfold State.endYield
  split
  · exact h.endDone
  · exact ite h.dropOrder.spanToPosition.setIdle.sendWaiting.idleTriggers
      h.dropOrder.spanToPosition.releaseWaiting.idleAfter

theorem endDeclined (h : RackLaw rail g s) {x : Crane} {w : Option Crane} : RackLaw rail g (s.endDeclined x w) :=
  have left := spanToPosition (dropOrder (modCrane h))
  ite left.releasedTriggers left.idleAfter

theorem endRevoked (h : RackLaw rail g s) {x : Crane} : RackLaw rail g (s.endRevoked x) :=
  have left := h.dropOrder.spanToPosition
  ite (ite left.modCrane (becomeIdle left.modCrane)) (ite left.modCrane (enterFaulted left.modCrane))

theorem clearFault (h : RackLaw rail g s) {x : Crane} {c : StateCause} : RackLaw rail g (s.clearFault x c) := by
  unfold State.clearFault
  split
  · exact craneStateEvent (setCraneState h.modOrder_legs)
  · exact ite (craneStateEvent h.setCraneState) (idleTriggers (craneStateEvent (setCraneState h.spanToPosition)))

theorem expireAccept (h : RackLaw rail g s) {x : Crane} : RackLaw rail g (s.expireAccept x) := by
  unfold State.expireAccept
  split
  · exact h
  · split
    · exact failYield (emit h.modOrder_legs)
    · exact emit h.modOrder_legs
    · exact h

theorem loseCrane (h : RackLaw rail g s) {x : Crane} : RackLaw rail g (s.loseCrane x) := by
  have lost {t : State} (k : RackLaw rail g t) : RackLaw rail g ((t.setCraneState x .lost).craneStateEvent x .silence) :=
    craneStateEvent k.setCraneState
  unfold State.loseCrane
  dsimp only
  split
  case h_1 | h_2 => exact h
  case h_3 | h_4 => exact lost h
  case h_5 => exact (lost h).leaveEngine
  case h_6 => exact lost h.discardWaiting
  all_goals
    split
    · exact lost h
    · exact ite (lost h.suspendOrder).failYield (lost h).failYield

end RackLaw
end Sys2Proof.Machine

namespace Sys2Proof.Machine
namespace RackLaw

variable {rail : Prop} {g s : State}

/-! ### Crane records -/

theorem hearCrane (h : RackLaw rail g s) {x : Crane} {record : State → State}
    (hr : ∀ t, RackLaw rail g t → RackLaw rail g (record t)) : RackLaw rail g (s.hearCrane x record) :=
  ite (hr _ h.setSilence) h

theorem countAnomaly (h : RackLaw rail g s) {x : Crane} {id : Word16} {n : Nat} : RackLaw rail g (s.countAnomaly x id n) := by
  unfold State.countAnomaly
  split
  · exact ite h h.anomaly
  · exact h

theorem nameAnomaly (h : RackLaw rail g s) {x : Crane} {id : Word16} : RackLaw rail g (s.nameAnomaly x id) := ite h h.anomaly

theorem unsettled (h : RackLaw rail g s) {x : Crane} : RackLaw rail g (s.unsettled x) := by
  refine emit ?_
  split
  · exact craneStateEvent h.anomaly.setCraneState
  · exact h.anomaly.enterFaulted

theorem notTaken (h : RackLaw rail g s) {x : Crane} : RackLaw rail g (s.notTaken x) := ite h.unsettled h.anomaly

theorem takeAccept (h : RackLaw rail g s) {x : Crane} {id : Word16} : RackLaw rail g (s.takeAccept x id) := by
  unfold State.takeAccept
  split
  · exact h.notTaken
  · split
    · exact h.startOrder
    · exact ite h.unsettled h.modOrder_legs
    all_goals exact h.notTaken

theorem declineJobs (h : RackLaw rail g s) {o : Order} {reason : Byte} : RackLaw rail g (s.declineJobs o reason) := by
  unfold State.declineJobs
  split
  · exact h.revertEntries.foldl fun _ _ k => k.declineJob
  · exact h

theorem declineOrder (h : RackLaw rail g s) {x : Crane} {o : Order} {reason : Byte} :
    RackLaw rail g (s.declineOrder x o reason) :=
  h.releaseWaiting.declineJobs.endDeclined

theorem takeDecline (h : RackLaw rail g s) {x : Crane} {id : Word16} {reason : Byte} :
    RackLaw rail g (s.takeDecline x id reason) := by
  refine ite h.notTaken ?_
  split
  · exact h.notTaken
  · split
    case h_1 | h_2 => exact h.declineOrder
    all_goals exact h.notTaken

theorem revokeOrder (h : RackLaw rail g s) {x : Crane} {o : Order} : RackLaw rail g (s.revokeOrder x o) :=
  endRevoked (revertEntries (returnJobs (ite h.anomaly h)))

theorem takeRevoked (h : RackLaw rail g s) {x : Crane} {id : Word16} {started : Bool} :
    RackLaw rail g (s.takeRevoked x id started) := by
  unfold State.takeRevoked
  split
  · exact h.notTaken
  · split
    · exact ite h.startOrder h.revokeOrder
    all_goals exact h.notTaken

theorem resumeLost (h : RackLaw rail g s) {x : Crane} : RackLaw rail g (s.resumeLost x) := by
  unfold State.resumeLost
  split
  · exact h
  · exact ite (takeKindState h.modOrder_legs) h.startIfSent

theorem markLegDone (h : RackLaw rail g s) {x : Crane} {o : Order} {i : Nat} {bay level : Byte} :
    RackLaw rail g (s.markLegDone x o i bay level) :=
  ite h.anomaly (narrowSpan (ite h.reportPosition.measureLeg h.reportPosition.markLegs.capture))

theorem takeLegDone (h : RackLaw rail g s) {x : Crane} {id : Word16} {i : Nat} {bay level : Byte} :
    RackLaw rail g (s.takeLegDone x id i bay level) := by
  unfold State.takeLegDone
  split
  · exact ite h.reportPosition.unsettled h.anomaly
  · refine ite h.resumeLost.markLegDone ?_
    split
    · exact h.markLegDone
    · exact h.startOrder.markLegDone
    · exact h.startOrder.markLegDone
    all_goals exact h.anomaly

theorem finishOrder (h : RackLaw rail g s) {x : Crane} {o : Order} {bay level : Byte} :
    RackLaw rail g (s.finishOrder x o bay level) := by
  unfold State.finishOrder
  dsimp only
  split
  · exact h.reportPosition.markLegs.endStore.endRetrieve.endDone
  · exact h.reportPosition.markLegs.endYield
  · exact h.reportPosition.markLegs.endDone

theorem takeOrderDone (h : RackLaw rail g s) {x : Crane} {id : Word16} {bay level : Byte} :
    RackLaw rail g (s.takeOrderDone x id bay level) := by
  unfold State.takeOrderDone
  split
  · exact ite h.reportPosition.unsettled h.anomaly
  · refine ite h.resumeLost.finishOrder ?_
    split
    · exact h.finishOrder
    · exact h.startOrder.finishOrder
    · exact h.startOrder.finishOrder
    all_goals exact h.anomaly

theorem faultWaiting (h : RackLaw rail g s) {x : Crane} {bay level : Byte} : RackLaw rail g (s.faultWaiting x bay level) :=
  craneStateEvent (reportPosition h.discardWaiting.setCraneState)

theorem applyFault (h : RackLaw rail g s) {x : Crane} {n : Nat} : RackLaw rail g (s.applyFault x n) := by
  unfold State.applyFault
  split
  case h_1 | h_2 | h_3 => exact h
  case h_4 | h_5 => exact h.enterFaulted
  case h_6 => exact h.spanToPosition.enterFaulted
  case h_7 => exact h.enterFaulted.leaveEngine
  all_goals
    split
    · exact h.enterFaulted
    · exact ite h.startIfSent.markLegs.suspendOrder.enterFaulted.failYield h.enterFaulted.failYield

theorem takeFault (h : RackLaw rail g s) {x : Crane} {code bay level : Byte} {id : Word16} {n : Nat} :
    RackLaw rail g (s.takeFault x code bay level id n) :=
  have coded := modCrane h.countAnomaly.nameAnomaly
  ite h.notTaken (ite (faultWaiting coded) (applyFault coded.reportPosition))

theorem takeAboard (h : RackLaw rail g s) {x : Crane} {aboard : Bool} : RackLaw rail g (s.takeAboard x aboard) := h.modCrane

theorem settleIdle (h : RackLaw rail g s) {x : Crane} : RackLaw rail g (s.settleIdle x) :=
  ite (ite (craneStateEvent h.setCraneState) h) h.spanToPosition.becomeIdle

theorem loadAboard (h : RackLaw rail g s) {x : Crane} : RackLaw rail g (s.loadAboard x) := by
  unfold State.loadAboard
  split
  · exact h.enterFaulted.leaveEngine
  · exact h.spanToPosition.enterFaulted
  · exact h.enterFaulted

theorem statusSyncing (h : RackLaw rail g s) {x : Crane} {mode : StatusMode} {aboard : Bool} :
    RackLaw rail g (s.statusSyncing x mode aboard) := by
  unfold State.statusSyncing
  split
  · exact h.settleIdle
  · exact h.loadAboard
  · exact h
  · exact h.applyFault

theorem markCount (h : RackLaw rail g s) {x : Crane} {n : Nat} : RackLaw rail g (s.markCount x n) := by
  unfold State.markCount
  split
  · exact h
  · exact ite h.markLegs h

theorem busyUnknown (h : RackLaw rail g s) {x : Crane} : RackLaw rail g (s.busyUnknown x) := by
  unfold State.busyUnknown
  split
  · exact craneStateEvent h.loseSight.setCraneState
  · exact h.loseSight.setCraneState.leaveEngine
  · exact h.loseSight.setCraneState

theorem statusFree (h : RackLaw rail g s) {x : Crane} {mode : StatusMode} {aboard : Bool} :
    RackLaw rail g (s.statusFree x mode aboard) := by
  unfold State.statusFree
  split
  · exact h
  · exact h.loadAboard
  · exact h.anomaly.busyUnknown
  · exact h.applyFault

theorem statusOrder (h : RackLaw rail g s) {x : Crane} {o : Order} {mode : StatusMode} {named : Bool} {n : Nat} :
    RackLaw rail g (s.statusOrder x o mode named n) := by
  unfold State.statusOrder
  split
  · exact ite h.orderLostIdle h
  · exact h.startIfSent.markCount.narrowSpan
  · exact h.anomaly.orderLostSyncing
  · exact h.applyFault

theorem statusFaultedOrder (h : RackLaw rail g s) {x : Crane} {o : Order} {mode : StatusMode} {named : Bool} {n : Nat} :
    RackLaw rail g (s.statusFaultedOrder x o mode named n) := by
  unfold State.statusFaultedOrder
  split
  · exact ite h.orderLostIdle h
  · exact h.startIfSent.clearFault.markCount
  · exact h.anomaly.orderLostSyncing
  · exact h

theorem statusFaultedFree (h : RackLaw rail g s) {x : Crane} {mode : StatusMode} {aboard : Bool} :
    RackLaw rail g (s.statusFaultedFree x mode aboard) := by
  unfold State.statusFaultedFree
  split
  · exact h.clearFault
  · exact h
  · exact h.anomaly
  · exact h

theorem statusLost (h : RackLaw rail g s) {x : Crane} {mode : StatusMode} {named : Bool} {n : Nat} {aboard : Bool} :
    RackLaw rail g (s.statusLost x mode named n aboard) := by
  unfold State.statusLost
  split
  · exact h.orderLostIdle
  · exact h.settleIdle
  · exact h.loadAboard
  · exact h.resumeLost.markCount.narrowSpan
  · exact h.anomaly.orderLostSyncing
  · exact h.anomaly.busyUnknown
  · exact h.applyFault

theorem statusPosition (h : RackLaw rail g s) {x : Crane} {mode : StatusMode} {bay level : Byte} :
    RackLaw rail g (s.statusPosition x mode bay level) :=
  ite h.reportRange h.reportPosition

theorem statusWaiting (h : RackLaw rail g s) {x : Crane} {mode : StatusMode} {bay level : Byte} {aboard : Bool} :
    RackLaw rail g (s.statusWaiting x mode bay level aboard) := by
  cases mode
  · exact h
  · exact h.anomaly
  · exact h.faultWaiting.takeAboard

theorem statusAnomalies (h : RackLaw rail g s) {x : Crane} {mode : StatusMode} {id : Word16} {n : Nat} :
    RackLaw rail g (s.statusAnomalies x mode id n) := by
  cases mode
  · exact h.countAnomaly.nameAnomaly
  · exact h.countAnomaly
  · exact h.countAnomaly.nameAnomaly

theorem takeStatus (h : RackLaw rail g s) {x : Crane} {mode : StatusMode} {id : Word16} {n : Nat} {bay level : Byte}
    {aboard : Bool} : RackLaw rail g (s.takeStatus x mode id n bay level aboard) := by
  have taken : RackLaw rail g
      (((s.statusAnomalies x mode id n).statusPosition x mode bay level).takeAboard x aboard) :=
    h.statusAnomalies.statusPosition.takeAboard
  unfold State.takeStatus
  dsimp only
  split
  · exact h
  · exact h.statusAnomalies.statusWaiting
  · exact taken.statusSyncing
  · exact taken.statusLost
  · exact taken.statusFaultedOrder
  · exact taken.statusFaultedFree
  · exact taken.statusOrder
  · exact taken.statusFree

theorem takeFaultClear (h : RackLaw rail g s) {x : Crane} {bay level : Byte} :
    RackLaw rail g (s.takeFaultClear x bay level) := by
  unfold State.takeFaultClear
  dsimp only
  split
  · exact h.reportPosition.takeAboard.settleIdle
  · exact h.reportPosition.clearFault
  · exact h.reportPosition.clearFault
  · exact h.reportPosition.anomaly

theorem dropCraneFrame (h : RackLaw rail g s) {x : Crane} : RackLaw rail g (s.dropCraneFrame x) :=
  (h.modCrane (x := x)
    (f := fun c => { c with lineErrors := satAdd Config.countLimit c.lineErrors 1 })).of_same rfl rfl rfl rfl rfl rfl

/-! ### The clocks and the limits -/

theorem serviceSilence (h : RackLaw rail g s) {x : Crane} : RackLaw rail g (s.serviceSilence x) := ite h.loseCrane h

theorem serviceHost (h : RackLaw rail g s) : RackLaw rail g s.serviceHost := ite (raise h.setSup) h

theorem serviceAccept (h : RackLaw rail g s) {x : Crane} : RackLaw rail g (s.serviceAccept x) := ite h.expireAccept h

theorem countSilence (h : RackLaw rail g s) {x : Crane} : RackLaw rail g (s.countSilence x) := ite h.setSilence h

theorem countAccept (h : RackLaw rail g s) {x : Crane} : RackLaw rail g (s.countAccept x) :=
  h.modOrder_legs fun o => by
    split <;> rfl

theorem poll (h : RackLaw rail g s) {before : Crane → Nat} : RackLaw rail g (s.poll before) := by
  unfold State.poll
  split
  · exact emit h.setSup
  · exact h

theorem paceExpires (h : RackLaw rail g s) : RackLaw rail g s.paceExpires := by
  have counted : RackLaw rail g (allCranes.foldl State.countAccept (allCranes.foldl State.countSilence s.tickPace)) :=
    (foldl (setSup h) fun _ _ k => k.countSilence).foldl fun _ _ k => k.countAccept
  exact foldl (serviceHost (poll (foldl (setSup counted) fun _ _ k => k.serviceSilence))) fun _ _ k => k.serviceAccept

theorem transmitted (h : RackLaw rail g s) : RackLaw rail g s.transmitted := by
  unfold State.transmitted
  split
  · exact h
  · exact h.of_same rfl rfl rfl rfl rfl rfl

/-! ### Requests -/

theorem afterRelease (h : RackLaw rail g s) {xs : List Crane} : RackLaw rail g (s.afterRelease xs) := h.engineRun.triggerAll

theorem autoRelease (h : RackLaw rail g s) : RackLaw rail g s.autoRelease := ite (afterRelease (raise h.setSup)) h

theorem hearHost (h : RackLaw rail g s) : RackLaw rail g s.hearHost := autoRelease h.setSup

theorem dropFrame (h : RackLaw rail g s) : RackLaw rail g s.dropFrame := h.of_same rfl rfl rfl rfl rfl rfl

/-- A request is dropped, or refused without an owner, or answered by its owner. -/
theorem takeRequest (h : RackLaw rail g s) {kind : Byte} {body : List Byte} {owner : State → List Byte → Answer}
    (ho : ∀ t fields, RackLaw rail g t → RackLaw rail g (owner t fields).1) :
    RackLaw rail g (s.takeRequest kind body owner) := by
  refine ite h.dropFrame ?_
  split
  · exact pushReply (ho _ _ h.hearHost)
  · exact pushReply h.hearHost

theorem reading {α : Type} (h : RackLaw rail g s) {read : List Byte → Option α} {act : State → α → Answer}
    {fields : List Byte} (ha : ∀ r, read fields = some r → RackLaw rail g (act s r).1) :
    RackLaw rail g (State.reading read act s fields).1 := by
  unfold State.reading
  split
  · rename_i r e; exact ha r e
  · exact h

theorem ranged {α : Type} (h : RackLaw rail g s) {n : Option α} {act : State → α → Answer}
    (ha : ∀ a, RackLaw rail g (act s a).1) : RackLaw rail g (s.ranged n act).1 := by
  unfold State.ranged
  split
  · exact ha _
  · exact h

/-- A refusal changes nothing. -/
theorem refuse (h : RackLaw rail g s) {code : ReplyCode} : RackLaw rail g (s.refuse code).1 := h

theorem ok (h : RackLaw rail g s) : RackLaw rail g s.ok.1 := h

theorem okWith (h : RackLaw rail g s) {d : ReplyData} : RackLaw rail g (s.okWith d).1 := h

/-- A check of a request. -/
theorem check {c : Prop} [Decidable c] {a b : Answer} (ha : c → RackLaw rail g a.1) (hb : ¬c → RackLaw rail g b.1) :
    RackLaw rail g (if c then a else b).1 := by
  split
  · rename_i k; exact ha k
  · rename_i k; exact hb k

/-! #### Aisles and cranes -/

theorem setPolicy (h : RackLaw rail g s) {r : PolicyRequest} : RackLaw rail g (s.setPolicy r).1 := by
  unfold State.setPolicy
  repeat' split
  all_goals exact h.of_same rfl rfl rfl rfl rfl rfl

theorem loadWeights (h : RackLaw rail g s) {r : Nat × List Weight} : RackLaw rail g (s.loadWeights r).1 :=
  check (fun _ => h) fun _ => check (fun _ => h) fun _ => ok (h.of_same rfl rfl rfl rfl rfl rfl)

theorem setProfile (h : RackLaw rail g s) {r : Byte × Profile} : RackLaw rail g (s.setProfile r).1 := by
  unfold State.setProfile
  repeat' split
  all_goals exact h.of_same rfl rfl rfl rfl rfl rfl

theorem setScoring (h : RackLaw rail g s) {r : Scoring} : RackLaw rail g (s.setScoring r).1 :=
  h.of_same rfl rfl rfl rfl rfl rfl

theorem setTrim (h : RackLaw rail g s) {r : Byte × Nat × Bool} : RackLaw rail g (s.setTrim r).1 :=
  h.ranged fun _ => h.setTrimOf

theorem queryAisle (h : RackLaw rail g s) {b : Byte} : RackLaw rail g (s.queryAisle b).1 := h.ranged fun _ => h

theorem takeEnrol (h : RackLaw rail g s) {x : Crane} : RackLaw rail g (s.takeEnrol x) :=
  emit (setSilence (setSpan_unplaced h.forgetPosition (by rw [State.crane_modCrane_self]) (by nofun)))

theorem enrol (h : RackLaw rail g s) {b : Byte} : RackLaw rail g (s.enrol b).1 :=
  h.ranged fun _ => check (fun _ => h) fun _ => check (fun _ => h) fun _ => h.takeEnrol.ok

theorem takeWithdraw (h : RackLaw rail g s) {x : Crane} : RackLaw rail g (s.takeWithdraw x) := by
  have forgotten : RackLaw rail g ((s.modCrane x fun c =>
      { c with state := .offline, position := none, aboard := .unknown, homeRequest := false,
               starved := false }).setSilence x 0) :=
    setSilence h.forgetPosition
  unfold State.takeWithdraw
  refine shrunkFrom (setSpan_unplaced (ite forgotten.craneStateEvent forgotten) ?_ (by nofun))
  split
  · simp [State.craneStateEvent, State.raise, State.transmit]
  · simp

theorem withdraw (h : RackLaw rail g s) {b : Byte} : RackLaw rail g (s.withdraw b).1 :=
  h.ranged fun _ => check (fun _ => h) fun _ => check (fun _ => h) fun _ => h.takeWithdraw.ok

theorem takeHome (h : RackLaw rail g s) {x : Crane} : RackLaw rail g (s.takeHome x) := by
  have set : RackLaw rail g (s.modCrane x fun c => { c with homeRequest := true }) := h.modCrane
  unfold State.takeHome
  dsimp only
  split
  · exact set.trigger
  · exact set.engineRun
  · exact set

theorem homeCrane (h : RackLaw rail g s) {b : Byte} : RackLaw rail g (s.homeCrane b).1 :=
  h.ranged fun _ => check (fun _ => h) fun _ => check (fun _ => h) fun _ => h.takeHome.ok

theorem abandonOrder (h : RackLaw rail g s) {b : Byte} : RackLaw rail g (s.abandonOrder b).1 :=
  h.ranged fun _ => check (fun _ => h.emit.giveUp.ok) fun _ => h

theorem queryCrane (h : RackLaw rail g s) {b : Byte} : RackLaw rail g (s.queryCrane b).1 := h.ranged fun _ => h

/-! #### Jobs and spares -/

theorem addJob (h : RackLaw rail g s) {j : Job} (ht : ∀ i ∈ s.pool.jobs, i.tag ≠ j.tag) (hj : g.jobHeld j) :
    RackLaw rail g (s.addJob j) := by
  unfold State.addJob
  refine watch ?_
  refine ⟨h.geometry, ?_, fun i hi => ?_, h.spares, h.orders, h.pass, h.rail⟩
  · rw [List.map_append, List.map_singleton]
    refine List.Nodup.append h.tags (List.nodup_singleton _) fun t hm hs => ?_
    obtain ⟨i, hi, rfl⟩ := List.mem_map.1 hm
    exact ht i hi (List.mem_singleton.1 hs)
  · rcases List.mem_append.1 hi with hi | hi
    · exact h.jobs i hi
    · exact List.mem_singleton.1 hi ▸ hj

/-- A tag that no live job has. -/
theorem tag_free {p : Pool} {tag : Word32} (h : ¬(p.find tag).isSome = true) : ∀ i ∈ p.jobs, i.tag ≠ tag := by
  simpa [Pool.find] using h

theorem find_some {p : Pool} {tag : Word32} {j : Job} (h : p.find tag = some j) : j ∈ p.jobs ∧ j.tag = tag :=
  ⟨List.mem_of_find?_eq_some h, by simpa using List.find?_some h⟩

/-- The candidates that fit are slots held in the geometry (R22). -/
theorem candidates_held (h : RackLaw rail g s) {a : Aisle} {ps : List Place}
    (hf : ps.all (s.candidateFits a) = true) : ∀ c ∈ slotsIn ps, g.slotHeld a c := by
  intro c hc
  obtain ⟨p, hp, e⟩ := List.mem_filterMap.1 hc
  have k := List.all_eq_true.1 hf p hp
  cases p with
  | slot d =>
    cases e
    simpa [State.candidateFits, State.slotHeld, h.inGeometry] using k
  | station | rail => cases e

theorem takeStore (h : RackLaw rail g s) {r : StoreRequest} {st : Station} (ht : ∀ i ∈ s.pool.jobs, i.tag ≠ r.tag)
    (hc : ∀ c ∈ slotsIn r.candidates, g.slotHeld st.aisle c) : RackLaw rail g (s.takeStore r st).1 := by
  refine okWith (trigger (h.addJob ht ⟨fun c k => ?_, fun _ k => by cases k⟩))
  rcases k with k | k | k
  · exact hc c k
  · cases k
  · cases k

theorem admitStore (h : RackLaw rail g s) {r : StoreRequest} : RackLaw rail g (s.admitStore r).1 := by
  unfold State.admitStore
  split
  · exact check (fun _ => h) fun _ => check (fun _ => h) fun hf => check (fun _ => h) fun ht => check (fun _ => h) fun _ =>
      check (fun _ => h) fun _ => check (fun _ => h) fun _ =>
        h.takeStore (tag_free ht) (h.candidates_held (by simpa using hf))
  · exact h

theorem raiseLane (h : RackLaw rail g s) {l : Option (LaneNo × Word16)} : RackLaw rail g (s.raiseLane l) := by
  unfold State.raiseLane
  split
  · exact h.setLane
  · exact h

theorem takeRetrieve (h : RackLaw rail g s) {r : RetrieveRequest} {a : Slot} (ht : ∀ i ∈ s.pool.jobs, i.tag ≠ r.tag)
    (ha : g.inGeometry a = true) (hb : r.blocker ≠ none → a.depth = .rear ∧ (g.geometryOf a.aisle).doubleDeep = true) :
    RackLaw rail g (s.takeRetrieve r a).1 := by
  have listed : RackLaw rail g ((s.setTable (addEntry s.table a (.retrieveSource r.tag))).raiseLane r.lane) :=
    raiseLane (h.setTable_from (.addEntry _ _ rfl))
  refine okWith (triggerAisle (listed.addJob ?_ ⟨fun c k => ?_, fun c k => ?_⟩))
  · unfold State.raiseLane
    split <;> exact ht
  · rcases k with k | k | k <;> cases k
    exact ⟨ha, rfl⟩
  · cases k
    exact hb

theorem admitRetrieve (h : RackLaw rail g s) {r : RetrieveRequest} : RackLaw rail g (s.admitRetrieve r).1 := by
  unfold State.admitRetrieve
  split
  · rename_i a _
    refine check (fun _ => h) fun ha => check (fun _ => h) fun hb => check (fun _ => h) fun ht => check (fun _ => h) fun _ =>
      check (fun _ => h) fun _ => ?_
    split
    · exact h
    · refine check (fun _ => h) fun _ => h.takeRetrieve (tag_free ht) (by rw [← h.inGeometry]; simpa using ha) fun k => ?_
      rw [← h.geometryOf]
      cases hd : a.depth <;> simp_all [Option.isSome_iff_ne_none]
  · exact h

theorem jobHeld_amended {j : Job} {c : List Slot} (h : g.jobHeld j) (hc : ∀ a ∈ c, g.slotHeld j.aisle a) :
    g.jobHeld ((j.setCandidates c).setStalled false) := by
  obtain ⟨_, _, _, _, _, _, _, _ | _⟩ := j
  · exact ⟨fun a ha => ha.elim (hc a) fun ha => h.1 a (.inr ha), h.2⟩
  · exact h

theorem amendStore (h : RackLaw rail g s) {r : Word32 × List Place} : RackLaw rail g (s.amendStore r).1 := by
  unfold State.amendStore
  split
  · exact h
  · rename_i j hj
    split
    · exact h
    · rename_i st hst
      refine check (fun _ => h) fun _ => check (fun _ => h) fun hf => ok (trigger (h.modJobOf_held (fun k => ?_)
        fun k hk e => jobHeld_amended (h.jobs k hk) ?_))
      · obtain ⟨_, _, _, _, _, _, _, _ | _⟩ := k <;> rfl
      · have same : k = j := List.inj_on_of_nodup_map h.tags hk (find_some hj).1 (e.trans (find_some hj).2.symm)
        have aisle : k.aisle = st.aisle := by
          subst same
          obtain ⟨_, _, _, _, _, _, _, _ | _⟩ := k <;> cases hst
          rfl
        rw [aisle]
        exact h.candidates_held (by simpa using hf)

theorem cancelJob (h : RackLaw rail g s) {r : Word32 × Bool} : RackLaw rail g (s.cancelJob r).1 := by
  unfold State.cancelJob
  split
  · exact h
  · split
    · exact h
    · rename_i j _ _
      have skipped : RackLaw rail g ((s.removeJob r.1 false).skipDelivery j r.2) := by
        unfold State.skipDelivery
        split
        · exact h.removeJob.deliver
        · exact h.removeJob
      dsimp only [State.ok, State.cancelTriggers]
      split
      · exact ite skipped.trigger skipped
      · exact skipped.triggerAisle

theorem queryJob (h : RackLaw rail g s) {tag : Word32} : RackLaw rail g (s.queryJob tag).1 := by
  unfold State.queryJob
  split <;> exact h

theorem addSpare (h : RackLaw rail g s) {p : Place} : RackLaw rail g (s.addSpare p).1 := by
  unfold State.addSpare
  split
  · refine check (fun _ => h) fun hg => check (fun _ => h) fun _ => check (fun _ => h) fun _ =>
      ok (triggerAisle (h.setTable fun e he k => ?_))
    rcases List.mem_append.1 he with he | he
    · exact h.spares e he k
    · rw [List.mem_singleton.1 he, ← h.inGeometry]
      simpa using hg
  · exact h

theorem removeSpare (h : RackLaw rail g s) {p : Place} : RackLaw rail g (s.removeSpare p).1 := by
  unfold State.removeSpare
  split
  · refine check (fun _ => h) fun _ => ?_
    split
    · exact ok (h.setTable_from (.dropSlot _ _))
    · exact h
    · exact h
  · exact h

/-! #### Lanes, supervision and notices -/

theorem laneOpen (h : RackLaw rail g s) {r : Byte × Word16 × Nat} : RackLaw rail g (s.laneOpen r).1 :=
  h.ranged fun _ => check (fun _ => h) fun _ => okWith (triggerAll h.setLane)

theorem laneClose (h : RackLaw rail g s) {b : Byte} : RackLaw rail g (s.laneClose b).1 :=
  h.ranged fun _ => check (fun _ => h) fun _ => check (fun _ => h) fun _ => ok h.setLane

theorem takeSkip (h : RackLaw rail g s) {l : LaneNo} {d : Word16} : RackLaw rail g (s.takeSkip l d).1 := by
  unfold State.takeSkip
  exact okWith h.deliverOnly.triggerAll

theorem skipSequence (h : RackLaw rail g s) {r : Byte × Word16} : RackLaw rail g (s.skipSequence r).1 :=
  h.ranged fun _ => check (fun _ => h) fun _ => check (fun _ => h) fun _ => check (fun _ => h) fun _ =>
    check (fun _ => h) fun _ => h.takeSkip

theorem queryLane (h : RackLaw rail g s) {b : Byte} : RackLaw rail g (s.queryLane b).1 := h.ranged fun _ => h

theorem setTiming (h : RackLaw rail g s) {r : Byte × Nat × Nat × Nat × Bool} : RackLaw rail g (s.setTiming r).1 :=
  h.ranged fun _ => h.setSup

theorem setCause (h : RackLaw rail g s) {sc : HoldScope} : RackLaw rail g (s.setCause sc) := by
  cases sc <;> exact setSup h.setSup

theorem clearCauses (h : RackLaw rail g s) {sc : HoldScope} : RackLaw rail g (s.clearCauses sc) := by
  cases sc <;> exact setSup h.setSup

theorem holdRequest (h : RackLaw rail g s) {b : Byte} : RackLaw rail g (s.holdRequest b).1 :=
  h.ranged fun _ => check (fun _ => h) fun _ => ok (raise h.setCause)

theorem resumeRequest (h : RackLaw rail g s) {b : Byte} : RackLaw rail g (s.resumeRequest b).1 :=
  h.ranged fun _ => check (fun _ => ok (afterRelease (raise h.clearCauses))) fun _ => h

theorem setNoticeEntries (h : RackLaw rail g s) {es : List NoticeEntry} : RackLaw rail g (s.setNoticeEntries es).1 :=
  check (fun _ => h) fun _ => ok (h.of_same rfl rfl rfl rfl rfl rfl)

theorem clearFlags (h : RackLaw rail g s) {n : Nat} : RackLaw rail g (s.clearFlags n).1 := h.of_same rfl rfl rfl rfl rfl rfl

theorem setWatch (h : RackLaw rail g s) {r : Nat × Byte} : RackLaw rail g (s.setWatch r).1 :=
  h.ranged fun _ => h.of_same rfl rfl rfl rfl rfl rfl

theorem queryStatus (h : RackLaw rail g s) {fields : List Byte} : RackLaw rail g (s.queryStatus fields).1 := by
  unfold State.queryStatus
  split <;> exact h

/-! #### RESET and power-on -/

/-- A part that holds nothing. -/
theorem empty {t : State} (hj : t.pool.jobs = []) (ht : t.table = []) (hc : ∀ x, (t.crane x).order = none)
    (hp : t.engine.pass = none) (hr : rail → ∀ x, OnRail (t.railEnd x) (t.crane x).position (t.spanOf x)) :
    RackLaw rail t t where
  geometry := rfl
  tags := by simp [hj]
  jobs := by simp [hj]
  spares := by simp [ht]
  orders := fun x o e => by simp [hc] at e
  pass := fun p e => by simp [hp] at e
  rail := hr

theorem powerOn {t : State} (hj : t.pool = .powerOn) (ht : t.table = []) (hc : t.orders = .powerOn) (hp : t.engine = .powerOn)
    (hs : t.spans = .powerOn) : RackLaw rail t t := by
  have crane (x : Crane) : t.crane x = .powerOn := by
    unfold State.crane OrderUnit.powerOn at *
    rw [hc]
    simp [Vector.get_eq_getElem]
  have span (x : Crane) : t.spanOf x = .absent := by
    unfold State.spanOf SpanUnit.powerOn at *
    rw [hs]
    simp [Vector.get_eq_getElem]
  refine empty (hj ▸ rfl) ht (fun x => by rw [crane]; rfl) (hp ▸ rfl) fun _ x => ?_
  rw [crane, span]
  exact .unplaced nofun

theorem resetSpan (h : RackLaw rail g s) {x : Crane} : RackLaw rail g (s.resetSpan x) := by
  unfold State.resetSpan
  split
  · rename_i p _ e
    exact h.setSpan fun r => .bays (h.position_le r) (h.position_le r p e) (h.position_le r p e)
  · exact h

theorem abortSent (h : RackLaw rail g s) {x : Crane} : RackLaw rail g (s.abortSent x) := by
  unfold State.abortSent
  split
  · exact ite h.emit h
  · exact h

theorem pollEnrolled (h : RackLaw rail g s) {x : Crane} : RackLaw rail g (s.pollEnrolled x) := ite (emit h.setSilence) h

theorem resetCrane (h : RackLaw rail g s) {x : Crane} : RackLaw rail g (s.resetCrane x) := by
  have polled : RackLaw rail g (((s.abortSent x).resetSpan x).pollEnrolled x) := h.abortSent.resetSpan.pollEnrolled
  refine setTrimOf (polled.setCrane (fun o e => ?_) fun r => ?_)
  · unfold CraneCtx.resetJobs at e
    split at e <;> cases e
  · have k := polled.rail r x
    unfold CraneCtx.resetJobs
    split <;> exact k

theorem resetRest (h : RackLaw rail g s) : RackLaw rail g s.resetRest where
  geometry := h.geometry
  tags := List.nodup_nil
  jobs := fun _ => nofun
  spares := fun _ => nofun
  orders := h.orders
  pass := fun p e => absurd e (Option.some_ne_none p).symm
  rail := h.rail

theorem resetJobs (h : RackLaw rail g s) : RackLaw rail g s.resetJobs := resetRest (h.foldl fun _ _ k => k.resetCrane)

end RackLaw
end Sys2Proof.Machine

namespace Sys2Proof.Machine

/-! ### What a pass computes -/

namespace State

theorem targets_makeLegs (s : State) (v : Values) (a : Aisle) (o : Origin) (route : List (Place × Action)) :
    (s.makeLegs v a o route).map (·.target) = route.map (·.1) := by
  induction route generalizing o with
  | nil => rfl
  | cons p route ih => rw [makeLegs, List.map_cons, ih]; rfl

theorem targets_passLegs (s : State) (p : Pass) (route : List (Place × Action)) :
    (s.passLegs p route).map (·.target) = route.map (·.1) := by
  unfold passLegs
  split
  · rfl
  · exact s.targets_makeLegs ..

/-- The store part of a route, when a store has been chosen (R107). -/
def storeRoute (p : Pass) : Option StorePick → List (Place × Action)
  | some k => storePart (stationOf p.crane) k.slot
  | none => []

/-- The best retrieve after one more is the best before, or one whose legs are the route's (R109, R111). -/
theorem scoreRetrieve_legs (s : State) (p : Pass) (j : Job) (a : Slot) (store : Option StorePick) (reloc : Option Relocation)
    (best : Option RetrievePick) {b : RetrievePick} (h : s.scoreRetrieve p j a store reloc best = some b) :
    best = some b ∨ b.legs.map (·.target)
      = (storeRoute p store ++ retrievePart (stationOf p.crane) a (reloc.map fun r => (r.front, r.spare))).map (·.1) := by
  have legs := s.targets_passLegs p
    (storeRoute p store ++ retrievePart (stationOf p.crane) a (reloc.map fun r => (r.front, r.spare)))
  cases store
  all_goals
    unfold scoreRetrieve at h
    dsimp only at h
    split at h
    · exact .inl h
    · cases h
      exact .inr legs
    · split at h
      · cases h
        exact .inr legs
      · exact .inl h

end State

/-- A choice among a list is the one before it or a member of the list. -/
theorem foldl_choice {α : Type} {f : Option α → α → Option α} (hf : ∀ b x, f b x = b ∨ f b x = some x) (l : List α)
    (b : Option α) {c : α} (h : l.foldl f b = some c) : b = some c ∨ c ∈ l := by
  induction l generalizing b with
  | nil => exact .inl h
  | cons a l ih =>
    rcases ih _ h with k | k
    · rcases hf b a with e | e
      · exact .inl (e ▸ k)
      · rw [e] at k
        cases k
        exact .inr (by simp)
    · exact .inr (by simp [k])

namespace State

/-- The relocation spare is a slot of the aisle's spare list (R46). -/
theorem bestSpare_mem (s : State) (v : Values) (front : Slot) (store : Option Slot) {x : Slot}
    (h : s.bestSpare v front store = some x) : x ∈ Table.spareList s.table front.aisle := by
  refine (foldl_choice (fun b x => ?_) _ _ h).elim nofun fun k => (List.mem_filter.1 k).1
  cases b with
  | none => exact .inr rfl
  | some b => exact (ite_eq_or_eq _ _ _).symm

end State

theorem mem_spareList {t : List Entry} {a : Aisle} {x : Slot} (h : x ∈ Table.spareList t a) :
    (∃ e ∈ t, e.use.isSpare = true ∧ e.slot = x) ∧ x.aisle = a := by
  obtain ⟨e, he, rfl⟩ := List.mem_map.1 h
  obtain ⟨hm, hs⟩ := List.mem_filter.1 he
  obtain ⟨hs, ha⟩ := Bool.and_eq_true_iff.1 hs
  exact ⟨⟨e, hm, hs, rfl⟩, eq_of_beq ha⟩

theorem mem_of_useAt {t : List Entry} {a : Slot} {u : Use} (h : useAt t a = some u) : ∃ e ∈ t, e.use = u ∧ e.slot = a := by
  obtain ⟨e, he, rfl⟩ := Option.map_eq_some_iff.1 h
  exact ⟨e, List.mem_of_find?_eq_some he, rfl, by simpa using List.find?_some he⟩

namespace RackLaw

variable {rail : Prop} {g s : State}

/-! ### Items of a pass (R104) -/

theorem setStage (h : RackLaw rail g s) {p : Pass} {st : Stage}
    (hs : ∀ store cursor b, st = .retrieve store cursor (some b) → g.routeHeld (aisleOf p.crane) store b.legs) :
    RackLaw rail g (s.setStage p st) :=
  h.setPass fun q e => by
    cases e
    exact hs

theorem stallHead (h : RackLaw rail g s) {p : Pass} {tag serial : Word32} : RackLaw rail g (s.stallHead p tag serial) := by
  have stalled : RackLaw rail g (s.modJobOf tag fun k => k.setStalled true) := h.modJobOf fun _ => .stalled _ _
  unfold State.stallHead
  split
  · exact h
  · exact ite stalled stalled.raise

theorem endStoreStage (h : RackLaw rail g s) {p : Pass} {tag serial : Word32} {best : Option StorePick} :
    RackLaw rail g (s.endStoreStage p tag serial best) := by
  unfold State.endStoreStage
  split
  · exact h.stallHead.setStage fun _ _ _ e => by cases e
  · refine (h.modJobOf fun _ => .stalled _ _).setStage fun _ _ _ e => ?_
    split at e <;> cases e

theorem noSpares (h : RackLaw rail g s) {p : Pass} : RackLaw rail g (s.noSpares p) := ite h h.raise

/-- The FRONT slot of a relocation is in the geometry beside its REAR slot (R3). -/
theorem partner_held {a : Slot} (ha : g.inGeometry a = true) (hd : a.depth = .rear) : g.inGeometry a.partner = true := by
  unfold State.inGeometry at *
  simp_all [Slot.partner]

/-- A relocation names slots held in the geometry (R46). -/
theorem relocationFor_held (h : RackLaw rail g s) {p : Pass} {j : Job} {a : Slot} {store : Option Slot} {r : Relocation}
    (hj : j ∈ s.pool.jobs) (ha : j.slot? = some a) (hr : s.relocationFor p j a store = some (some r)) :
    g.slotHeld j.aisle r.front ∧ g.slotHeld j.aisle r.spare := by
  obtain ⟨held, rear⟩ := h.jobs j hj
  obtain ⟨hg, hs⟩ := held a (.inr (.inr ha))
  unfold State.relocationFor at hr
  split at hr
  · cases hr
  · rename_i b hb
    simp only [Option.some.injEq, Option.map_eq_some_iff] at hr
    obtain ⟨x, hx, rfl⟩ := hr
    obtain ⟨⟨e, he, hu, rfl⟩, hxa⟩ := mem_spareList (s.bestSpare_mem _ _ _ hx)
    exact ⟨⟨partner_held hg (rear a ha (by simp [hb])).1, hs⟩, h.spares e he hu, hxa.trans hs⟩

/-- The route of a retrieve, beside a store or alone, is held in the geometry. -/
theorem scoreRetrieve_held {p : Pass} {j : Job} {a : Slot} {store : Option StorePick}
    {reloc : Option Relocation} {best : Option RetrievePick} (ha : g.slotHeld (aisleOf p.crane) a)
    (hr : ∀ r, reloc = some r → g.slotHeld (aisleOf p.crane) r.front ∧ g.slotHeld (aisleOf p.crane) r.spare)
    (hb : ∀ b, best = some b → g.routeHeld (aisleOf p.crane) store b.legs) {b : RetrievePick}
    (e : s.scoreRetrieve p j a store reloc best = some b) : g.routeHeld (aisleOf p.crane) store b.legs := by
  rcases s.scoreRetrieve_legs _ _ _ _ _ _ e with e | e
  · exact hb b e
  · intro l hl
    have hm := e ▸ List.mem_map_of_mem (f := fun l : Leg => l.target) hl
    generalize l.target = t at hm ⊢
    have station : g.routePlace (aisleOf p.crane) (.station (stationOf p.crane)) := rfl
    simp only [List.map_append, List.mem_append] at hm
    rcases hm with hm | hm
    · cases store with
      | none => cases hm
      | some k =>
        simp only [State.storeRoute, storePart, List.map_cons, List.map_nil, List.mem_cons, List.not_mem_nil, or_false] at hm
        rcases hm with rfl | rfl
        · exact .inl station
        · exact .inr ⟨k, rfl, rfl⟩
    · refine .inl ?_
      cases reloc with
      | none =>
        simp only [retrievePart, Option.map_none, List.nil_append, List.map_cons, List.map_nil, List.mem_cons,
          List.not_mem_nil, or_false] at hm
        rcases hm with rfl | rfl
        · exact ha
        · exact station
      | some r =>
        obtain ⟨hf, hs⟩ := hr r rfl
        simp only [retrievePart, Option.map_some, List.cons_append, List.nil_append, List.map_cons, List.map_nil,
          List.mem_cons, List.not_mem_nil, or_false] at hm
        rcases hm with rfl | rfl | rfl | rfl
        · exact hf
        · exact hs
        · exact ha
        · exact station

theorem considerRetrieve (h : RackLaw rail g s) {p : Pass} {j : Job} {a : Slot} {store : Option StorePick}
    {best : Option RetrievePick} (hj : j ∈ s.pool.jobs) (ha : j.slot? = some a) (hx : j.aisle = aisleOf p.crane)
    (hb : ∀ b, best = some b → g.routeHeld (aisleOf p.crane) store b.legs) :
    RackLaw rail g (s.considerRetrieve p j a store best) := by
  have held : g.slotHeld (aisleOf p.crane) a := hx ▸ (h.jobs j hj).1 a (.inr (.inr ha))
  have passed : RackLaw rail g (s.setStage p (.retrieve store (some j.serial) best)) :=
    h.setStage fun _ _ b e => by cases e; exact hb b rfl
  have scored {reloc : Option Relocation}
      (hr : ∀ r, reloc = some r → g.slotHeld (aisleOf p.crane) r.front ∧ g.slotHeld (aisleOf p.crane) r.spare) :
      RackLaw rail g (s.setStage p (.retrieve store (some j.serial) (s.scoreRetrieve p j a store reloc best))) :=
    h.setStage fun st c b e => by
      obtain ⟨rfl, -, e⟩ := Stage.retrieve.inj e
      exact scoreRetrieve_held held hr hb e
  unfold State.considerRetrieve
  refine ite passed ?_
  split
  · exact h.noSpares.setStage fun _ _ b e => by cases e; exact hb b rfl
  · exact ite (scored fun _ e => by cases e) passed
  · rename_i r e
    exact ite (scored fun q k => by cases k; exact hx ▸ h.relocationFor_held hj ha e) passed

/-- An item of the pass in flight. -/
theorem passItem (h : RackLaw rail g s) {p : Pass} {t : State} (hp : s.engine.pass = some p) (e : s.passItem p = some t) :
    RackLaw rail g t := by
  unfold State.passItem at e
  split at e
  · split at e <;> cases e
    · exact h.setStage fun _ _ _ e => by cases e
    · exact h.setStage fun _ _ _ e => by cases e
  · split at e <;> cases e
    · exact h.setStage fun _ _ _ e => by cases e
    · exact h.endStoreStage
  · rename_i store cursor best hst
    split at e
    · cases e
    · rename_i j hj
      split at e <;> cases e
      rename_i a ha
      have picked := List.find?_some hj
      simp only [Bool.and_eq_true, beq_iff_eq] at picked
      refine h.considerRetrieve (List.mem_of_find?_eq_some hj) ha picked.1.1.1.2 fun b hb => ?_
      exact h.pass p hp store cursor b (hb ▸ hst)
  · cases e

theorem passItems (n : Nat) {s : State} (h : RackLaw rail g s) : RackLaw rail g (State.passItems n s) := by
  induction n generalizing s with
  | zero => exact h
  | succ n ih =>
    unfold State.passItems
    split
    · exact h
    · rename_i p hp
      split
      · rename_i t e
        exact ih (h.passItem hp e)
      · exact h

/-! ### The decision and the dispatch (R110, R117, R118) -/

/-- The places of a result: held, or the store slot it has chosen. -/
def ResultHeld (g : State) (x : Crane) (r : PassResult) : Prop :=
  (∀ a, r.storeSlot = some a → r.storeTag ≠ none)
    ∧ ∀ t ∈ r.places, g.routePlace (aisleOf x) t ∨ ∃ a, r.storeSlot = some a ∧ t = .slot a

theorem storeResult_held {p : Pass} {k : StorePick} : ResultHeld g p.crane (s.storeResult p k) := by
  refine ⟨fun a _ => nofun, fun t ht => ?_⟩
  rw [PassResult.places, State.storeResult, s.targets_passLegs] at ht
  simp only [storePart, List.map_cons, List.map_nil, List.mem_cons, List.not_mem_nil, or_false] at ht
  rcases ht with rfl | rfl
  · exact .inl rfl
  · exact .inr ⟨k.slot, rfl, rfl⟩

theorem retrieveResult_held {x : Crane} {store : Option StorePick} {b : RetrievePick}
    (h : g.routeHeld (aisleOf x) store b.legs) : ResultHeld g x (State.retrieveResult store b) := by
  refine ⟨fun a e => ?_, fun t ht => ?_⟩
  · obtain ⟨k, rfl, -⟩ := Option.map_eq_some_iff.1 e
    exact nofun
  · obtain ⟨l, hl, rfl⟩ := List.mem_map.1 ht
    rcases h l hl with k | ⟨k, rfl, e⟩
    · exact .inl k
    · exact .inr ⟨k.slot, rfl, e⟩

theorem decision_held (h : RackLaw rail g s) {p : Pass} {r : PassResult} (hp : s.engine.pass = some p)
    (e : s.decision p = some r) : ResultHeld g p.crane r := by
  have held {store cursor b} (hst : p.stage = .retrieve store cursor (some b)) :
      ResultHeld g p.crane (State.retrieveResult store b) :=
    retrieveResult_held (h.pass p hp store cursor b hst)
  unfold State.decision at e
  split at e
  · cases e
    exact storeResult_held
  · split at e <;> cases e
    · exact held (by assumption)
    · exact storeResult_held
  · cases e
    exact storeResult_held
  · cases e
    exact held (by assumption)
  · cases e

/-- The store slot of a result that passes the re-check is a candidate of its job, the head of the crane's station (R117). -/
theorem storeValid_candidate {x : Crane} {r : PassResult} (hv : s.storeValid x r = true) {tag : Word32} {a : Slot}
    (ht : r.storeTag = some tag) (ha : r.storeSlot = some a) :
    ∃ j ∈ s.pool.jobs, j.tag = tag ∧ j.station? = some (stationOf x) ∧ a ∈ j.candidates := by
  simp only [State.storeValid, ht, ha] at hv
  split at hv
  · rename_i j hj
    obtain ⟨hm, hst⟩ := List.mem_filter.1 (List.mem_of_head? hj)
    simp only [Bool.and_eq_true, beq_iff_eq, decide_eq_true_eq] at hv
    exact ⟨j, hm, hv.1.1.1.1, eq_of_beq hst, hv.1.2⟩
  · cases hv

theorem aisle_of_station {j : Job} {st : Station} (h : j.station? = some st) : j.aisle = st.aisle := by
  obtain ⟨_, _, _, _, _, _, _, _ | _⟩ := j <;> cases h
  rfl

theorem result_places (h : RackLaw rail g s) {x : Crane} {r : PassResult} (hr : ResultHeld g x r)
    (hv : s.storeValid x r = true) : ∀ t ∈ r.places, g.routePlace (aisleOf x) t := by
  intro t ht
  rcases hr.2 t ht with k | ⟨a, ha, rfl⟩
  · exact k
  · obtain ⟨tag, htag⟩ := Option.ne_none_iff_exists'.1 (hr.1 a ha)
    obtain ⟨j, hj, -, hst, hc⟩ := storeValid_candidate hv htag ha
    have held := (h.jobs j hj).1 a (.inl hc)
    rwa [aisle_of_station hst] at held

/-- The places of a route lie on the rail. -/
theorem routePlace_le {x : Crane} {t : Place} (h : g.routePlace (aisleOf x) t) : (g.resolve t).bay ≤ g.railEnd x := by
  cases t with
  | slot c =>
    obtain ⟨hg, ha⟩ := h
    simp only [State.inGeometry, Bool.and_eq_true, decide_eq_true_eq] at hg
    show c.bay ≤ _
    rw [State.railEnd, ← ha]
    omega
  | station st =>
    have : st.aisle = aisleOf x := h
    show stationBay _ _ ≤ _
    rw [State.railEnd, ← this]
    exact stationBay_le _ _
  | rail => exact h.elim

/-- The dispatch conversions name a spare for another use (R49). -/
theorem convert_held (h : RackLaw rail g s) {r : PassResult} (hv : s.retrieveValid r = true) :
    RackLaw rail g (s.setTable (State.convertRetrieve (State.convertStore s.table r) r)) := by
  have stored : SparesFrom s.table (State.convertStore s.table r) := by
    unfold State.convertStore
    split
    · exact .addEntry _ _ rfl
    · exact .refl _
  unfold State.convertRetrieve
  split
  · rename_i tag q ht hq
    have spare : g.inGeometry q.spare = true := by
      simp only [State.retrieveValid, ht, hq] at hv
      split at hv
      · cases hv
      · simp only [State.spareUsable, Bool.and_eq_true, beq_iff_eq] at hv
        obtain ⟨e, he, hu, hs⟩ := mem_of_useAt hv.1.1.2.2.1.1.1
        exact hs ▸ h.spares e he (by rw [hu]; rfl)
    refine h.setTable fun e he k => ?_
    obtain ⟨d, hd, rfl⟩ := List.mem_map.1 he
    split at k
    · rename_i hs
      rw [if_pos hs]
      exact hs ▸ spare
    · rename_i hs
      rw [if_neg hs]
      obtain ⟨c, hc, hk, hcs⟩ := (stored.trans (.addEntry _ q.front rfl)) d hd k
      exact hcs ▸ h.spares c hc hk
  · exact h.setTable_from stored

theorem within_chosen (j : Job) {a : Slot} (ha : a ∈ j.candidates) : (j.setChosen (some a)).Within j := by
  obtain ⟨_, _, _, _, _, _, _, _ | _⟩ := j
  · exact ⟨rfl, rfl, List.Subset.refl _, fun c e => .inl (by cases e; exact ha), rfl, id⟩
  · exact .refl _

theorem orderJobs (h : RackLaw rail g s) {r : PassResult}
    (hc : ∀ tag a, r.storeTag = some tag → r.storeSlot = some a → ∃ j ∈ s.pool.jobs, j.tag = tag ∧ a ∈ j.candidates) :
    RackLaw rail g (s.orderJobs r) := by
  have retrieved {t : State} (k : RackLaw rail g t) {tag : Word32} :
      RackLaw rail g (t.modJobOf tag fun j => { j with state := .ordered }) :=
    k.modJobOf fun _ => .state _ _
  have stored {tag : Word32} (ht : r.storeTag = some tag) : RackLaw rail g (s.modJobOf tag fun j =>
      (({ j with state := .ordered }).setChosen r.storeSlot).setStalled false) := by
    cases ha : r.storeSlot with
    | none => exact h.modJobOf fun j => (Job.Within.stalled _ _).trans ((Job.Within.unchosen _).trans (.state _ _))
    | some a =>
      refine h.modJobOf_held (fun j => ?_) fun j hj e => ?_
      · obtain ⟨_, _, _, _, _, _, _, _ | _⟩ := j <;> rfl
      · obtain ⟨i, hi, hit, hc⟩ := hc tag a ht ha
        have same : i = j := List.inj_on_of_nodup_map h.tags hi hj (hit.trans e.symm)
        subst same
        exact ((Job.Within.stalled _ _).trans ((within_chosen { i with state := .ordered } hc).trans (.state _ _))).held
          (h.jobs i hi)
  unfold State.orderJobs
  dsimp only
  split <;> split
  · exact retrieved (stored (by assumption))
  · exact retrieved h
  · exact stored (by assumption)
  · exact h

theorem legs_held {x : Crane} {r : PassResult} (h : ∀ t ∈ r.places, g.routePlace (aisleOf x) t) :
    g.legsHeld (aisleOf x) r.legs := by
  intro l hl c hc
  have k := h l.target (List.mem_map_of_mem hl)
  rwa [hc] at k

theorem dispatchSent (h : RackLaw rail g s) {x : Crane} {r : PassResult} (hr : ∀ t ∈ r.places, g.routePlace (aisleOf x) t) :
    RackLaw rail g (s.dispatchSent x r) :=
  sendOrder (claimSpan (h.placeOrder (legs_held hr)) (fun k => h.position_le k) fun _ t ht => routePlace_le (hr t ht))

/-- A yield target lies on the rail (R61). -/
theorem yieldTarget_le (h : RackLaw rail g s) {x : Crane} {lo hi q t : Nat} (hq : q ≤ g.railEnd x)
    (e : s.yieldTarget x lo hi q = some t) : t ≤ g.railEnd x := by
  simp only [State.yieldTarget, h.geometryOf] at e
  split at e <;> split at e <;> cases e
  · rename_i k
    exact k.2.trans hq
  · rename_i k
    exact k.2

theorem railEnd_sibling (x : Crane) : g.railEnd (sibling x) = g.railEnd x := by
  unfold State.railEnd
  rw [aisleOf_sibling]

theorem spanAnswer_le (h : RackLaw rail g s) (k : rail) {x : Crane} {p : Option Position} {ps : List Place} {t : Nat}
    (e : s.spanAnswer x p ps = .yieldEligible t) : t ≤ g.railEnd x := by
  unfold State.spanAnswer at e
  split at e
  · cases e
  · dsimp only at e
    split at e
    · cases e
    · split at e
      · rename_i q _ hq
        split at e <;> cases e
        rename_i ht
        exact h.yieldTarget_le (railEnd_sibling x ▸ h.position_le k q hq) ht
      · cases e

theorem sendYield (h : RackLaw rail g s) {p : Pass} {x y : Crane} {t : Nat} (ht : rail → t ≤ g.railEnd y) :
    RackLaw rail g (s.sendYield p x y t) := by
  unfold State.sendYield
  split
  · exact h
  · rename_i q hq
    refine sendOrder (setPair (claimSpan (h.placeOrder fun l hl c hc => ?_) (fun k q' e => ?_) fun k u hu => ?_))
    · rw [List.mem_singleton.1 hl] at hc
      cases hc
    · cases e
      exact h.position_le k q hq
    · rw [List.mem_singleton.1 hu]
      exact ht k

theorem dispatchWaiting (h : RackLaw rail g s) {p : Pass} {x : Crane} {t : Nat} {r : PassResult}
    (hr : ∀ t ∈ r.places, g.routePlace (aisleOf x) t) (ht : rail → t ≤ g.railEnd x) :
    RackLaw rail g (s.dispatchWaiting p x t r) :=
  sendYield (setCraneState (claimSpan (h.placeOrder (legs_held hr)) (fun k => h.position_le k) fun _ t ht =>
    routePlace_le (hr t ht))) fun k => railEnd_sibling x ▸ ht k

theorem dispatch (h : RackLaw rail g s) {p : Pass} {r : PassResult} {a : SpanAnswer} (hr : ResultHeld g p.crane r)
    (hs : s.storeValid p.crane r = true) (hv : s.retrieveValid r = true)
    (ht : ∀ t, a = .yieldEligible t → rail → t ≤ g.railEnd p.crane) : RackLaw rail g (s.dispatch p r a) := by
  have places := h.result_places hr hs
  have ordered : RackLaw rail g ((s.setTable (State.convertRetrieve (State.convertStore s.table r) r)).orderJobs r) :=
    (h.convert_held hv).orderJobs fun tag a htag ha => by
      obtain ⟨j, hj, ht, -, hc⟩ := storeValid_candidate hs htag ha
      exact ⟨j, hj, ht, hc⟩
  unfold State.dispatch
  refine engineRun (noPass ?_)
  split
  · exact ordered.dispatchWaiting places (ht _ rfl)
  · exact ordered.dispatchSent places

/-! ### The ends of a pass -/

theorem endStarved (h : RackLaw rail g s) {p : Pass} : RackLaw rail g (s.endStarved p) :=
  have starved := modCrane (noPass h)
  engineRun (ite starved.trigger starved)

theorem putAside (h : RackLaw rail g s) {p : Pass} : RackLaw rail g (s.putAside p) :=
  engineRun ⟨h.geometry, h.tags, h.jobs, h.spares, h.orders, fun q e => absurd e (Option.some_ne_none q).symm, h.rail⟩

theorem rerun (h : RackLaw rail g s) {p : Pass} : RackLaw rail g (s.rerun p) := ite h.startPass h.endStarved

/-- What a result that is not INELIGIBLE has passed (R117). -/
theorem recheck_passed {p : Pass} {r : PassResult} (h : s.recheck p r ≠ .ineligible) :
    s.storeValid p.crane r = true ∧ s.retrieveValid r = true
      ∧ s.recheck p r = s.spanAnswer p.crane (s.crane p.crane).position r.places := by
  unfold State.recheck at *
  split at h
  · rename_i k
    rw [if_pos k]
    simp only [Bool.and_eq_true] at k
    exact ⟨k.1.2, k.2, rfl⟩
  · exact absurd rfl h

theorem completePass (h : RackLaw rail g s) {p : Pass} (hp : s.engine.pass = some p) : RackLaw rail g (s.completePass p) := by
  unfold State.completePass
  split
  · exact h.endStarved
  · rename_i r hr
    refine ite h.putAside ?_
    split
    · exact h.rerun
    · rename_i hne
      obtain ⟨hs, hv, ha⟩ := recheck_passed hne
      exact h.dispatch (h.decision_held hp hr) hs hv fun t e k => h.spanAnswer_le k (ha ▸ e)

theorem passCompletes (h : RackLaw rail g s) : RackLaw rail g s.passCompletes := by
  have items := h.passItems s.itemBound
  unfold State.passCompletes
  dsimp only
  split
  · rename_i hp
    exact items.completePass hp
  · exact items

end RackLaw
end Sys2Proof.Machine

namespace Sys2Proof.Machine
namespace State

/-! ### What the creation of an order and the engine change -/

@[simp] theorem crane_placeOrder (s : State) (x y : Crane) (o : Order) :
    (s.placeOrder x o).crane y = if x = y then { s.crane x with order := some o, starved := false } else s.crane y :=
  s.crane_modCrane x y fun c => { c with order := some o, starved := false }

@[simp] theorem crane_claimSpan (s : State) (x y : Crane) (p : Option Position) (ps : List Place) :
    (s.claimSpan x p ps).crane y = s.crane y := by
  cases p <;> rfl

@[simp] theorem engine_claimSpan (s : State) (x : Crane) (p : Option Position) (ps : List Place) :
    (s.claimSpan x p ps).engine = s.engine := by
  cases p <;> rfl

theorem spanOf_claimSpan_other (s : State) {x y : Crane} (p : Option Position) (ps : List Place) (h : x ≠ y) :
    (s.claimSpan x p ps).spanOf y = s.spanOf y := by
  cases p
  · rfl
  · rw [claimSpan, spanOf_setSpan, if_neg h]

theorem crane_sendOrder_other (s : State) {x y : Crane} (h : x ≠ y) : (s.sendOrder x).crane y = s.crane y := by
  unfold sendOrder
  split
  · rfl
  · simp [modOrder, setCraneState, crane_modCrane, h]

@[simp] theorem engine_sendOrder (s : State) (x : Crane) : (s.sendOrder x).engine = s.engine := by
  unfold sendOrder
  split <;> rfl

@[simp] theorem spanOf_sendOrder (s : State) (x y : Crane) : (s.sendOrder x).spanOf y = s.spanOf y := by
  unfold sendOrder
  split <;> rfl

theorem state_sendOrder (s : State) {x : Crane} {o : Order} (h : (s.crane x).order = some o) :
    ((s.sendOrder x).crane x).state = stateOfKind o.kind .sent := by
  unfold sendOrder
  rw [h]
  simp [modOrder, setCraneState]

theorem crane_createHome_other (s : State) {x y : Crane} (h : x ≠ y) : (s.createHome x).crane y = s.crane y := by
  unfold createHome
  rw [crane_sendOrder_other _ h]
  simp [crane_modCrane, h]

theorem state_createHome (s : State) (x : Crane) : ((s.createHome x).crane x).state = .homing := by
  unfold createHome
  rw [state_sendOrder (o := Order.new s.nextId .home .sent _) _ (by simp; rfl)]
  rfl

theorem spanOf_createHome_other (s : State) {x y : Crane} (h : x ≠ y) : (s.createHome x).spanOf y = s.spanOf y := by
  unfold createHome
  rw [spanOf_sendOrder, spanOf_claimSpan_other _ _ _ h]
  rfl

@[simp] theorem engine_createHome (s : State) (x : Crane) : (s.createHome x).engine = s.engine := by
  unfold createHome
  simp
  rfl

@[simp] theorem crane_dequeue (s : State) (x y : Crane) : (s.dequeue x).crane y = s.crane y := rfl
@[simp] theorem spanOf_dequeue (s : State) (x y : Crane) : (s.dequeue x).spanOf y = s.spanOf y := rfl
@[simp] theorem pass_dequeue (s : State) (x : Crane) : (s.dequeue x).engine.pass = s.engine.pass := rfl

theorem mem_dequeue {s : State} {x : Crane} {e : QueueEntry} (h : e ∈ (s.dequeue x).engine.queue) :
    e ∈ s.engine.queue ∧ e.crane ≠ x := by
  simpa [dequeue, setEngine] using h

@[simp] theorem crane_startPass (s : State) (x y : Crane) (n : Nat) (note : Bool) :
    (s.startPass x n note).crane y = s.crane y := rfl
@[simp] theorem spanOf_startPass (s : State) (x y : Crane) (n : Nat) (note : Bool) :
    (s.startPass x n note).spanOf y = s.spanOf y := rfl

/-- The engine leaves a crane alone that does not stand in its queue. -/
theorem crane_engineTake (n : Nat) {s : State} {x : Crane} (h : ∀ e ∈ s.engine.queue, e.crane ≠ x) :
    (engineTake n s).crane x = s.crane x := by
  induction n generalizing s with
  | zero => rfl
  | succ n ih =>
    unfold engineTake
    split
    · rename_i e _ he
      have other := h e (List.mem_of_find?_eq_some he)
      split
      · rw [ih, crane_createHome_other _ other, crane_dequeue]
        intro d hd
        rw [engine_createHome] at hd
        exact h d (mem_dequeue hd).1
      · rfl
    · rfl

theorem crane_trigger_other {s : State} {x y : Crane} (hy : y ≠ x) (h : ∀ e ∈ s.engine.queue, e.crane ≠ x) :
    (s.trigger y).crane x = s.crane x := by
  unfold trigger
  split
  · split
    · exact s.crane_createHome_other hy
    · unfold enqueue engineRun
      rw [crane_engineTake]
      · simp [setCraneState, crane_modCrane, hy]
      · intro e he
        rcases List.mem_append.1 he with he | he
        · exact h e he
        · exact List.mem_singleton.1 he ▸ hy
  · unfold noteTrigger
    split
    · split <;> rfl
    · rfl
  · rfl

end State

/-! ### Cranes that are OFFLINE -/

/-- A crane that is OFFLINE holds no order, is not with the engine and has no place on the rail (R124, R127). -/
structure OfflineLaw (rail : Prop) (s : State) : Prop where
  order : ∀ x, (s.crane x).state = .offline → (s.crane x).order = none
  queue : ∀ e ∈ s.engine.queue, (s.crane e.crane).state ≠ .offline
  pass : ∀ p, s.engine.pass = some p → (s.crane p.crane).state ≠ .offline
  rail : rail → ∀ x, (s.crane x).state = .offline → (s.crane x).position = none ∧ s.spanOf x = .absent

namespace OfflineLaw

variable {rail : Prop} {s t : State}

theorem of_same (h : OfflineLaw rail s) (hc : t.orders.cranes = s.orders.cranes) (hs : t.spans.span = s.spans.span)
    (he : t.engine = s.engine) : OfflineLaw rail t := by
  obtain ⟨order, queue, pass, rail⟩ := h
  constructor <;> simpa only [State.crane, State.spanOf, hc, hs, he]

/-- One crane changed to another state than OFFLINE. -/
theorem of_changed (h : OfflineLaw rail s) {x : Crane} (hx : (t.crane x).state ≠ .offline)
    (hc : ∀ y, x ≠ y → t.crane y = s.crane y) (hs : ∀ y, x ≠ y → t.spanOf y = s.spanOf y)
    (hq : ∀ e ∈ t.engine.queue, e ∈ s.engine.queue ∨ e.crane = x)
    (hp : ∀ p, t.engine.pass = some p → p.crane = x ∨ s.engine.pass = some p) : OfflineLaw rail t where
  order := fun y e => by
    by_cases k : x = y
    · exact absurd (k ▸ e) hx
    · rw [hc y k] at *
      exact h.order y e
  queue := fun e he => by
    by_cases k : x = e.crane
    · exact k ▸ hx
    · rw [hc _ k]
      exact (hq e he).elim (h.queue e) fun j => absurd j.symm k
  pass := fun p e => by
    by_cases k : x = p.crane
    · exact k ▸ hx
    · rw [hc _ k]
      exact (hp p e).elim (fun j => absurd j.symm k) (h.pass p)
  rail := fun r y e => by
    by_cases k : x = y
    · exact absurd (k ▸ e) hx
    · rw [hc y k] at *
      rw [hs y k]
      exact h.rail r y e

theorem createHome (h : OfflineLaw rail s) {x : Crane} : OfflineLaw rail (s.createHome x) :=
  h.of_changed (x := x) (by rw [State.state_createHome]; decide) (fun _ => s.crane_createHome_other)
    (fun _ => s.spanOf_createHome_other) (fun e k => .inl (by rwa [State.engine_createHome] at k))
    fun p k => .inr (by rwa [State.engine_createHome] at k)

theorem dequeue (h : OfflineLaw rail s) {x : Crane} : OfflineLaw rail (s.dequeue x) :=
  ⟨h.order, fun e he => h.queue e (State.mem_dequeue he).1, h.pass, h.rail⟩

theorem startPass (h : OfflineLaw rail s) {x : Crane} {n : Nat} {note : Bool} (hx : (s.crane x).state ≠ .offline) :
    OfflineLaw rail (s.startPass x n note) :=
  ⟨h.order, h.queue, fun p e => by cases e; exact hx, h.rail⟩

theorem engineTake (n : Nat) {s : State} (h : OfflineLaw rail s) : OfflineLaw rail (State.engineTake n s) := by
  induction n generalizing s with
  | zero => exact h
  | succ n ih =>
    unfold State.engineTake
    split
    · rename_i e _ he
      split
      · exact ih h.dequeue.createHome
      · exact h.dequeue.startPass (h.queue e (List.mem_of_find?_eq_some he))
    · exact h

theorem enqueue (h : OfflineLaw rail s) {x : Crane} : OfflineLaw rail (s.enqueue x) := by
  refine engineTake _ (h.of_changed (x := x) ?_ (fun y k => ?_) (fun _ _ => rfl) (fun e k => ?_) fun _ => .inr)
  · simp [State.setCraneState]
  · simp [State.setCraneState, State.crane_modCrane, k]
  · exact (List.mem_append.1 k).imp id fun k => by rw [List.mem_singleton.1 k]

theorem noteTrigger (h : OfflineLaw rail s) {x : Crane} : OfflineLaw rail (s.noteTrigger x) := by
  unfold State.noteTrigger
  split
  · rename_i p e
    split
    · exact ⟨h.order, h.queue, fun q k => by cases k; exact h.pass p e, h.rail⟩
    · exact h
  · exact h

theorem trigger (h : OfflineLaw rail s) {x : Crane} : OfflineLaw rail (s.trigger x) := by
  unfold State.trigger
  split
  · split
    · exact h.createHome
    · exact h.enqueue
  · exact h.noteTrigger
  · exact h

theorem triggerAll (h : OfflineLaw rail s) (xs : List Crane) : OfflineLaw rail (s.triggerAll xs) := by
  unfold State.triggerAll
  induction xs generalizing s with
  | nil => exact h
  | cons x xs ih => exact ih h.trigger

theorem setSup (h : OfflineLaw rail s) {u : Supervision} : OfflineLaw rail { s with sup := u } := h.of_same rfl rfl rfl

theorem raise (h : OfflineLaw rail s) {e : Event} : OfflineLaw rail (s.raise e) := h.of_same rfl rfl rfl

theorem afterRelease (h : OfflineLaw rail s) {xs : List Crane} : OfflineLaw rail (s.afterRelease xs) :=
  triggerAll (engineTake _ h) xs

theorem ite {c : Prop} [Decidable c] (hs : OfflineLaw rail s) (ht : OfflineLaw rail t) :
    OfflineLaw rail (if c then s else t) := by
  split
  · exact hs
  · exact ht

theorem autoRelease (h : OfflineLaw rail s) : OfflineLaw rail s.autoRelease := ite (afterRelease (raise h.setSup)) h

/-- Hearing the host leaves an OFFLINE crane as it is (R170, R173). -/
theorem hearHost (h : OfflineLaw rail s) : OfflineLaw rail s.hearHost := autoRelease h.setSup

end OfflineLaw

/-! ### SET AISLE GEOMETRY (R6) -/

namespace State

theorem enrolled_iff (s : State) (x : Crane) : s.enrolled x = true ↔ (s.crane x).state ≠ .offline := by
  simp [enrolled]

theorem aisleJobs_pos_iff (s : State) (a : Aisle) : 0 < s.aisleJobs a ↔ ∃ j ∈ s.pool.jobs, j.aisle = a := by
  simp [aisleJobs, List.countP_pos_iff]

theorem spareList_isEmpty_iff (t : List Entry) (a : Aisle) :
    (Table.spareList t a).isEmpty = false ↔ ∃ e ∈ t, e.use.isSpare = true ∧ e.slot.aisle = a := by
  simp [Table.spareList, spareEntries]

/-- Check 5 of R6. -/
theorem aisleInUse_iff (s : State) (a : Aisle) :
    s.aisleInUse a = true ↔ (∃ j ∈ s.pool.jobs, j.aisle = a) ∨ (∃ e ∈ s.table, e.use.isSpare = true ∧ e.slot.aisle = a)
      ∨ (s.crane (craneAt a .near)).state ≠ .offline ∨ (s.crane (craneAt a .far)).state ≠ .offline := by
  simp only [aisleInUse, Bool.or_eq_true, decide_eq_true_eq, Bool.not_eq_true', aisleJobs_pos_iff, spareList_isEmpty_iff,
    enrolled_iff, or_assoc]

theorem geometryOf_setGeometryOf (s : State) (a b : Aisle) (r : Geometry) :
    (s.setGeometryOf a r).geometryOf b = if a = b then r else s.geometryOf b := upd_get _ _ _ _

end State

theorem craneAt_aisle_end (x : Crane) : craneAt (aisleOf x) (endOf x) = x := by
  revert x; decide

/-- An aisle that is not in use has no live job, no spare and no enrolled crane (R6 check 5). -/
theorem aisle_free {s : State} {a : Aisle} (h : ¬s.aisleInUse a = true) :
    (∀ j ∈ s.pool.jobs, j.aisle ≠ a) ∧ (∀ e ∈ s.table, e.use.isSpare = true → e.slot.aisle ≠ a)
      ∧ ∀ x, aisleOf x = a → (s.crane x).state = .offline := by
  rw [State.aisleInUse_iff] at h
  push Not at h
  obtain ⟨hj, hs, hn, hf⟩ := h
  refine ⟨hj, hs, ?_⟩
  rintro x rfl
  rw [← craneAt_aisle_end x]
  cases e : endOf x <;> simpa [e, craneAt_aisle_end] using ‹_›

namespace RackLaw

variable {rail : Prop} {g s : State}

/-! ### Another geometry of an aisle that is not in use -/

theorem slotHeld_setGeometryOf {a b : Aisle} {r : Geometry} {c : Slot} (hb : b ≠ a) (h : s.slotHeld b c) :
    (s.setGeometryOf a r).slotHeld b c := by
  obtain ⟨hc, rfl⟩ := h
  refine ⟨?_, rfl⟩
  unfold State.inGeometry at *
  rwa [State.geometryOf_setGeometryOf, if_neg hb.symm]

theorem routePlace_setGeometryOf {a b : Aisle} {r : Geometry} {t : Place} (hb : b ≠ a) (h : s.routePlace b t) :
    (s.setGeometryOf a r).routePlace b t := by
  cases t
  · exact slotHeld_setGeometryOf hb h
  · exact h
  · exact h

theorem railEnd_setGeometryOf {a : Aisle} {r : Geometry} {x : Crane} (hx : aisleOf x ≠ a) :
    (s.setGeometryOf a r).railEnd x = s.railEnd x := by
  unfold State.railEnd
  rw [State.geometryOf_setGeometryOf, if_neg hx.symm]

theorem setGeometryOf (h : RackLaw rail s s) (ho : OfflineLaw rail s) {a : Aisle} {r : Geometry}
    (hu : ¬s.aisleInUse a = true) : RackLaw rail (s.setGeometryOf a r) (s.setGeometryOf a r) := by
  obtain ⟨nojob, nospare, offline⟩ := aisle_free hu
  refine ⟨rfl, h.tags, fun j hj => ⟨fun c hc => ?_, fun c hc hb => ?_⟩, fun e he hk => ?_, fun x o e l hl c hc => ?_,
    fun p e store cursor b hst l hl => ?_, fun k x => ?_⟩
  · exact slotHeld_setGeometryOf (nojob j hj) ((h.jobs j hj).1 c hc)
  · have aisle := ((h.jobs j hj).1 c (.inr (.inr hc))).2
    rw [State.geometryOf_setGeometryOf, aisle, if_neg (nojob j hj).symm, ← aisle]
    exact (h.jobs j hj).2 c hc hb
  · exact (slotHeld_setGeometryOf (nospare e he hk) ⟨h.spares e he hk, rfl⟩).1
  · by_cases hx : aisleOf x = a
    · have none := ho.order x (offline x hx)
      exact absurd (none.symm.trans e) (Option.some_ne_none o).symm
    · exact slotHeld_setGeometryOf hx (h.orders x o e l hl c hc)
  · have hx : aisleOf p.crane ≠ a := fun hx => ho.pass p e (offline _ hx)
    exact (h.pass p e store cursor b hst l hl).imp (routePlace_setGeometryOf hx) id
  · by_cases hx : aisleOf x = a
    · obtain ⟨hp, hs⟩ := ho.rail k x (offline x hx)
      show OnRail _ (s.crane x).position (s.spanOf x)
      rw [hp, hs]
      exact .unplaced (by nofun)
    · rw [railEnd_setGeometryOf hx]
      exact h.rail k x

/-- The law of a state by its own geometries. -/
theorem self {t : State} (h : RackLaw rail g t) : RackLaw rail t t := by
  have same : t.geometryOf = g.geometryOf := funext h.geometryOf
  obtain ⟨-, tags, jobs, spares, orders, pass, onRail⟩ := h
  constructor
  · rfl
  · exact tags
  all_goals
    simpa only [State.jobHeld, State.legsHeld, State.passHeld, State.routeHeld, State.routePlace, State.slotHeld,
      State.inGeometry, State.railEnd, same]

theorem replaceGeometry (h : RackLaw rail s s) (ho : OfflineLaw rail s) {a : Aisle} {r : Geometry} :
    RackLaw rail (s.replaceGeometry a r).1 (s.replaceGeometry a r).1 := by
  unfold State.replaceGeometry
  split
  · exact h
  · rename_i k
    exact h.setGeometryOf ho k

theorem setGeometry (h : RackLaw rail s s) (ho : OfflineLaw rail s) {r : GeometryRequest} :
    RackLaw rail (s.setGeometry r).1 (s.setGeometry r).1 := by
  unfold State.setGeometry
  repeat' split
  all_goals first | exact h.replaceGeometry ho | exact h

/-! ### Every command and every step -/

/-- A request whose owner leaves the law with some geometry. -/
theorem takeRequest_some (h : RackLaw rail s s) {kind : Byte} {body : List Byte} {owner : State → List Byte → Answer}
    (ho : ∀ fields, ∃ g, RackLaw rail g (owner s.hearHost fields).1) :
    ∃ g, RackLaw rail g (s.takeRequest kind body owner) := by
  unfold State.takeRequest
  split
  · exact ⟨_, h.dropFrame⟩
  · split
    · rename_i fields
      obtain ⟨g, k⟩ := ho fields
      exact ⟨g, k.pushReply⟩
    · exact ⟨_, h.hearHost.pushReply⟩

/-- SET AISLE GEOMETRY leaves the law with the geometry it writes. -/
theorem takeGeometry (h : RackLaw rail s s) (ho : OfflineLaw rail s) {kind : Byte} {body : List Byte} :
    ∃ g, RackLaw rail g (s.takeRequest kind body (State.reading readSetGeometry State.setGeometry)) :=
  h.takeRequest_some fun fields => by
    unfold State.reading
    split
    · exact ⟨_, h.hearHost.self.setGeometry ho.hearHost⟩
    · exact ⟨_, h.hearHost⟩

theorem resetAll (s : State) : RackLaw rail s.resetAll s.resetAll := powerOn rfl rfl rfl rfl rfl

theorem powerUp (s : State) (strap : LineRate) : RackLaw rail (s.powerUp strap) (s.powerUp strap) :=
  powerOn rfl rfl rfl rfl rfl

/-- RESET leaves the law, with scope ALL for a part that holds nothing. -/
theorem takeReset (h : RackLaw rail s s) {kind : Byte} {body : List Byte} :
    ∃ g, RackLaw rail g (s.takeRequest kind body (State.reading readByte State.resetRequest)) :=
  h.takeRequest_some fun fields => by
    unfold State.reading
    split
    · unfold State.resetRequest State.ranged
      split
      · rename_i scope _
        cases scope
        · exact ⟨_, resetAll _⟩
        · exact ⟨_, h.hearHost.resetJobs⟩
      · exact ⟨_, h.hearHost⟩
    · exact ⟨_, h.hearHost⟩

/-- Every command keeps the law. -/
theorem exec (h : RackLaw rail s s) (ho : OfflineLaw rail s) {c : Instr} {t : State} (e : exec c s = .next t) :
    RackLaw rail t t := by
  suffices k : ∃ g, RackLaw rail g t by
    obtain ⟨g, k⟩ := k
    exact k.self
  cases c <;> have e := Host.Outcome.next.inj e <;> subst e
  case powerOn strap => exact ⟨_, powerUp s strap⟩
  case setAisleGeometry => exact h.takeGeometry ho
  case reset => exact h.takeReset
  all_goals refine ⟨s, ?_⟩
  case admitStore => exact h.takeRequest fun _ _ k => k.reading fun _ _ => k.admitStore
  case admitRetrieve => exact h.takeRequest fun _ _ k => k.reading fun _ _ => k.admitRetrieve
  case amendStore => exact h.takeRequest fun _ _ k => k.reading fun _ _ => k.amendStore
  case cancelJob => exact h.takeRequest fun _ _ k => k.reading fun _ _ => k.cancelJob
  case queryJob => exact h.takeRequest fun _ _ k => k.reading fun _ _ => k.queryJob
  case enrolCrane => exact h.takeRequest fun _ _ k => k.reading fun _ _ => k.enrol
  case withdrawCrane => exact h.takeRequest fun _ _ k => k.reading fun _ _ => k.withdraw
  case homeCrane => exact h.takeRequest fun _ _ k => k.reading fun _ _ => k.homeCrane
  case abandonOrder => exact h.takeRequest fun _ _ k => k.reading fun _ _ => k.abandonOrder
  case queryCrane => exact h.takeRequest fun _ _ k => k.reading fun _ _ => k.queryCrane
  case setTrim => exact h.takeRequest fun _ _ k => k.reading fun _ _ => k.setTrim
  case setAislePolicy => exact h.takeRequest fun _ _ k => k.reading fun _ _ => k.setPolicy
  case loadWeights => exact h.takeRequest fun _ _ k => k.reading fun _ _ => k.loadWeights
  case queryAisle => exact h.takeRequest fun _ _ k => k.reading fun _ _ => k.queryAisle
  case setProfile => exact h.takeRequest fun _ _ k => k.reading fun _ _ => k.setProfile
  case setScoring => exact h.takeRequest fun _ _ k => k.reading fun _ _ => k.setScoring
  case addSpare => exact h.takeRequest fun _ _ k => k.reading fun _ _ => k.addSpare
  case removeSpare => exact h.takeRequest fun _ _ k => k.reading fun _ _ => k.removeSpare
  case laneOpen => exact h.takeRequest fun _ _ k => k.reading fun _ _ => k.laneOpen
  case laneClose => exact h.takeRequest fun _ _ k => k.reading fun _ _ => k.laneClose
  case skipSequence => exact h.takeRequest fun _ _ k => k.reading fun _ _ => k.skipSequence
  case queryLane => exact h.takeRequest fun _ _ k => k.reading fun _ _ => k.queryLane
  case setTiming => exact h.takeRequest fun _ _ k => k.reading fun _ _ => k.setTiming
  case hold => exact h.takeRequest fun _ _ k => k.reading fun _ _ => k.holdRequest
  case resume => exact h.takeRequest fun _ _ k => k.reading fun _ _ => k.resumeRequest
  case setNotices => exact h.takeRequest fun _ _ k => k.reading fun _ _ => k.setNoticeEntries
  case clearFlags => exact h.takeRequest fun _ _ k => k.reading fun _ _ => k.clearFlags
  case setWatch => exact h.takeRequest fun _ _ k => k.reading fun _ _ => k.setWatch
  case queryStatus => exact h.takeRequest fun _ _ k => k.queryStatus
  case unknownRequest => exact h.takeRequest fun _ _ k => k
  case managementFrameDropped => exact h.dropFrame
  case frameGapAbandon => exact h.dropFrame
  case craneFrameDropped => exact h.dropCraneFrame
  case unknownCraneRecord => exact h.hearCrane fun _ k => k.notTaken
  case accept => exact h.hearCrane fun _ k => k.takeAccept
  case decline => exact h.hearCrane fun _ k => k.takeDecline
  case legDone => exact h.hearCrane fun _ k => k.takeLegDone
  case orderDone => exact h.hearCrane fun _ k => k.takeOrderDone
  case revoked => exact h.hearCrane fun _ k => k.takeRevoked
  case fault => exact h.hearCrane fun _ k => k.takeFault
  case faultClear => exact h.hearCrane fun _ k => k.takeFaultClear
  case status => exact h.hearCrane fun _ k => k.takeStatus
  case passCompletion => exact h.passCompletes
  case paceIntervalExpiry => exact h.paceExpires
  case silenceLimitReached => exact h.serviceSilence
  case hostLimitReached => exact h.serviceHost
  case acceptTimerExpiry => exact h.serviceAccept
  case frameTransmitComplete => exact h.transmitted

theorem append (h : RackLaw rail g s) {cs : List Instr} : RackLaw rail g (s.append cs) := h.of_same rfl rfl rfl rfl rfl rfl

/-- The port and the lines changed. -/
theorem withLines (h : RackLaw rail g s) {p : Port} {l : Lines} : RackLaw rail g { s with port := p, lines := l } :=
  h.of_same rfl rfl rfl rfl rfl rfl

theorem receiveHost (h : RackLaw rail g s) {b : LineByte} {rest : List LineByte} : RackLaw rail g (s.receiveHost b rest) := by
  unfold State.receiveHost
  exact append h.withLines

theorem receiveCrane (h : RackLaw rail g s) {x : Crane} {b : LineByte} {rest : List LineByte} :
    RackLaw rail g (s.receiveCrane x b rest) := by
  unfold State.receiveCrane
  exact append h.withLines

theorem tick (h : RackLaw rail g s) : RackLaw rail g s.tick := by
  have ran : RackLaw rail g s.runClocks := h.setSup
  unfold State.tick State.waitLines
  exact append ran.withLines

/-- The part's own time keeps the law. -/
theorem idle (h : RackLaw rail g s) : RackLaw rail g s.idle := by
  unfold State.idle
  split
  · exact h.receiveHost
  · exact h.receiveCrane
  · rename_i p _ _ hp
    unfold State.workPass
    split
    · rename_i e
      exact h.passItem hp e
    · exact h.append
  · exact h.tick

/-- Every step keeps the law. -/
theorem step (h : RackLaw rail s s) (ho : OfflineLaw rail s) {t : State} (e : step s = .next t) : RackLaw rail t t := by
  unfold Machine.step at e
  split at e
  · rename_i rest _
    have taken : RackLaw rail { s with pending := rest } { s with pending := rest } :=
      (h.of_same rfl rfl rfl rfl rfl rfl : RackLaw rail s { s with pending := rest }).self
    exact taken.exec (ho.of_same rfl rfl rfl) e
  · cases e
    exact h.idle.self

/-! ### The laws of the slots and of the rail -/

theorem of_laws (hw : s.workInLaw) (hs : s.slotsInLaw)
    (hr : rail → ∀ x, OnRail (s.railEnd x) (s.crane x).position (s.spanOf x)) : RackLaw rail s s := by
  obtain ⟨⟨tags, -, -, -⟩, -, -, -, -, -, sources, -⟩ := hw
  obtain ⟨jobs, spares, orders, pass⟩ := hs
  exact ⟨rfl, tags, fun j hj => ⟨jobs j hj, fun a ha => (sources j hj a ha).2⟩, spares, orders,
    fun p e store cursor b => pass p store cursor b e, hr⟩

theorem slotsInLaw (h : RackLaw rail s s) : s.slotsInLaw :=
  ⟨fun j hj => (h.jobs j hj).1, h.spares, h.orders, fun p store cursor b e => h.pass p e store cursor b⟩

theorem spansOnRail (h : RackLaw rail s s) (r : rail) : s.spansOnRail := fun x lo hi e => ((h.rail r x).2 lo hi e).2

end RackLaw

theorem OfflineLaw.of_laws {rail : Prop} {s : State} (h : s.ordersInLaw)
    (hr : rail → ∀ x, (s.crane x).state = .offline → (s.crane x).position = none ∧ s.spanOf x = .absent) :
    OfflineLaw rail s := by
  obtain ⟨⟨queue, -, pass⟩, -, free, -, -⟩ := h
  refine ⟨fun x e => free x (by simp [e]), fun e he => ?_, fun p e => ?_, hr⟩
  · simp [(queue e he).1]
  · simp [pass p e]

/-- The law of the rail as the positions and spans of single cranes (R57, R58). -/
theorem onRail_of_laws {s : State} (hr : s.railInLaw) (hs : s.spansOnRail) (x : Crane) :
    OnRail (s.railEnd x) (s.crane x).position (s.spanOf x) := by
  obtain ⟨-, spans, onRail, -, known, -⟩ := hr
  refine ⟨fun q e => ⟨onRail x q e, (known x).1 (by simp [e])⟩, fun lo hi e => ?_⟩
  exact ⟨(spans x lo hi e).1.trans (hs x lo hi e), hs x lo hi e⟩

theorem offline_of_rail {s : State} (hr : s.railInLaw) (x : Crane) (e : (s.crane x).state = .offline) :
    (s.crane x).position = none ∧ s.spanOf x = .absent := by
  obtain ⟨-, -, -, absent, known, -⟩ := hr
  have span := (absent x).2 e
  refine ⟨?_, span⟩
  by_contra k
  obtain ⟨lo, hi, b⟩ := (known x).1 k
  rw [span] at b
  cases b

/-- Settles O10: the law of the rack holds of every state in the laws, and every step keeps it. -/
theorem slotsStayInGeometry : Obligations.SlotsStayInGeometry := by
  refine ⟨fun s t hw hs e => ?_, fun s t hw hs hr hsp e => ?_⟩
  · exact ((RackLaw.of_laws (rail := False) hw hs nofun).step (.of_laws hw.2.1 nofun) e).slotsInLaw
  · exact ((RackLaw.of_laws (rail := True) hw hs fun _ => onRail_of_laws hr hsp).step
      (.of_laws hw.2.1 fun _ => offline_of_rail hr) e).spansOnRail trivial

end Sys2Proof.Machine

namespace Sys2Proof.Machine

/-! ## Requests taken and answered (R177, R178) -/

/-- The reference of a request is its two bytes in their order (R189). -/
theorem word16Of_eq_append (hi lo : Byte) : word16Of hi lo = hi ++ lo := by
  refine BitVec.eq_of_toNat_eq ?_
  have h := hi.isLt
  have l := lo.isLt
  rw [BitVec.toNat_append, ← Nat.shiftLeft_add_eq_or_of_lt l, Nat.shiftLeft_eq, word16Of, number2, BitVec.toNat_ofNat]
  exact Nat.mod_eq_of_lt (by omega)

/-- While the reply stream has room, the owner answers at the state that has heard the host. -/
theorem takeRequest_taken {s : State} (hs : s.port.replies.length < 16) (kind r1 r0 : Byte) (fields : List Byte)
    (owner : State → List Byte → Answer) :
    s.takeRequest kind (r1 :: r0 :: fields) owner = State.replyTo (r1 ++ r0) kind (owner s.hearHost fields) := by
  unfold State.takeRequest
  rw [if_neg (by simpa [Config.replyStreamSize] using hs), ← word16Of_eq_append]

/-- A request whose body its owner reads. -/
theorem takeRequest_read {s h : State} {α : Type} {fields : List Byte} {read : List Byte → Option α} {r : α}
    (hs : s.port.replies.length < 16) (hh : h = s.hearHost) (hr : read fields = some r) (kind r1 r0 : Byte)
    (act : State → α → Answer) :
    s.takeRequest kind (r1 :: r0 :: fields) (State.reading read act) = State.replyTo (r1 ++ r0) kind (act h r) := by
  subst hh
  rw [takeRequest_taken hs, State.reading, hr]

theorem replyTo_refuse (h : State) (ref : Word16) (kind : Byte) (code : ReplyCode) :
    State.replyTo ref kind (h.refuse code) = h.pushReply { ref := ref, kind := kind, code := code, data := .empty } := rfl

theorem replyTo_ok (h : State) (ref : Word16) (kind : Byte) :
    State.replyTo ref kind h.ok = h.pushReply { ref := ref, kind := kind, code := .ok, data := .empty } := rfl

theorem replyTo_okWith (h : State) (ref : Word16) (kind : Byte) (d : ReplyData) :
    State.replyTo ref kind (h.okWith d) = h.pushReply { ref := ref, kind := kind, code := .ok, data := d } := rfl

theorem asFin_eq_some {n : Nat} {b : Byte} {a : Fin n} (h : b.toNat = a.val) : asFin n b = some a := by
  have : b.toNat < n := h ▸ a.isLt
  rw [asFin, dif_pos this]
  exact congrArg some (Fin.ext h)

theorem asFin_eq_none {n : Nat} {b : Byte} (h : n ≤ b.toNat) : asFin n b = none := by
  rw [asFin, dif_neg (by omega)]

/-! ## LOAD WEIGHTS (R13) -/

/-- Check 3 of R13: a pass reads an entry of the run. -/
theorem loadBusy_iff (s : State) (start count : Nat) :
    s.loadBusy start count = true ↔ ∃ p ∈ s.engine.pass, (s.policyOf (aisleOf p.crane)).weighting = true ∧
      ∃ i, start ≤ i ∧ i < start + count ∧ (s.policyOf (aisleOf p.crane)).weightingBase ≤ i
        ∧ i < rangeEnd (s.policyOf (aisleOf p.crane)) (s.geometryOf (aisleOf p.crane)) := by
  unfold State.loadBusy
  cases s.engine.pass with
  | none => simp
  | some p =>
    simp only [Option.mem_def, Option.some.injEq, exists_eq_left', Bool.and_eq_true, decide_eq_true_eq]
    refine and_congr_right fun _ => ⟨fun h => ⟨max (s.policyOf (aisleOf p.crane)).weightingBase start, ?_⟩, ?_⟩
    · omega
    · rintro ⟨i, h⟩
      omega

/-- Settles O28, by the reading of the written run (`weightAt_weightRun`) and of the pass in flight (`loadBusy_iff`). -/
theorem loadWeightsTaken : Obligations.LoadWeightsTaken := by
  intro r1 r0 fields start ws s h hs hh hw hr
  have taken : exec (.loadWeights (r1 :: r0 :: fields)) s
      = .next (State.replyTo (r1 ++ r0) 0x0E#8 (h.loadWeights (start, ws))) :=
    congrArg _ (takeRequest_read hs hh hr ..)
  rw [taken]
  unfold State.loadWeights
  refine ⟨fun past => ?_, fun fits busy hb => ⟨fun k => ?_, fun k => ?_⟩⟩
  · rw [if_pos (show Config.weightEntries < start + ws.length by unfold Config.weightEntries; omega)]
    rfl
  all_goals
    rw [if_neg (show ¬Config.weightEntries < start + ws.length by unfold Config.weightEntries; omega)]
    rw [hb, ← loadBusy_iff] at k
  · rw [if_pos k]
    rfl
  · rw [if_neg k]
    exact ⟨_, fun i => weightAt_weightRun ws _ start i ((Weights.wf_iff _).1 hw).1, rfl⟩

/-! ## SET AISLE GEOMETRY and SET AISLE POLICY (R6, R7, R9) -/

theorem craneFitOf_eq (b : Byte) :
    craneFitOf b = if 2 < b.toNat then none
      else some (if b.toNat = 0 then .nearOnly else if b.toNat = 1 then .farOnly else .both) := by
  unfold craneFitOf
  split
  case h_4 h0 h1 h2 =>
    have large : b.toNat ≠ 0 ∧ b.toNat ≠ 1 ∧ b.toNat ≠ 2 := ⟨h0, h1, h2⟩
    rw [if_pos (by omega)]
  all_goals
    rename_i e
    rw [e]
    rfl

/-- What check 3 of R6 refuses. -/
abbrev GeometryRequest.outOfRange (r : GeometryRequest) : Prop :=
  r.bays < 1 ∨ 120 < r.bays ∨ r.levels < 1 ∨ 40 < r.levels ∨ r.nearLevel < 1 ∨ r.levels < r.nearLevel ∨ r.farLevel < 1
    ∨ r.levels < r.farLevel ∨ r.gap < 1 ∨ 8 < r.gap ∨ 2 < r.fit.toNat

/-- The record that a request with configured yes writes. -/
def GeometryRequest.record (r : GeometryRequest) : Geometry :=
  { configured := true, bays := r.bays, levels := r.levels, doubleDeep := r.doubleDeep, nearLevel := r.nearLevel,
    farLevel := r.farLevel,
    fit := if r.fit.toNat = 0 then .nearOnly else if r.fit.toNat = 1 then .farOnly else .both, gap := r.gap }

theorem geometryInRange_iff (r : GeometryRequest) :
    State.geometryInRange r = true ∧ r.fit.toNat ≤ 2 ↔ ¬r.outOfRange := by
  simp only [State.geometryInRange, GeometryRequest.outOfRange, Bool.and_eq_true, decide_eq_true_eq]
  omega

theorem geometryFrom_none {r : GeometryRequest} (h : r.outOfRange) : State.geometryFrom r = none := by
  unfold State.geometryFrom
  rw [craneFitOf_eq]
  by_cases k : 2 < r.fit.toNat
  · rw [if_pos k]
  · rw [if_neg k]
    refine if_neg fun inRange => (geometryInRange_iff r).1 ⟨inRange, by omega⟩ h

theorem geometryFrom_some {r : GeometryRequest} (h : ¬r.outOfRange) : State.geometryFrom r = some r.record := by
  obtain ⟨inRange, hf⟩ := (geometryInRange_iff r).2 h
  unfold State.geometryFrom
  rw [craneFitOf_eq, if_neg (by omega)]
  exact if_pos inRange

/-- SET AISLE GEOMETRY for an aisle there is, its checks in their order (R6, R7). -/
theorem setGeometry_eq {h : State} {r : GeometryRequest} {a : Aisle} (ha : r.aisle.toNat = a.val) :
    h.setGeometry r =
      if r.configured = true ∧ r.outOfRange then h.refuse .range
      else if r.configured = true ∧ 2048 < rangeEnd (h.policyOf a) r.record then h.refuse .range
      else h.replaceGeometry a (if r.configured then r.record else .powerOn) := by
  unfold State.setGeometry
  rw [aisleOfByte, asFin_eq_some ha]
  dsimp only
  cases hc : r.configured with
  | false => simp
  | true =>
    by_cases k : r.outOfRange
    · rw [geometryFrom_none k, if_pos rfl, if_pos ⟨rfl, k⟩]
    · rw [geometryFrom_some k, if_pos rfl, if_neg fun e => k e.2]
      exact if_congr (by simp [Config.weightEntries]) rfl rfl

/-- What check 2 of R9 refuses, the aisle included. -/
abbrev PolicyRequest.outOfRange (r : PolicyRequest) : Prop :=
  7 < r.aisle.toNat ∨ 3 < r.profileMode.toNat ∨ 3 < r.weightingMode.toNat ∨ r.policy.windowBayLo < 1
    ∨ r.policy.windowBayHi < r.policy.windowBayLo ∨ 120 < r.policy.windowBayHi ∨ r.policy.windowLevelLo < 1
    ∨ r.policy.windowLevelHi < r.policy.windowLevelLo ∨ 40 < r.policy.windowLevelHi ∨ 2047 < r.policy.weightingBase
    ∨ r.policy.bayGroup < 1 ∨ 16 < r.policy.bayGroup ∨ r.policy.levelGroup < 1 ∨ 16 < r.policy.levelGroup

theorem policyInRange_iff (p : Policy) : State.policyInRange p = true ↔
    1 ≤ p.windowBayLo ∧ p.windowBayLo ≤ p.windowBayHi ∧ p.windowBayHi ≤ 120 ∧ 1 ≤ p.windowLevelLo
      ∧ p.windowLevelLo ≤ p.windowLevelHi ∧ p.windowLevelHi ≤ 40 ∧ p.weightingBase ≤ 2047 ∧ 1 ≤ p.bayGroup
      ∧ p.bayGroup ≤ 16 ∧ 1 ≤ p.levelGroup ∧ p.levelGroup ≤ 16 := by
  simp only [State.policyInRange, Bool.and_eq_true, decide_eq_true_eq, and_assoc]

theorem profileModeOf_eq_some {b : Byte} {m : ProfileMode} (h : b.toNat = profileModeCode m) : profileModeOf b = some m := by
  unfold profileModeOf
  rw [h]
  cases m <;> rfl

theorem profileModeOf_le {b : Byte} {m : ProfileMode} (h : profileModeOf b = some m) : b.toNat ≤ 3 := by
  unfold profileModeOf at h
  split at h
  case h_5 => cases h
  all_goals omega

theorem weightingModeOf_eq_some {b : Byte} {m : WeightingMode} (h : b.toNat = weightingModeCode m) :
    weightingModeOf b = some m := by
  unfold weightingModeOf
  rw [h]
  cases m <;> rfl

theorem weightingModeOf_le {b : Byte} {m : WeightingMode} (h : weightingModeOf b = some m) : b.toNat ≤ 3 := by
  unfold weightingModeOf at h
  split at h
  case h_5 => cases h
  all_goals omega

theorem asFin_lt {n : Nat} {b : Byte} {a : Fin n} (h : asFin n b = some a) : b.toNat < n := by
  by_contra k
  rw [asFin_eq_none (by omega)] at h
  cases h

theorem policyFrom_none {r : PolicyRequest} (h : r.outOfRange) : State.policyFrom r = none := by
  unfold State.policyFrom
  split
  · rename_i a pm wm ha hp hw
    have aisle := asFin_lt ha
    have profile := profileModeOf_le hp
    have weighting := weightingModeOf_le hw
    refine if_neg fun k => ?_
    rw [policyInRange_iff] at k
    unfold PolicyRequest.outOfRange at h
    omega
  · rfl

theorem policyFrom_some {r : PolicyRequest} {a : Aisle} {pm : ProfileMode} {wm : WeightingMode} (ha : r.aisle.toNat = a.val)
    (hp : r.profileMode.toNat = profileModeCode pm) (hw : r.weightingMode.toNat = weightingModeCode wm)
    (h : State.policyInRange r.policy = true) :
    State.policyFrom r = some (a, { r.policy with profileMode := pm, weightingMode := wm }) := by
  unfold State.policyFrom
  rw [aisleOfByte, asFin_eq_some ha, profileModeOf_eq_some hp, weightingModeOf_eq_some hw]
  exact if_pos h

/-- Check 4 of R9: a pass for a crane of the aisle. -/
theorem aisleEvaluating_iff (s : State) (a : Aisle) :
    s.aisleEvaluating a = true ↔ ∃ p ∈ s.engine.pass, aisleOf p.crane = a := by
  unfold State.aisleEvaluating
  cases s.engine.pass <;> simp

/-- Settles O27, from the equations of the two requests. -/
theorem aisleSettingsTaken : Obligations.AisleSettingsTaken := by
  refine ⟨fun r1 r0 fields r s h hs hh hr => ?_, fun r1 r0 fields r s h stride rows hs hh hr hst hrows => ?_⟩
  · have taken : exec (.setAisleGeometry (r1 :: r0 :: fields)) s
        = .next (State.replyTo (r1 ++ r0) 0x0C#8 (h.setGeometry r)) :=
      congrArg _ (takeRequest_read hs hh hr ..)
    rw [taken]
    refine ⟨fun past => ?_, fun a pol stride rows ha hpol hst hrows => ?_⟩
    · unfold State.setGeometry
      rw [aisleOfByte, asFin_eq_none (by omega)]
      rfl
    · subst hpol hst hrows
      rw [setGeometry_eq ha]
      refine congrArg _ ?_
      split
      · rfl
      · refine (apply_ite _ _ _ _).trans (if_congr Iff.rfl rfl ?_)
        unfold State.replaceGeometry
        refine (apply_ite _ _ _ _).trans (if_congr (h.aisleInUse_iff a) rfl rfl)
  · have taken : exec (.setAislePolicy (r1 :: r0 :: fields)) s
        = .next (State.replyTo (r1 ++ r0) 0x0D#8 (h.setPolicy r)) :=
      congrArg _ (takeRequest_read hs hh hr ..)
    rw [taken]
    unfold State.setPolicy
    refine ⟨fun past => ?_, fun a pm wm ha hp hw h1 h2 h3 h4 h5 h6 h7 h8 h9 h10 h11 => ?_⟩
    · rw [policyFrom_none past]
      rfl
    · rw [policyFrom_some ha hp hw ((policyInRange_iff _).2 ⟨h1, h2, h3, h4, h5, h6, h7, h8, h9, h10, h11⟩), hst, hrows]
      refine congrArg _ ((apply_ite _ _ _ _).trans (if_congr Iff.rfl rfl ?_))
      exact (apply_ite _ _ _ _).trans (if_congr (aisleEvaluating_iff h a) rfl rfl)

end Sys2Proof.Machine

namespace Sys2Proof.Machine

/-! ## The queries (R17, R37, R148, R162, R188) -/

theorem asFin_ofNat {n : Nat} (hn : n ≤ 256) (a : Fin n) : asFin n (BitVec.ofNat 8 a.val) = some a :=
  asFin_eq_some (by
    rw [BitVec.toNat_ofNat]
    exact Nat.mod_eq_of_lt (by have := a.isLt; omega))

/-- A request of one byte that names one of n things is answered for it. -/
theorem takeRequest_named {s h : State} (hs : s.port.replies.length < 16) (hh : h = s.hearHost) {n : Nat} (hn : n ≤ 256)
    (a : Fin n) (kind r1 r0 : Byte) (act : State → Fin n → Answer) :
    s.takeRequest kind [r1, r0, BitVec.ofNat 8 a.val] (State.reading readByte fun t b => t.ranged (asFin n b) act)
      = State.replyTo (r1 ++ r0) kind (act h a) := by
  rw [takeRequest_read hs hh (r := BitVec.ofNat 8 a.val) rfl, asFin_ofNat hn, State.ranged]

/-- A request of one byte that names none of n things is refused RANGE. -/
theorem takeRequest_unnamed {s h : State} (hs : s.port.replies.length < 16) (hh : h = s.hearHost) {n : Nat} {b : Byte}
    (hb : n ≤ b.toNat) (kind r1 r0 : Byte) (act : State → Fin n → Answer) :
    s.takeRequest kind [r1, r0, b] (State.reading readByte fun t b => t.ranged (asFin n b) act)
      = h.pushReply { ref := r1 ++ r0, kind := kind, code := .range, data := .empty } := by
  rw [takeRequest_read hs hh (r := b) rfl, asFin_eq_none hb, State.ranged, replyTo_refuse]

theorem underEvaluation_iff (s : State) (x : Crane) : s.underEvaluation x = true ↔ ∃ p ∈ s.engine.pass, p.crane = x := by
  unfold State.underEvaluation
  cases s.engine.pass <;> simp

/-- A QUEUED crane's place (R102). -/
theorem queuePlace_eq (s : State) (x : Crane) [Decidable (∃ p ∈ s.engine.pass, p.crane = x)] :
    s.queuePlace x =
      if (s.crane x).state = .queued then
        if ∃ p ∈ s.engine.pass, p.crane = x then some .underEvaluation
        else some (.standing (s.engine.queue.findIdx (fun e => e.crane == x) + 1))
      else none :=
  if_congr Iff.rfl (if_congr (underEvaluation_iff s x) rfl rfl) rfl

theorem aisleEvaluating_eq (s : State) (a : Aisle) : s.aisleEvaluating a = s.engine.pass.any (fun p => aisleOf p.crane == a) := by
  unfold State.aisleEvaluating
  cases s.engine.pass <;> rfl

theorem spareEntries_length (t : List Entry) (a : Aisle) :
    (spareEntries t a).length = t.countP (fun e => e.use.isSpare && e.slot.aisle == a) :=
  List.countP_eq_length_filter.symm

/-- A spare in use is a spare. -/
theorem isSpare_of_inUse {u : Use} (h : u.isSpareInUse = true) : u.isSpare = true := by
  cases u <;> first | rfl | cases h

theorem spareEntries_inUse (t : List Entry) (a : Aisle) :
    (spareEntries t a).countP (fun e => e.use.isSpareInUse) = t.countP (fun e => e.use.isSpareInUse && e.slot.aisle == a) := by
  rw [spareEntries, List.countP_filter]
  refine List.countP_congr fun e _ => ?_
  simp only [Bool.and_eq_true]
  exact ⟨fun h => ⟨h.1, h.2.2⟩, fun h => ⟨h.1, isSpare_of_inUse h.1, h.2⟩⟩

/-- The items of a QUERY JOB reply (R33, R37). -/
theorem queuePosition_eq (s : State) (j : Job) :
    s.queuePosition j =
      match j.kind with
      | .store st .. => some ((s.pool.stationQueue st).findIdx (fun k => k.tag == j.tag) + 1)
      | .retrieve .. => none := by
  unfold State.queuePosition Job.station?
  cases j.kind <;> rfl

theorem find_none {p : Pool} {tag : Word32} (h : ∀ j ∈ p.jobs, j.tag ≠ tag) : p.find tag = none := by
  simpa [Pool.find] using h

/-- What the notice unit keeps for its classes, in their order. -/
theorem classes_map {α : Type} (u : NoticeUnit) (f : ClassRecord → α) :
    u.classes.toList.map f = (List.finRange 11).map fun k => f (u.classOf k) := by
  refine List.ext_getElem (by simp) fun i h k => ?_
  simp [NoticeUnit.classOf, Vector.get_eq_getElem]

theorem allCranes_eq : allCranes = List.finRange 16 := by decide

/-- Settles O58: each query's reply holds what the report reads. -/
theorem queriesReport : Obligations.QueriesReport := by
  intro r1 r0 b x a l fields tag s h hs hh
  refine ⟨?_, ?_, ?_, fun j hr hj => ?_, fun hr hj => ?_, ?_, fun hb => ?_, fun hb => ⟨?_, ?_⟩⟩
  · refine congrArg _ ((takeRequest_named hs hh (by decide) x ..).trans ?_)
    rw [replyTo_okWith, State.craneReport, queuePlace_eq]
  · refine congrArg _ ((takeRequest_named hs hh (by decide) a ..).trans ?_)
    rw [replyTo_okWith, State.aisleReport, spareEntries_length, spareEntries_inUse, aisleEvaluating_eq]
    rfl
  · exact congrArg _ (takeRequest_named hs hh (by decide) l ..)
  · refine congrArg _ ((takeRequest_read hs hh hr ..).trans ?_)
    rw [State.queryJob, hj]
    dsimp only
    rw [replyTo_okWith, State.jobReport, queuePosition_eq] <;> rfl
  · refine congrArg _ ((takeRequest_read hs hh hr ..).trans ?_)
    rw [State.queryJob, find_none hj]
    rfl
  · subst hh
    refine congrArg _ ((takeRequest_taken hs ..).trans ?_)
    rw [State.queryStatus, replyTo_okWith, State.statusReport, State.flagsOf, State.enabledFlagsOf, State.missedOf,
      classes_map, classes_map, classes_map, allCranes_eq]
    rfl
  · exact congrArg _ (takeRequest_unnamed hs hh (by omega) ..)
  · exact congrArg _ (takeRequest_unnamed hs hh (by omega) ..)
  · exact congrArg _ (takeRequest_unnamed hs hh (by omega) ..)

/-! ## The weighting range of an aisle (R10, R12) -/

/-- A quotient of a cell's number, from 0, stays below the quotient of the count rounded upward. -/
theorem div_lt_ceilDiv {n d k : Nat} (hd : 1 ≤ d) (hk : 1 ≤ k) (hn : k ≤ n) : (k - 1) / d < ceilDiv n d := by
  rw [ceilDiv, Nat.div_lt_iff_lt_mul hd]
  have := Nat.div_add_mod (n + d - 1) d
  have := Nat.mod_lt (n + d - 1) hd
  rw [Nat.mul_comm]
  omega

/-- A row and a column of a table are read off its index. -/
theorem row_column_inj {m r c r' c' : Nat} (hc : c < m) (hc' : c' < m) : r * m + c = r' * m + c' ↔ c = c' ∧ r = r' := by
  refine ⟨fun h => ?_, fun ⟨h, k⟩ => by rw [h, k]⟩
  have hm : 0 < m := by omega
  have hr : r = r' := by
    have := congrArg (· / m) h
    simpa [Nat.mul_comm _ m, Nat.mul_add_div hm, Nat.div_eq_of_lt hc, Nat.div_eq_of_lt hc'] using this
  subst hr
  exact ⟨by omega, rfl⟩

/-- Settles O25: a cell's entry stands in a table of `rows` rows of `stride` entries. -/
theorem cellsLieInTheirRange : Obligations.CellsLieInTheirRange := by
  refine ⟨fun s a p hp hw => ?_, fun p g b l b' l' hbg hlg hb1 hb hl1 hl hb1' hb' hl1' hl' => ?_⟩
  · subst hp
    rw [State.cellWeight, if_pos hw]
    rfl
  · have column : (b - 1) / p.bayGroup < stride p g := div_lt_ceilDiv hbg hb1 hb
    have column' : (b' - 1) / p.bayGroup < stride p g := div_lt_ceilDiv hbg hb1' hb'
    have row : (l - 1) / p.levelGroup < rows p g := div_lt_ceilDiv hlg hl1 hl
    have full : ((l - 1) / p.levelGroup + 1) * stride p g ≤ rows p g * stride p g := Nat.mul_le_mul_right _ row
    unfold cellIndex rangeEnd
    rw [Nat.add_mul, Nat.one_mul] at full
    refine ⟨Nat.le_trans (Nat.le_add_right ..) (Nat.le_add_right ..), ?_, ?_⟩
    · rw [Nat.add_assoc]
      exact Nat.add_lt_add_left (Nat.lt_of_lt_of_le (Nat.add_lt_add_left column _) full) _
    rw [Nat.add_assoc, Nat.add_assoc, Nat.add_left_cancel_iff]
    exact row_column_inj column column'

/-! ## Places and their code (R2 to R4, R191, R192) -/

theorem inGeometry_iff (s : State) (a : Slot) :
    s.inGeometry a = true ↔ (s.geometryOf a.aisle).configured = true ∧ 1 ≤ a.bay ∧ a.bay ≤ (s.geometryOf a.aisle).bays
      ∧ 1 ≤ a.level ∧ a.level ≤ (s.geometryOf a.aisle).levels
      ∧ (a.depth = .front ∨ (s.geometryOf a.aisle).doubleDeep = true) := by
  unfold State.inGeometry
  cases a.depth <;> simp [and_assoc]

theorem CraneFit.fits_iff (f : CraneFit) (e : RailEnd) :
    f.fits e = true ↔ f = .both ∨ (f = .nearOnly ∧ e = .near) ∨ (f = .farOnly ∧ e = .far) := by
  cases f <;> cases e <;> decide

theorem served_iff (s : State) (st : Station) :
    s.served st = true ↔ (s.geometryOf st.aisle).configured = true
      ∧ ((s.geometryOf st.aisle).fit = .both ∨ ((s.geometryOf st.aisle).fit = .nearOnly ∧ st.side = .near)
        ∨ ((s.geometryOf st.aisle).fit = .farOnly ∧ st.side = .far)) := by
  rw [State.served, Bool.and_eq_true, CraneFit.fits_iff]

/-- Bit 7 of a byte is above the bits that a place reads (R192). -/
theorem bit7_unread (b : Byte) : (b ||| 0x80#8).toNat % 128 = b.toNat % 128 := by
  revert b; decide

/-- A place is read of the lower seven bits of its first byte (R192). -/
theorem placeOf_congr {b c : Byte} (h : b.toNat % 128 = c.toNat % 128) (b1 b2 b3 x : Byte) :
    placeOf b b1 b2 b3 = placeOf c b1 b2 x := by
  have aisle : b.toNat % 8 = c.toNat % 8 := by omega
  have side : b.toNat / 8 % 2 = c.toNat / 8 % 2 := by omega
  have depth : b.toNat / 16 % 2 = c.toNat / 16 % 2 := by omega
  have kind : b.toNat / 32 % 4 = c.toNat / 32 % 4 := by omega
  simp only [placeOf, aisle, side, depth, kind]

/-- A number below 256 is read back from its byte. -/
theorem byte_toNat {n : Nat} (h : n < 256) : (BitVec.ofNat 8 n).toNat = n := by
  rw [BitVec.toNat_ofNat]
  exact Nat.mod_eq_of_lt h

theorem slotByte0_lt (a : Slot) : slotByte0 a < 256 := by
  have := a.aisle.isLt
  unfold slotByte0
  cases a.side <;> cases a.depth <;> dsimp only <;> omega

/-- A slot that fits its bytes is read back from them, whatever byte 3 holds (R191, R192). -/
theorem placeOf_slotBytes {a : Slot} {b0 b1 b2 b3 : Byte} (hb : a.bay < 256) (hl : a.level < 256)
    (h : slotBytes a = [b0, b1, b2, b3]) (x : Byte) : placeOf b0 b1 b2 x = some (.slot a) := by
  obtain ⟨h0, h⟩ := List.cons.inj h
  obtain ⟨h1, h⟩ := List.cons.inj h
  obtain ⟨h2, -⟩ := List.cons.inj h
  have first : b0.toNat = slotByte0 a := by rw [← h0, byte_toNat (slotByte0_lt a)]
  have second : b1.toNat = a.bay := by rw [← h1, byte_toNat hb]
  have third : b2.toNat = a.level := by rw [← h2, byte_toNat hl]
  obtain ⟨⟨aisle, ha⟩, side, bay, level, depth⟩ := a
  have kind : b0.toNat / 32 % 4 = 0 := by cases side <;> cases depth <;> simp only [slotByte0] at first <;> omega
  have low : b0.toNat % 8 = aisle := by cases side <;> cases depth <;> simp only [slotByte0] at first <;> omega
  have side' : (if b0.toNat / 8 % 2 = 0 then Side.left else .right) = side := by
    cases side <;> cases depth <;> simp only [slotByte0] at first <;> simp <;> omega
  have depth' : (if b0.toNat / 16 % 2 = 0 then Depth.front else .rear) = depth := by
    cases side <;> cases depth <;> simp only [slotByte0] at first <;> simp <;> omega
  simp only [placeOf, kind, low, second, third, side', depth']

/-- A station is read back from its bytes, whatever byte 3 holds (R191, R192). -/
theorem placeOf_stationBytes {st : Station} {b0 b1 b2 b3 : Byte} (h : stationBytes st = [b0, b1, b2, b3]) (x : Byte) :
    placeOf b0 b1 b2 x = some (.station st) := by
  obtain ⟨⟨aisle, ha⟩, side⟩ := st
  obtain ⟨h0, -⟩ := List.cons.inj h
  cases side
  all_goals
    dsimp only at h0
    have first := (congrArg BitVec.toNat h0).symm.trans (byte_toNat (by omega))
    have low : b0.toNat % 8 = aisle := by omega
  case near =>
    have kind : b0.toNat / 32 % 4 = 1 := by omega
    simp only [placeOf, kind, low]
  case far =>
    have kind : b0.toNat / 32 % 4 = 2 := by omega
    simp only [placeOf, kind, low]

/-- Settles O30: the bytes of a place carry all that the place is. -/
theorem placesAndTheirCode : Obligations.PlacesAndTheirCode := by
  refine ⟨fun s a st bay level g => ⟨?_, ?_, rfl⟩, fun a st b0 b1 b2 b3 x => ⟨fun hb hl h => ?_, fun h => ?_, fun h => ?_⟩⟩
  · rintro rfl
    exact ⟨rfl, inGeometry_iff s a⟩
  · rintro rfl
    refine ⟨?_, served_iff s st⟩
    obtain ⟨aisle, side⟩ := st
    cases side <;> rfl
  · exact ⟨placeOf_slotBytes hb hl h x, (placeOf_congr (bit7_unread b0) ..).trans (placeOf_slotBytes hb hl h x)⟩
  · exact ⟨placeOf_stationBytes h x, (placeOf_congr (bit7_unread b0) ..).trans (placeOf_stationBytes h x)⟩
  · simp only [placeOf, h]

end Sys2Proof.Machine

namespace Sys2Proof.Machine

/-! ## The time of a leg (R15, R16, R78 to R83) -/

/-- The difference without sign is the absolute value of the signed one. -/
theorem absDiff_eq {n a b : Nat} (h : (n : Int) = |(a : Int) - b|) : absDiff a b = n := by
  unfold absDiff
  rcases abs_cases ((a : Int) - b) with ⟨e, _⟩ | ⟨e, _⟩ <;> omega

theorem scaled_eq (v w : Nat) : scaled v w = (2 * (v * w) + 1024) / 2048 := rfl

theorem effectiveRates_fst (m : WeightingMode) (p : Profile) (w : Nat) :
    (effectiveRates m p w).1 = match m with
      | .bothRates | .horizontal => (2 * (p.kx * w) + 1024) / 2048
      | .vertical | .forkTime => p.kx := by
  cases m <;> rfl

theorem effectiveRates_snd (m : WeightingMode) (p : Profile) (w : Nat) :
    (effectiveRates m p w).2 = match m with
      | .bothRates | .vertical => (2 * (p.ky * w) + 1024) / 2048
      | .horizontal | .forkTime => p.ky := by
  cases m <;> rfl

/-- The unweighted fork time of a leg (R81). -/
def forkBase (p : Profile) (t : Place) (action : Action) : Nat :=
  if action = .stay then 0
  else match t with
    | .slot q => if q.depth = .front then 16 * p.kf else 16 * (p.kf + p.kd)
    | _ => 16 * p.ks

/-- The fork time of a leg whose action is NONE at a rail position (R81). -/
theorem forkTime_eq (m : WeightingMode) (p : Profile) (w : Nat) (t : Place) (action : Action) :
    (∀ b bay level, t = .rail b bay level → action = .stay) →
    forkTime m p w t action = match t with
      | .slot _ => if m = .forkTime then (2 * (forkBase p t action * w) + 1024) / 2048 else forkBase p t action
      | _ => forkBase p t action := by
  intro rail
  cases t with
  | slot q => cases hd : q.depth <;> cases action <;> cases m <;> simp [forkTime, forkBase, hd, scaled_eq]
  | station st => cases action <;> rfl
  | rail b bay level =>
    cases rail b bay level rfl
    rfl

/-- The weight that governs a leg: its cell's, and the power-on value with none (R15). -/
def State.governingWeight (s : State) (a : Aisle) : Option (Nat × Nat) → Weight
  | some (bay, level) => s.cellWeight a bay level
  | none => Weight.default

theorem legFactor_eq (s : State) (a : Aisle) (cell : Option (Nat × Nat)) :
    s.legFactor a cell = (s.governingWeight a cell).factor := by
  cases cell <;> rfl

/-- The governing weight is what the table holds at the cell's index, and the power-on value where no table is read. -/
theorem governingWeight_eq {s : State} {a : Aisle} {cell : Option (Nat × Nat)} {pol : Policy} {mark : Bool} {w : Nat}
    (hp : pol = s.policyOf a)
    (listed : ∀ bay level, cell = some (bay, level) → pol.weighting = true →
      weightAt s.cost.weights (pol.weightingBase
          + (level - 1) / pol.levelGroup * (((s.geometryOf a).bays + pol.bayGroup - 1) / pol.bayGroup)
          + (bay - 1) / pol.bayGroup) = { mark := mark, factor := w })
    (unlisted : cell = none ∨ pol.weighting = false → mark = false ∧ w = 1024) :
    s.governingWeight a cell = { mark := mark, factor := w } := by
  subst hp
  rcases cell with _ | ⟨bay, level⟩
  · obtain ⟨rfl, rfl⟩ := unlisted (.inl rfl)
    rfl
  · rw [State.governingWeight, State.cellWeight]
    by_cases hw : (s.policyOf a).weighting = true
    · rw [if_pos hw]
      exact listed bay level rfl hw
    · obtain ⟨rfl, rfl⟩ := unlisted (.inr (by simpa using hw))
      rw [if_neg hw]
      rfl

theorem insideWindow_iff (p : Policy) (bay level : Nat) :
    insideWindow p bay level = true
      ↔ p.windowBayLo ≤ bay ∧ bay ≤ p.windowBayHi ∧ p.windowLevelLo ≤ level ∧ level ≤ p.windowLevelHi := by
  simp [insideWindow, and_assoc]

/-- The profile of a leg by the mark that governs it (R16). -/
theorem legProfile_eq (s : State) (v : Values) (a : Aisle) (cell : Option (Nat × Nat)) :
    s.legProfile v a cell = match (s.policyOf a).profileMode with
      | .profileA => v.profileA
      | .profileB => v.profileB
      | .byMark => if (s.governingWeight a cell).mark then v.profileB else v.profileA
      | .byWindow =>
        match cell with
        | some (bay, level) =>
          if ((s.policyOf a).windowBayLo ≤ bay ∧ bay ≤ (s.policyOf a).windowBayHi ∧ (s.policyOf a).windowLevelLo ≤ level
              ∧ level ≤ (s.policyOf a).windowLevelHi) ↔ (s.policyOf a).windowInvert = false then v.profileB else v.profileA
        | none => v.profileA := by
  unfold State.legProfile
  dsimp only
  generalize (s.policyOf a).profileMode = mode
  rcases cell with _ | ⟨bay, level⟩ <;> cases mode
  case some.byWindow =>
    refine if_congr ?_ rfl rfl
    rw [← insideWindow_iff]
    cases insideWindow (s.policyOf a) bay level <;> cases (s.policyOf a).windowInvert <;> decide
  all_goals rfl

/-- Settles O23, function by function along `legRaw`. -/
theorem legTimes : Obligations.LegTimes := by
  intro s v a o t action pol w mark cell p kx ky th tv tf fork db dl hpol rail hcell listed unlisted hp hkx hky hdb hdl hth
    htv htf hfork
  have weight := governingWeight_eq hpol listed unlisted
  have governed : governing o t = cell := by
    rw [hcell]
    rfl
  have factor : s.legFactor a (governing o t) = w := by rw [governed, legFactor_eq, weight]
  have profile : s.legProfile v a (governing o t) = p := by
    rw [governed, legProfile_eq, weight, ← hpol, hp] <;> rfl
  have base : tf = forkBase p t action := htf
  have rateX : (effectiveRates pol.weightingMode p w).1 = kx := (effectiveRates_fst ..).trans hkx.symm
  have rateY : (effectiveRates pol.weightingMode p w).2 = ky := (effectiveRates_snd ..).trans hky.symm
  have forks : forkTime pol.weightingMode p w t action = fork := by
    rw [forkTime_eq _ p w t action rail, ← base, hfork] <;> rfl
  have raw : s.legRaw v a o t action = max th tv + fork := by
    unfold State.legRaw
    dsimp only
    rw [factor, profile, absDiff_eq hdb, absDiff_eq hdl, ← hpol, rateX, rateY, forks, hth, htv]
    rfl
  refine ⟨raw, ?_, ?_, rfl, rfl⟩
  · rw [← raw]
    rfl
  · rw [← raw]
    rfl

end Sys2Proof.Machine

namespace Sys2Proof.Machine

/-! ## Separation beside the sibling (R59) -/

/-- A span for a crane is clear just when the aisle is separated once the crane has it. -/
theorem separatedAt_setSpan (s : State) (x : Crane) (sp : Span) :
    (s.setSpan x sp).separatedAt (aisleOf x) ↔ s.clear x sp = true := by
  have self : craneAt (aisleOf x) (endOf x) = x := craneAt_aisle_end x
  have other := sibling_ne x
  unfold State.separatedAt State.clear
  unfold sibling at other ⊢
  cases e : endOf x <;> rw [e] at self other <;> dsimp only at other ⊢ <;>
    rw [self, State.spanOf_setSpan_self, State.spanOf_setSpan, if_neg other.symm] <;> rfl

theorem separatedAt_iff_clear (s : State) (x : Crane) :
    s.separatedAt (aisleOf x) ↔ s.clear x (s.spanOf x) = true := by
  have self : craneAt (aisleOf x) (endOf x) = x := craneAt_aisle_end x
  unfold State.separatedAt State.clear sibling
  cases e : endOf x <;> rw [e] at self <;> dsimp only <;> rw [self]

theorem separated_bays_left {g : Geometry} {a b c d : Nat} {sp : Span} (h : separated g (.bays a b) sp = true)
    (hd : d ≤ b) : separated g (.bays c d) sp = true := by
  cases sp <;> simp [separated, testedSpan] at h ⊢ <;> omega

theorem separated_bays_right {g : Geometry} {a b c d : Nat} {sp : Span} (h : separated g sp (.bays a b) = true)
    (hc : a ≤ c) : separated g sp (.bays c d) = true := by
  cases sp <;> simp [separated, testedSpan] at h ⊢ <;> omega

/-- An interval inside a clear interval is clear. -/
theorem clear_of_subset {s : State} {x : Crane} {a b c d : Nat} (h : s.clear x (.bays a b) = true) (hc : a ≤ c)
    (hd : d ≤ b) : s.clear x (.bays c d) = true := by
  unfold State.clear at h ⊢
  cases e : endOf x <;> rw [e] at h
  · exact separated_bays_left h hd
  · exact separated_bays_right h hc

/-! ## A reported position (R2, R68) -/

theorem takenBay_eq_iff (g : Geometry) (b : Nat) : takenBay g b = b ↔ b ≤ g.bays + 1 := by
  unfold takenBay
  omega

theorem takenBay_eq (g : Geometry) (b : Nat) : takenBay g b = if g.bays + 1 < b then g.bays + 1 else b := by
  unfold takenBay
  split <;> omega

theorem takenLevel_eq_iff {g : Geometry} (hg : 1 ≤ g.levels) (l : Nat) : takenLevel g l = l ↔ 1 ≤ l ∧ l ≤ g.levels := by
  unfold takenLevel clamp
  omega

theorem takenLevel_eq {g : Geometry} (hg : 1 ≤ g.levels) (l : Nat) :
    takenLevel g l = if l < 1 then 1 else if g.levels < l then g.levels else l := by
  unfold takenLevel clamp
  split
  · omega
  · split <;> omega

theorem takenBay_taken (g : Geometry) (b : Nat) : takenBay g (takenBay g b) = takenBay g b := by
  unfold takenBay
  omega

theorem takenLevel_taken (g : Geometry) (l : Nat) : takenLevel g (takenLevel g l) = takenLevel g l := by
  unfold takenLevel clamp
  omega

theorem reportRange_cases (s : State) (x : Crane) (b l : Nat) : s.reportRange x b l = s ∨ s.reportRange x b l = s.anomaly x :=
  ite_eq_or_eq ..

@[simp] theorem spanOf_reportRange (s : State) (x y : Crane) (b l : Nat) :
    (s.reportRange x b l).spanOf y = s.spanOf y := by
  rcases reportRange_cases s x b l with h | h <;> rw [h] <;> rfl

@[simp] theorem geometryOf_reportRange (s : State) (x : Crane) (b l : Nat) (a : Aisle) :
    (s.reportRange x b l).geometryOf a = s.geometryOf a := by
  rcases reportRange_cases s x b l with h | h <;> rw [h] <;> rfl

@[simp] theorem clear_reportRange (s : State) (x y : Crane) (b l : Nat) (sp : Span) :
    (s.reportRange x b l).clear y sp = s.clear y sp := by
  rcases reportRange_cases s x b l with h | h <;> rw [h] <;> rfl

/-- A crane's context but for its position and its anomaly count is another's. -/
def CraneCtx.SameButPlace (c d : CraneCtx) : Prop := ∃ p n, c = { d with position := p, anomalies := n }

theorem CraneCtx.SameButPlace.refl (c : CraneCtx) : c.SameButPlace c := ⟨c.position, c.anomalies, rfl⟩

theorem CraneCtx.SameButPlace.trans {c d e : CraneCtx} (h : c.SameButPlace d) (k : d.SameButPlace e) : c.SameButPlace e := by
  obtain ⟨p, n, rfl⟩ := h
  obtain ⟨q, m, rfl⟩ := k
  exact ⟨p, n, rfl⟩

theorem CraneCtx.SameButPlace.order {c d : CraneCtx} (h : c.SameButPlace d) : c.order = d.order := by
  obtain ⟨p, n, rfl⟩ := h
  rfl

theorem CraneCtx.SameButPlace.state {c d : CraneCtx} (h : c.SameButPlace d) : c.state = d.state := by
  obtain ⟨p, n, rfl⟩ := h
  rfl

theorem sameButPlace_anomaly (s : State) (x : Crane) : ((s.anomaly x).crane x).SameButPlace (s.crane x) := by
  unfold State.anomaly
  rw [State.crane_modCrane_self]
  exact ⟨_, _, rfl⟩

theorem sameButPlace_setPosition (s : State) (x : Crane) (b l : Nat) :
    ((s.setPosition x b l).crane x).SameButPlace (s.crane x) := by
  unfold State.setPosition
  rw [State.crane_modCrane_self]
  exact ⟨_, _, rfl⟩

theorem position_setPosition (s : State) (x : Crane) (b l : Nat) :
    ((s.setPosition x b l).crane x).position = some { bay := b, level := l } := by
  rw [State.setPosition, State.crane_modCrane_self]

theorem position_anomaly (s : State) (x : Crane) : ((s.anomaly x).crane x).position = (s.crane x).position := by
  rw [State.anomaly, State.crane_modCrane_self]

theorem crane_anomaly_other {s : State} {x y : Crane} (h : y ≠ x) : (s.anomaly x).crane y = s.crane y := by
  rw [State.anomaly, State.crane_modCrane, if_neg h.symm]

theorem crane_setPosition_other {s : State} {x y : Crane} (h : y ≠ x) (b l : Nat) :
    (s.setPosition x b l).crane y = s.crane y := by
  rw [State.setPosition, State.crane_modCrane, if_neg h.symm]

/-- What a reported position in range does to the crane's span and position (R68). -/
theorem takeInRange_cases (s : State) (x : Crane) (b l : Nat) :
    s.takeInRange x b l = s ∧ (∀ lo hi, s.spanOf x ≠ .bays lo hi)
    ∨ s.spanOf x = .unknown ∧ s.clear x (.bays b b) = true
      ∧ s.takeInRange x b l = (s.setPosition x b l).setSpan x (.bays b b)
    ∨ ∃ lo hi, s.spanOf x = .bays lo hi ∧
      (lo ≤ b ∧ b ≤ hi ∧ s.takeInRange x b l = s.setPosition x b l
      ∨ ¬(lo ≤ b ∧ b ≤ hi) ∧ s.clear x (.bays (min lo b) (max hi b)) = true
        ∧ s.takeInRange x b l = ((s.setPosition x b l).setSpan x (.bays (min lo b) (max hi b))).anomaly x
      ∨ ¬(lo ≤ b ∧ b ≤ hi) ∧ ¬s.clear x (.bays (min lo b) (max hi b)) = true
        ∧ s.takeInRange x b l = (s.setPosition x (if b < lo then lo else hi) l).anomaly x) := by
  unfold State.takeInRange
  cases hs : s.spanOf x with
  | absent => exact .inl ⟨rfl, nofun⟩
  | unknown =>
    by_cases hc : s.clear x (.bays b b) = true
    · exact .inr (.inl ⟨rfl, hc, if_pos hc⟩)
    · exact .inl ⟨if_neg hc, nofun⟩
  | bays lo hi =>
    refine .inr (.inr ⟨lo, hi, rfl, ?_⟩)
    by_cases hb : lo ≤ b ∧ b ≤ hi
    · exact .inl ⟨hb.1, hb.2, if_pos hb⟩
    · by_cases hc : s.clear x (.bays (min lo b) (max hi b)) = true
      · exact .inr (.inl ⟨hb, hc, (if_neg hb).trans (if_pos hc)⟩)
      · exact .inr (.inr ⟨hb, hc, (if_neg hb).trans (if_neg hc)⟩)

theorem sameButPlace_takeInRange (s : State) (x : Crane) (b l : Nat) :
    ((s.takeInRange x b l).crane x).SameButPlace (s.crane x) := by
  obtain ⟨h, -⟩ | ⟨-, -, h⟩ | ⟨lo, hi, -, ⟨-, -, h⟩ | ⟨-, -, h⟩ | ⟨-, -, h⟩⟩ := takeInRange_cases s x b l <;> rw [h]
  · exact .refl _
  · exact sameButPlace_setPosition s x b l
  · exact sameButPlace_setPosition s x b l
  · exact (sameButPlace_anomaly _ x).trans (sameButPlace_setPosition s x b l)
  · exact (sameButPlace_anomaly _ x).trans (sameButPlace_setPosition s x _ l)

theorem crane_takeInRange_other {s : State} {x y : Crane} (hy : y ≠ x) (b l : Nat) :
    (s.takeInRange x b l).crane y = s.crane y := by
  obtain ⟨h, -⟩ | ⟨-, -, h⟩ | ⟨lo, hi, -, ⟨-, -, h⟩ | ⟨-, -, h⟩ | ⟨-, -, h⟩⟩ := takeInRange_cases s x b l <;> rw [h]
  · exact crane_setPosition_other hy b l
  · exact crane_setPosition_other hy b l
  · exact (crane_anomaly_other hy).trans (crane_setPosition_other hy b l)
  · exact (crane_anomaly_other hy).trans (crane_setPosition_other hy _ l)

/-- A reported position never leaves the crane's span strictly narrower before the crane comes to rest. -/
theorem narrower_takeInRange (s : State) (x : Crane) (b l : Nat) :
    narrower ((s.takeInRange x b l).spanOf x) (s.spanOf x) = false := by
  have wide : ∀ lo hi a c, a ≤ lo → hi ≤ c → narrower (.bays a c) (.bays lo hi) = false := by
    intro lo hi a c ha hc
    simp only [narrower, Bool.and_eq_false_iff, decide_eq_false_iff_not]
    omega
  have self : narrower (s.spanOf x) (s.spanOf x) = false := by
    cases s.spanOf x with
    | bays lo hi => exact wide lo hi lo hi (Nat.le_refl _) (Nat.le_refl _)
    | _ => rfl
  obtain ⟨h, -⟩ | ⟨hu, -, h⟩ | ⟨lo, hi, hs, ⟨-, -, h⟩ | ⟨-, -, h⟩ | ⟨-, -, h⟩⟩ := takeInRange_cases s x b l <;> rw [h]
  · exact self
  · rw [State.spanOf_setSpan_self, hu]
    rfl
  · exact self
  · rw [hs]
    refine (congrArg (narrower · _) (State.spanOf_setSpan_self ..)).trans (wide _ _ _ _ (Nat.min_le_left ..) (Nat.le_max_left ..))
  · exact self

/-- A known position lies in the crane's span (R68). -/
def State.PlacedInSpan (s : State) (x : Crane) : Prop :=
  ∀ lo hi p, s.spanOf x = .bays lo hi → (s.crane x).position = some p → lo ≤ p.bay ∧ p.bay ≤ hi

/-- The table of R68 keeps the aisle separated and the position in the span. -/
theorem takeInRange_separated {s : State} {x : Crane} {b l : Nat} (sep : s.separatedAt (aisleOf x))
    (ordered : ∀ lo hi, s.spanOf x = .bays lo hi → lo ≤ hi) :
    (s.takeInRange x b l).separatedAt (aisleOf x) ∧ (s.takeInRange x b l).PlacedInSpan x := by
  have placed (t : State) (lo hi : Nat) (p : Position) (hs : t.spanOf x = .bays lo hi)
      (hp : (t.crane x).position = some p) (h : lo ≤ p.bay ∧ p.bay ≤ hi) : t.PlacedInSpan x := by
    intro a c q hs' hq
    cases hs.symm.trans hs'
    cases hp.symm.trans hq
    exact h
  obtain ⟨h, none⟩ | ⟨hu, clear, h⟩ | ⟨lo, hi, hs, ⟨hlo, hhi, h⟩ | ⟨out, clear, h⟩ | ⟨out, -, h⟩⟩ :=
    takeInRange_cases s x b l <;> rw [h]
  · exact ⟨sep, fun lo hi _ hs => absurd hs (none lo hi)⟩
  · exact ⟨(separatedAt_setSpan ..).2 clear,
      placed _ b b ⟨b, l⟩ (State.spanOf_setSpan_self ..) (position_setPosition s x b l) ⟨Nat.le_refl _, Nat.le_refl _⟩⟩
  · exact ⟨sep, placed _ lo hi ⟨b, l⟩ hs (position_setPosition s x b l) ⟨hlo, hhi⟩⟩
  · exact ⟨(separatedAt_setSpan (s.setPosition x b l) ..).2 clear,
      placed _ _ _ ⟨b, l⟩ (State.spanOf_setSpan_self ..) ((position_anomaly ..).trans (position_setPosition s x b l))
        ⟨Nat.min_le_right .., Nat.le_max_right ..⟩⟩
  · refine ⟨sep, placed _ lo hi ⟨_, l⟩ hs ((position_anomaly ..).trans (position_setPosition s x _ l)) ?_⟩
    have := ordered lo hi hs
    dsimp only
    split <;> omega

/-- What the end of a report does to a crane at rest (R58). -/
theorem restSpan_cases (s : State) (x : Crane) :
    s.restSpan x = s ∨ ∃ p lo hi, (s.crane x).position = some p ∧ s.spanOf x = .bays lo hi
      ∧ s.restSpan x = s.setSpan x (.bays p.bay p.bay) := by
  unfold State.restSpan
  split <;> simp_all

theorem restSpan_eq_self {s : State} {x : Crane} (h : (s.crane x).order ≠ none ∨ (s.crane x).state = .syncing) :
    s.restSpan x = s := by
  unfold State.restSpan
  split <;> simp_all

theorem restSpan_eq {s : State} {x : Crane} {p : Position} {lo hi : Nat} (ho : (s.crane x).order = none)
    (hst : (s.crane x).state ∈ [.idle, .queued, .faulted, .lost]) (hp : (s.crane x).position = some p)
    (hs : s.spanOf x = .bays lo hi) : s.restSpan x = s.setSpan x (.bays p.bay p.bay) := by
  unfold State.restSpan
  rw [ho, hp, hs]
  simp only [List.mem_cons, List.not_mem_nil, or_false] at hst
  obtain h | h | h | h := hst <;> rw [h]

theorem crane_restSpan (s : State) (x y : Crane) : (s.restSpan x).crane y = s.crane y := by
  obtain h | ⟨p, lo, hi, -, -, h⟩ := restSpan_cases s x <;> rw [h] <;> rfl

theorem crane_takePosition_other {s : State} {x y : Crane} (h : y ≠ x) (b l : Nat) :
    (s.takePosition x b l).crane y = s.crane y := by
  rw [State.takePosition, crane_restSpan, crane_takeInRange_other h]
  obtain e | e := reportRange_cases s x b l <;> rw [e]
  exact crane_anomaly_other h

theorem sameButPlace_takePosition (s : State) (x : Crane) (b l : Nat) :
    ((s.takePosition x b l).crane x).SameButPlace (s.crane x) := by
  rw [State.takePosition, crane_restSpan]
  refine (sameButPlace_takeInRange ..).trans ?_
  obtain e | e := reportRange_cases s x b l <;> rw [e]
  · exact .refl _
  · exact sameButPlace_anomaly s x

/-- A crane that holds an order or is SYNCING takes a position by the table of R68 alone. -/
theorem takePosition_bound {s : State} {x : Crane} (h : (s.crane x).order ≠ none ∨ (s.crane x).state = .syncing)
    (b l : Nat) :
    s.takePosition x b l = (s.reportRange x b l).takeInRange x (takenBay (s.geometryOf (aisleOf x)) b)
      (takenLevel (s.geometryOf (aisleOf x)) l) := by
  have same := sameButPlace_takePosition s x b l
  rw [State.takePosition, crane_restSpan] at same
  exact restSpan_eq_self (by rwa [same.order, same.state])

theorem reportPosition_bound {s : State} {x : Crane} (h : (s.crane x).order ≠ none ∨ (s.crane x).state = .syncing)
    (b l : Nat) : s.reportPosition x b l = s.takePosition x b l := by
  rw [State.reportPosition, takePosition_bound h, State.shrunkFrom]
  have kept := narrower_takeInRange (s.reportRange x b l) x (takenBay (s.geometryOf (aisleOf x)) b)
    (takenLevel (s.geometryOf (aisleOf x)) l)
  rw [spanOf_reportRange] at kept
  rw [kept]
  rfl

theorem reportRange_eq (s : State) (x : Crane) (b l : Nat) (hg : 1 ≤ (s.geometryOf (aisleOf x)).levels) :
    s.reportRange x b l = if b ≤ (s.geometryOf (aisleOf x)).bays + 1 ∧ 1 ≤ l ∧ l ≤ (s.geometryOf (aisleOf x)).levels
      then s else s.anomaly x :=
  if_congr (and_congr (takenBay_eq_iff ..) (takenLevel_eq_iff hg l)) rfl rfl

theorem reportRange_in {s : State} {x : Crane} {b l : Nat} (hb : takenBay (s.geometryOf (aisleOf x)) b = b)
    (hl : takenLevel (s.geometryOf (aisleOf x)) l = l) : s.reportRange x b l = s := if_pos ⟨hb, hl⟩

theorem reportRange_out {s : State} {x : Crane} {b l : Nat}
    (h : takenBay (s.geometryOf (aisleOf x)) b ≠ b ∨ takenLevel (s.geometryOf (aisleOf x)) l ≠ l) :
    s.reportRange x b l = s.anomaly x := if_neg (not_and_or.2 h)

theorem takePosition_in {s : State} {x : Crane} {b l : Nat} (hb : takenBay (s.geometryOf (aisleOf x)) b = b)
    (hl : takenLevel (s.geometryOf (aisleOf x)) l = l) : s.takePosition x b l = (s.takeInRange x b l).restSpan x := by
  rw [State.takePosition, reportRange_in hb hl, hb, hl]

/-- The place of a report out of range is taken as the place in range is, after one anomaly more. -/
theorem takePosition_out {s : State} {x : Crane} {b l : Nat}
    (h : takenBay (s.geometryOf (aisleOf x)) b ≠ b ∨ takenLevel (s.geometryOf (aisleOf x)) l ≠ l) :
    s.takePosition x b l = (s.anomaly x).takePosition x (takenBay (s.geometryOf (aisleOf x)) b)
      (takenLevel (s.geometryOf (aisleOf x)) l) := by
  refine .trans ?_ (takePosition_in (s := s.anomaly x) (takenBay_taken ..) (takenLevel_taken ..)).symm
  rw [State.takePosition, reportRange_out h]
  rfl

/-- A crane at rest comes to the single bay of the position it takes (R58, R68). -/
theorem takePosition_rest {s : State} {x : Crane} {bay level b lo hi : Nat}
    (hb : b = takenBay (s.geometryOf (aisleOf x)) bay) (ho : (s.crane x).order = none)
    (hst : (s.crane x).state ∈ [.idle, .queued, .faulted, .lost]) (hs : s.spanOf x = .bays lo hi) :
    ∃ p, ((s.takePosition x bay level).crane x).position = some p
      ∧ (s.takePosition x bay level).spanOf x = .bays p.bay p.bay
      ∧ p.bay = if (lo ≤ b ∧ b ≤ hi) ∨ s.clear x (.bays (min lo b) (max hi b)) then b else if b < lo then lo else hi := by
  generalize hl : takenLevel (s.geometryOf (aisleOf x)) level = l
  have taken : s.takePosition x bay level = ((s.reportRange x bay level).takeInRange x b l).restSpan x := by
    rw [State.takePosition, ← hb, hl]
  have same := sameButPlace_takePosition s x bay level
  rw [taken] at same ⊢
  rw [crane_restSpan] at same ⊢
  have rest {q : Position} {lo' hi' : Nat} (hq : (((s.reportRange x bay level).takeInRange x b l).crane x).position = some q)
      (hs' : ((s.reportRange x bay level).takeInRange x b l).spanOf x = .bays lo' hi') :
      (((s.reportRange x bay level).takeInRange x b l).restSpan x).spanOf x = .bays q.bay q.bay := by
    rw [restSpan_eq (same.order.trans ho) (same.state ▸ hst) hq hs', State.spanOf_setSpan_self]
  have hr := (spanOf_reportRange s x x bay level).trans hs
  obtain ⟨-, none⟩ | ⟨hu, -⟩ | ⟨lo', hi', hs', h⟩ := takeInRange_cases (s.reportRange x bay level) x b l
  · exact absurd hr (none lo hi)
  · cases hu.symm.trans hr
  cases hs'.symm.trans hr
  rw [clear_reportRange] at h
  obtain ⟨hlo, hhi, e⟩ | ⟨out, clear, e⟩ | ⟨out, blocked, e⟩ := h <;> rw [e] at rest ⊢
  · have hq := position_setPosition (s.reportRange x bay level) x b l
    exact ⟨_, hq, rest hq hr, (if_pos (.inl ⟨hlo, hhi⟩)).symm⟩
  · have hq := position_setPosition (s.reportRange x bay level) x b l
    have hq' := (position_anomaly _ x).trans hq
    exact ⟨_, hq', rest hq' (State.spanOf_setSpan_self ..), (if_pos (.inr clear)).symm⟩
  · have hq := (position_anomaly _ x).trans (position_setPosition (s.reportRange x bay level) x (if b < lo then lo else hi) l)
    exact ⟨_, hq, rest hq hr, (if_neg (not_or.2 ⟨out, blocked⟩)).symm⟩

/-- Settles O39: the table of R68 case by case, then the rest of a crane at rest. -/
theorem reportedPositionsTaken : Obligations.ReportedPositionsTaken := by
  refine ⟨fun s x bay level law sep => ?_, fun s x bay level b l g hg bound hb hl hlevels => ⟨fun hbay hlevel => ?_,
    fun out => ?_, reportPosition_bound bound bay level⟩, fun s x bay level g hg hlevels => ?_,
    fun s t x bay level b lo hi shrink ht hb ho hst hs hlo hshrink => ?_⟩
  · have sep' : (s.reportRange x bay level).separatedAt (aisleOf x) := by
      obtain e | e := reportRange_cases s x bay level <;> rw [e] <;> exact sep
    obtain ⟨taken, placed⟩ := takeInRange_separated (b := takenBay (s.geometryOf (aisleOf x)) bay)
      (l := takenLevel (s.geometryOf (aisleOf x)) level) sep' fun lo hi h => (law x lo hi (by simpa using h)).1
    rw [State.takePosition]
    obtain e | ⟨p, lo, hi, hp, hs, e⟩ := restSpan_cases ((s.reportRange x bay level).takeInRange x
      (takenBay (s.geometryOf (aisleOf x)) bay) (takenLevel (s.geometryOf (aisleOf x)) level)) x <;> rw [e]
    · exact taken
    · obtain ⟨hl, hh⟩ := placed lo hi p hs hp
      rw [separatedAt_iff_clear, hs] at taken
      exact (separatedAt_setSpan ..).2 (clear_of_subset taken hl hh)
  · subst hg
    rw [← takenBay_eq] at hb
    rw [← takenLevel_eq hlevels] at hl
    subst hbay hlevel
    rw [takePosition_bound bound, reportRange_in hb.symm hl.symm, ← hb, ← hl, State.takeInRange]
    refine ⟨fun h => by rw [h], fun h => by rw [h], fun lo hi h => by rw [h]⟩
  · subst hg
    rw [← takenBay_eq] at hb
    rw [← takenLevel_eq hlevels] at hl
    subst hb hl
    exact takePosition_out out
  · subst hg
    exact reportRange_eq s x bay level hlevels
  · subst ht
    rw [← takenBay_eq] at hb
    obtain ⟨p, hp, hsp, hbay⟩ := takePosition_rest (level := level) hb ho hst hs
    have shrinks : shrink ↔ narrower (.bays p.bay p.bay) (.bays lo hi) = true := by
      simp only [hshrink, hp, Option.some.injEq, exists_eq_left', narrower, Bool.and_eq_true, decide_eq_true_iff]
      omega
    have reported : s.reportPosition x bay level
        = if narrower (.bays p.bay p.bay) (.bays lo hi) && (s.crane (sibling x)).starved
          then (s.takePosition x bay level).trigger (sibling x) else s.takePosition x bay level := by
      rw [State.reportPosition, State.shrunkFrom, hsp, hs, crane_takePosition_other (sibling_ne x)]
    refine ⟨⟨p, hp, hsp, hbay⟩, fun h starved => reported.trans (if_pos (Bool.and_eq_true_iff.2 ⟨shrinks.1 h, starved⟩)), 
      fun h => reported.trans (if_neg fun both => h ?_)⟩
    obtain ⟨narrow, starved⟩ := Bool.and_eq_true_iff.1 both
    exact ⟨shrinks.2 narrow, starved⟩

end Sys2Proof.Machine

namespace Sys2Proof.Machine

/-! ## What a report leaves of the crane's context -/

theorem engine_takeInRange (s : State) (x : Crane) (b l : Nat) : (s.takeInRange x b l).engine = s.engine := by
  obtain ⟨h, -⟩ | ⟨-, -, h⟩ | ⟨lo, hi, -, ⟨-, -, h⟩ | ⟨-, -, h⟩ | ⟨-, -, h⟩⟩ := takeInRange_cases s x b l <;> rw [h] <;> rfl

theorem engine_takePosition (s : State) (x : Crane) (b l : Nat) : (s.takePosition x b l).engine = s.engine := by
  have ranged : (s.reportRange x b l).engine = s.engine := by
    obtain e | e := reportRange_cases s x b l <;> rw [e] <;> rfl
  rw [State.takePosition, ← ranged, ← engine_takeInRange (s.reportRange x b l)]
  obtain h | ⟨p, lo, hi, -, -, h⟩ := restSpan_cases ((s.reportRange x b l).takeInRange x
    (takenBay (s.geometryOf (aisleOf x)) b) (takenLevel (s.geometryOf (aisleOf x)) l)) x <;> rw [h] <;> rfl

/-- A report leaves an interval an interval. -/
theorem spanOf_takeInRange_bays {s : State} {x : Crane} {lo hi : Nat} (hs : s.spanOf x = .bays lo hi) (b l : Nat) :
    ∃ c d, (s.takeInRange x b l).spanOf x = .bays c d := by
  obtain ⟨h, -⟩ | ⟨-, -, h⟩ | ⟨lo', hi', -, ⟨-, -, h⟩ | ⟨-, -, h⟩ | ⟨-, -, h⟩⟩ := takeInRange_cases s x b l <;> rw [h]
  · exact ⟨lo, hi, hs⟩
  · exact ⟨b, b, State.spanOf_setSpan_self ..⟩
  · exact ⟨lo, hi, hs⟩
  · exact ⟨_, _, State.spanOf_setSpan_self ..⟩
  · exact ⟨lo, hi, hs⟩

theorem spanOf_takePosition_bays {s : State} {x : Crane} {lo hi : Nat} (hs : s.spanOf x = .bays lo hi) (b l : Nat) :
    ∃ c d, (s.takePosition x b l).spanOf x = .bays c d := by
  have ranged := (spanOf_reportRange s x x b l).trans hs
  rw [State.takePosition]
  obtain h | ⟨p, -, -, -, -, h⟩ := restSpan_cases ((s.reportRange x b l).takeInRange x
    (takenBay (s.geometryOf (aisleOf x)) b) (takenLevel (s.geometryOf (aisleOf x)) l)) x <;> rw [h]
  · exact spanOf_takeInRange_bays ranged ..
  · exact ⟨p.bay, p.bay, State.spanOf_setSpan_self ..⟩

/-- A crane that stands in the queue holds a single bay. -/
def State.QueuedAtBay (s : State) (x : Crane) : Prop :=
  ∀ e ∈ s.engine.queue, e.crane = x → ∃ b, s.spanOf x = .bays b b

/-- The trigger of a starved sibling after a report does not reach the crane's own context: a single bay does not shrink. -/
theorem crane_reportPosition {s : State} {x : Crane} (hq : s.QueuedAtBay x) (b l : Nat) :
    (s.reportPosition x b l).crane x = (s.takePosition x b l).crane x := by
  unfold State.reportPosition State.shrunkFrom
  split
  · next shrunk =>
    refine State.crane_trigger_other (sibling_ne x) fun e he hx => ?_
    rw [engine_takePosition] at he
    obtain ⟨c, hc⟩ := hq e he hx
    obtain ⟨lo, hi, h⟩ := spanOf_takePosition_bays hc b l
    rw [h, hc] at shrunk
    simp [narrower] at shrunk
  · rfl

/-! ## A STATUS (R126, R129, R142) -/

theorem namedOrder_eq_some {s : State} {x : Crane} {id : Word16} {o : Order} :
    s.namedOrder x id = some o ↔ (s.crane x).order = some o ∧ o.id = id := by
  unfold State.namedOrder
  cases (s.crane x).order with
  | none => simp
  | some p => by_cases h : p.id = id <;> simp [h] <;> rintro rfl <;> exact h

theorem namedOrder_isSome {s : State} {x : Crane} {id : Word16} :
    (s.namedOrder x id).isSome = true ↔ ∃ o, (s.crane x).order = some o ∧ o.id = id := by
  rw [Option.isSome_iff_exists]
  exact exists_congr fun o => namedOrder_eq_some

theorem countFits_iff (o : Order) (k : Nat) : o.countFits k = true ↔ o.nextLeg ≤ k ∧ k ≤ o.legs.length := by
  simp [Order.countFits]

theorem countAnomaly_eq {s : State} {x : Crane} {id : Word16} {k : Nat} {misfit : Bool}
    (h : misfit = true ↔ ∃ o, (s.crane x).order = some o ∧ o.id = id ∧ (k < o.nextLeg ∨ o.legs.length < k)) :
    s.countAnomaly x id k = if misfit then s.anomaly x else s := by
  unfold State.countAnomaly
  cases hn : s.namedOrder x id with
  | none =>
    refine (if_neg fun m => ?_).symm
    obtain ⟨o, ho, hid, -⟩ := h.1 m
    exact absurd (hn.symm.trans (namedOrder_eq_some.2 ⟨ho, hid⟩)) (by nofun)
  | some o =>
    obtain ⟨ho, hid⟩ := namedOrder_eq_some.1 hn
    by_cases fits : o.countFits k = true
    · refine (if_pos fits).trans (if_neg fun m => ?_).symm
      obtain ⟨p, hp, -, out⟩ := h.1 m
      cases ho.symm.trans hp
      have := (countFits_iff o k).1 fits
      omega
    · refine (if_neg fits).trans (if_pos (h.2 ⟨o, ho, hid, ?_⟩)).symm
      rw [countFits_iff] at fits
      omega

theorem nameAnomaly_eq {s : State} {x : Crane} {id : Word16} {misnamed : Bool}
    (h : misnamed = true ↔ (s.crane x).state ≠ .syncing ∧ id ≠ 0 ∧ ¬∃ o, (s.crane x).order = some o ∧ o.id = id) :
    s.nameAnomaly x id = if misnamed then s.anomaly x else s := by
  unfold State.nameAnomaly
  simp only [namedOrder_isSome, h]
  by_cases c : (∃ o, (s.crane x).order = some o ∧ o.id = id) ∨ id = 0 ∨ (s.crane x).state = .syncing
  · rw [if_pos c, if_neg fun m => c.elim m.2.2 fun d => d.elim m.2.1 m.1]
  · rw [if_neg c, if_pos ⟨fun e => c (.inr (.inr e)), fun e => c (.inr (.inl e)), fun e => c (.inl e)⟩]

/-- The anomalies of a STATUS: one for a count that does not fit or for an id that names nothing, never both. -/
theorem statusAnomalies_eq {s : State} {x : Crane} {mode : StatusMode} {id : Word16} {k : Nat} {misfit misnamed : Bool}
    (hfit : misfit = true ↔ ∃ o, (s.crane x).order = some o ∧ o.id = id ∧ (k < o.nextLeg ∨ o.legs.length < k))
    (hname : misnamed = true ↔ mode ≠ .busy ∧ (s.crane x).state ≠ .syncing ∧ id ≠ 0
      ∧ ¬∃ o, (s.crane x).order = some o ∧ o.id = id) :
    s.statusAnomalies x mode id k = if misfit || misnamed then s.anomaly x else s := by
  have counted := countAnomaly_eq hfit
  have named (hm : mode ≠ .busy) :
      (s.countAnomaly x id k).nameAnomaly x id = if misfit || misnamed then s.anomaly x else s := by
    cases misfit with
    | true =>
      obtain ⟨o, ho, hid, -⟩ := hfit.1 rfl
      have same := sameButPlace_anomaly s x
      rw [counted, if_pos rfl, nameAnomaly_eq (misnamed := false)]
      · rfl
      · rw [same.order]
        exact ⟨by nofun, fun m => absurd ⟨o, ho, hid⟩ m.2.2⟩
    | false =>
      rw [counted, if_neg (by nofun), nameAnomaly_eq (hname.trans (and_iff_right hm))]
      rfl
  cases mode with
  | busy =>
    have : misnamed = false := Bool.eq_false_iff.2 fun m => (hname.1 m).1 rfl
    rw [this, Bool.or_false]
    exact counted
  | idle => exact named (by nofun)
  | fault => exact named (by nofun)

/-- The state with the anomalies of a STATUS counted and its position and load aboard value taken. -/
def State.statusTaken (s : State) (x : Crane) (mode : StatusMode) (id : Word16) (k : Nat) (bay level : Byte)
    (aboard : Bool) : State :=
  ((s.statusAnomalies x mode id k).statusPosition x mode bay level).takeAboard x aboard

end Sys2Proof.Machine

namespace Sys2Proof.Machine

/-! ## The rows of a STATUS by the crane's state (R126, R142) -/

theorem exec_status {s : State} {x : Crane} (h : (s.crane x).state ≠ .offline) (mode : StatusMode) (id : Word16)
    (n bay level : Byte) (aboard : Bool) :
    exec (.status x mode id n bay level aboard) s
      = .next ((s.setSilence x 0).takeStatus x mode id n.toNat bay level aboard) :=
  congrArg _ (if_pos ((s.enrolled_iff x).2 h))

section
variable {s : State} {x : Crane}

theorem takeStatus_syncing (h : (s.crane x).state = .syncing) (mode : StatusMode) (id : Word16) (k : Nat)
    (bay level : Byte) (aboard : Bool) :
    s.takeStatus x mode id k bay level aboard = (s.statusTaken x mode id k bay level aboard).statusSyncing x mode aboard := by
  simp only [State.takeStatus, h]
  rfl

theorem takeStatus_awaitYield (h : (s.crane x).state = .awaitYield) (mode : StatusMode) (id : Word16) (k : Nat)
    (bay level : Byte) (aboard : Bool) :
    s.takeStatus x mode id k bay level aboard = (s.statusAnomalies x mode id k).statusWaiting x mode bay level aboard := by
  simp only [State.takeStatus, h]

theorem takeStatus_free (h : (s.crane x).state = .idle ∨ (s.crane x).state = .queued) (ho : (s.crane x).order = none)
    (mode : StatusMode) (id : Word16) (k : Nat) (bay level : Byte) (aboard : Bool) :
    s.takeStatus x mode id k bay level aboard = (s.statusTaken x mode id k bay level aboard).statusFree x mode aboard := by
  obtain h | h := h <;> simp only [State.takeStatus, h, ho] <;> rfl

theorem takeStatus_order {o : Order} (h : (s.crane x).state ∈ [.ordered, .running, .yielding, .homing])
    (ho : (s.crane x).order = some o) (mode : StatusMode) (id : Word16) (k : Nat) (bay level : Byte) (aboard : Bool) :
    s.takeStatus x mode id k bay level aboard
      = (s.statusTaken x mode id k bay level aboard).statusOrder x o mode (s.namedOrder x id).isSome k := by
  simp only [List.mem_cons, List.not_mem_nil, or_false] at h
  obtain h | h | h | h := h <;> simp only [State.takeStatus, h, ho] <;> rfl

theorem takeStatus_faultedOrder {o : Order} (h : (s.crane x).state = .faulted) (ho : (s.crane x).order = some o)
    (mode : StatusMode) (id : Word16) (k : Nat) (bay level : Byte) (aboard : Bool) :
    s.takeStatus x mode id k bay level aboard
      = (s.statusTaken x mode id k bay level aboard).statusFaultedOrder x o mode (s.namedOrder x id).isSome k := by
  simp only [State.takeStatus, h, ho]
  rfl

theorem takeStatus_faultedFree (h : (s.crane x).state = .faulted) (ho : (s.crane x).order = none)
    (mode : StatusMode) (id : Word16) (k : Nat) (bay level : Byte) (aboard : Bool) :
    s.takeStatus x mode id k bay level aboard
      = (s.statusTaken x mode id k bay level aboard).statusFaultedFree x mode aboard := by
  simp only [State.takeStatus, h, ho]
  rfl

/-- The position of a STATUS changes nothing else of the crane's context. -/
theorem sameButPlace_statusPosition (hq : s.QueuedAtBay x) (mode : StatusMode) (bay level : Byte) :
    ((s.statusPosition x mode bay level).crane x).SameButPlace (s.crane x) := by
  unfold State.statusPosition
  split
  · obtain e | e := reportRange_cases s x bay.toNat level.toNat <;> rw [e]
    · exact .refl _
    · exact sameButPlace_anomaly s x
  · rw [crane_reportPosition hq]
    exact sameButPlace_takePosition ..

/-- The report of a STATUS, with an anomaly or without, keeps the crane's order and its state. -/
theorem context_statusReport {g : State} (hq : s.QueuedAtBay x) (hg : g = s ∨ g = s.anomaly x) (mode : StatusMode)
    (bay level : Byte) (aboard : Bool) :
    (((g.statusPosition x mode bay level).takeAboard x aboard).crane x).order = (s.crane x).order
      ∧ (((g.statusPosition x mode bay level).takeAboard x aboard).crane x).state = (s.crane x).state := by
  have counted : (g.crane x).SameButPlace (s.crane x) := by
    obtain e | e := hg <;> rw [e]
    · exact .refl _
    · exact sameButPlace_anomaly s x
  have hq' : g.QueuedAtBay x := by
    obtain e | e := hg <;> rw [e] <;> exact hq
  have reported := (sameButPlace_statusPosition hq' mode bay level).trans counted
  rw [State.takeAboard, State.crane_modCrane_self]
  exact ⟨reported.order, reported.state⟩

/-! ## What each row does -/

theorem settleIdle_eq (h : (s.crane x).state ≠ .lost) :
    s.settleIdle x = if s.spanOf x = .unknown then s else ((s.spanToPosition x).setIdle x).idleTriggers x := by
  unfold State.settleIdle
  rw [if_neg h]
  rfl

theorem loadAboard_syncing (h : (s.crane x).state = .syncing) :
    s.loadAboard x = (s.spanToPosition x).enterFaulted x .loadAboard := by
  simp only [State.loadAboard, h]

theorem applyFault_syncing (h : (s.crane x).state = .syncing) (k : Nat) :
    s.applyFault x k = (s.spanToPosition x).enterFaulted x .fault := by
  simp only [State.applyFault, h]

/-- STATUS from an IDLE crane (R142). -/
theorem statusFree_idle (h : (s.crane x).state = .idle) (mode : StatusMode) (aboard : Bool) :
    s.statusFree x mode aboard = match mode, aboard with
      | .idle, false => s
      | .idle, true => (s.setCraneState x .faulted).craneStateEvent x .loadAboard
      | .busy, _ => ((s.anomaly x).loseSight x).setCraneState x .syncing
      | .fault, _ => (s.setCraneState x .faulted).craneStateEvent x .fault := by
  have counted : ((s.anomaly x).crane x).state = .idle := (sameButPlace_anomaly s x).state.trans h
  cases mode
  case idle =>
    cases aboard
    · rfl
    · simp only [State.statusFree, State.loadAboard, h]
      rfl
  case busy => simp only [State.statusFree, State.busyUnknown, counted]
  case fault =>
    simp only [State.statusFree, State.applyFault, h]
    rfl

/-- STATUS from a QUEUED crane (R142). -/
theorem statusFree_queued (h : (s.crane x).state = .queued) (mode : StatusMode) (aboard : Bool) :
    s.statusFree x mode aboard = match mode, aboard with
      | .idle, false => s
      | .idle, true => ((s.setCraneState x .faulted).craneStateEvent x .loadAboard).leaveEngine x
      | .busy, _ => (((s.anomaly x).loseSight x).setCraneState x .syncing).leaveEngine x
      | .fault, _ => ((s.setCraneState x .faulted).craneStateEvent x .fault).leaveEngine x := by
  have counted : ((s.anomaly x).crane x).state = .queued := (sameButPlace_anomaly s x).state.trans h
  cases mode
  case idle =>
    cases aboard
    · rfl
    · simp only [State.statusFree, State.loadAboard, h]
      rfl
  case busy => simp only [State.statusFree, State.busyUnknown, counted]
  case fault =>
    simp only [State.statusFree, State.applyFault, h]
    rfl

/-! ## The starts, the legs and the ends that the rows use -/

theorem upd_get_eq {α : Type} {n : Nat} (v : Vector α n) (i : Fin n) : upd v i (v.get i) = v := by
  refine Vector.ext fun j hj => ?_
  simp [upd, Vector.get_eq_getElem]

theorem upd_upd {α : Type} {n : Nat} (v : Vector α n) (i : Fin n) (a b : α) : upd (upd v i a) i b = upd v i b := by
  refine Vector.ext fun j hj => ?_
  simp [upd, Vector.getElem_set]

theorem setCrane_eq_self (s : State) (x : Crane) : s.setCrane x (s.crane x) = s := by
  rw [State.setCrane, State.crane, upd_get_eq]

theorem setCrane_setCrane (s : State) (x : Crane) (c d : CraneCtx) : (s.setCrane x c).setCrane x d = s.setCrane x d := by
  unfold State.setCrane
  simp only [upd_upd]

theorem markTo_zero (o : Order) : o.markTo 0 = o := by
  have legs : (o.legs.mapIdx fun i l => if i < 0 then l.mark else l) = o.legs :=
    List.ext_getElem (by simp) (by simp)
  rw [Order.markTo, legs, Nat.max_zero]

/-- No leg is marked by a count of 0. -/
theorem markLegs_zero (s : State) (x : Crane) : s.markLegs x 0 = s := by
  refine Eq.trans (congrArg (s.setCrane x) ?_) (setCrane_eq_self s x)
  dsimp only
  split
  · rfl
  · next o ho =>
    rw [markTo_zero, Order.legsTo, List.take_zero, List.drop_nil, List.foldl_nil, ← ho]

/-- The state of a crane whose suspended order resumes is that of its order's kind (R124). -/
theorem stateOfKind_resumed (k : OrderKind) (st : OrderState) :
    stateOfKind k (if st = .suspended then .running else st) = match k, st with
      | .yield, _ => .yielding
      | .home, _ => .homing
      | .job, .suspended => .running
      | .job, .running => .running
      | .job, .awaitYield => .awaitYield
      | .job, _ => .ordered := by
  cases k <;> cases st <;> rfl

variable {o : Order} (ho : (s.crane x).order = some o)
include ho

theorem startIfSent_start (h : o.state = .sent ∨ o.state = .revoking) : s.startIfSent x = s.startOrder x true := by
  simp only [State.startIfSent, ho, if_pos h]

theorem startIfSent_eq_self (h : o.state ≠ .sent) (k : o.state ≠ .revoking) : s.startIfSent x = s := by
  simp only [State.startIfSent, ho, if_neg (not_or.2 ⟨h, k⟩)]

theorem suspendOrder_eq : s.suspendOrder x = s.setCrane x { s.crane x with
    order := some { o with
      state := .suspended, legs := o.legs.modify o.nextLeg fun l => { l with valid := false } } } := by
  simp only [State.suspendOrder, State.modOrder, State.modCrane, ho, Option.map_some]
  rfl

theorem markLegs_eq (k : Nat) : s.markLegs x k = s.setCrane x { s.crane x with
    aboard := ((o.legs.take k).drop o.nextLeg).foldl
      (fun b l => match l.action with | .pick => .yes | .drop => .no | .stay => b) (s.crane x).aboard
    order := some { o with
      legs := o.legs.mapIdx fun i l => if i < k then { l with done := true } else l
      nextLeg := max o.nextLeg k } } := by
  simp only [State.markLegs, State.modCrane, ho]
  rfl

theorem markCount_eq (k : Nat) :
    s.markCount x k = if o.nextLeg ≤ k ∧ k ≤ o.legs.length then s.markLegs x k else s := by
  simp only [State.markCount, ho]
  exact if_congr (countFits_iff o k) rfl rfl

theorem partnerOf_eq : s.partnerOf x = o.yieldPartner := by
  rw [State.partnerOf, ho]
  rfl

theorem failYield_none (h : o.yieldPartner = none) : s.failYield x = s := by
  rw [State.failYield, partnerOf_eq ho, h]
  rfl

theorem failYield_some {w : Crane} (h : o.yieldPartner = some w) :
    s.failYield x = ((s.discardWaiting w).setIdle w).idleTriggers w := by
  rw [State.failYield, partnerOf_eq ho, h]
  rfl

/-- The end of a fault for a crane with an order (R143). -/
theorem clearFault_order (c : StateCause) :
    s.clearFault x c = (s.setCrane x { s.crane x with
      order := some (if o.state = .suspended then { o with state := .running } else o)
      state := stateOfKind o.kind (if o.state = .suspended then .running else o.state) }).craneStateEvent x c := by
  simp only [State.clearFault, ho, State.modOrder, State.setCraneState, State.modCrane, State.crane_setCrane_self,
    setCrane_setCrane, Option.map_some]
  by_cases h : o.state = .suspended
  · rw [if_pos h, if_pos h]
  · rw [if_neg h, if_neg h]

/-- A FAULT mode with no count in force suspends a RUNNING order and leaves another as it stands (R141, R142). -/
theorem applyFault_order (h : (s.crane x).state ∈ [.ordered, .running, .yielding, .homing]) :
    s.applyFault x 0 = (((if o.state = .running then s.suspendOrder x else s).setCraneState x .faulted).craneStateEvent x
      .fault).failYield x := by
  have row : s.applyFault x 0 = if o.state = .running ∨ 1 ≤ 0 then
        ((((s.startIfSent x).markLegs x 0).suspendOrder x).enterFaulted x .fault).failYield x
      else (s.enterFaulted x .fault).failYield x := by
    simp only [List.mem_cons, List.not_mem_nil, or_false] at h
    obtain h | h | h | h := h <;> simp only [State.applyFault, h, ho]
  rw [row, markLegs_zero]
  by_cases hr : o.state = .running
  · rw [if_pos (.inl hr), if_pos hr, startIfSent_eq_self ho (by rw [hr]; nofun) (by rw [hr]; nofun)]
    rfl
  · rw [if_neg (not_or.2 ⟨hr, by decide⟩), if_neg hr]
    rfl

/-! ## An ORDER LOST abandon (R145) -/

theorem orderLostIdle_none (h : o.yieldPartner = none) :
    s.orderLostIdle x = ((((s.giveUp x).setCraneState x .idle).craneStateEvent x .orderLost).idleTriggers x) := by
  rw [State.orderLostIdle, partnerOf_eq ho, h]
  rfl

theorem orderLostSyncing_none (h : o.yieldPartner = none) :
    s.orderLostSyncing x = ((((s.giveUp x).loseSight x).setCraneState x .syncing).craneStateEvent x .orderLost) := by
  rw [State.orderLostSyncing, partnerOf_eq ho, h]
  rfl

theorem orderLostIdle_some {w : Crane} (h : o.yieldPartner = some w) :
    s.orderLostIdle x = ((((((s.discardWaiting w).setIdle w).giveUp x).setCraneState x .idle).craneStateEvent x
      .orderLost).idleTriggers w).idleTriggers x := by
  rw [State.orderLostIdle, partnerOf_eq ho, h]
  rfl

theorem orderLostSyncing_some {w : Crane} (h : o.yieldPartner = some w) :
    s.orderLostSyncing x = ((((((s.discardWaiting w).setIdle w).giveUp x).loseSight x).setCraneState x
      .syncing).craneStateEvent x .orderLost).idleTriggers w := by
  rw [State.orderLostSyncing, partnerOf_eq ho, h]
  rfl

end

/-- Settles O51: each row of a STATUS by what its row function does, on the state with the report taken. -/
theorem statusesAreTaken : Obligations.StatusesAreTaken := by
  intro x mode id n bay level aboard s h g t named misfit misnamed queued hnamed hmisfit hmisnamed hh hg ht
  have anomalies : h.statusAnomalies x mode id n.toNat = g := by
    rw [hg]
    refine statusAnomalies_eq ?_ ?_ <;> subst hh
    · exact hmisfit
    · rw [hmisnamed, ← Bool.not_eq_true, hnamed]
      rfl
  have naming : (h.namedOrder x id).isSome = named := by
    rw [Bool.eq_iff_iff, namedOrder_isSome, hnamed, hh]
    rfl
  have gcases : g = h ∨ g = h.anomaly x := hg ▸ (ite_eq_or_eq ..).symm
  have gspan : g.spanOf x = s.spanOf x := by
    obtain e | e := gcases <;> rw [e, hh] <;> rfl
  have told : t = (g.statusPosition x mode bay level).takeAboard x aboard := by
    rw [ht, State.statusPosition, gspan]
    rfl
  have taken : h.statusTaken x mode id n.toNat bay level aboard = t := by rw [told, State.statusTaken, anomalies]
  have hcrane : h.crane x = s.crane x := by
    rw [hh]
    rfl
  obtain ⟨order, state⟩ := context_statusReport (s := h) (hh ▸ queued) gcases mode bay level aboard
  rw [← told, hcrane] at order state
  have heard (hs : (s.crane x).state ≠ .offline) :
      exec (.status x mode id n bay level aboard) s = .next (h.takeStatus x mode id n.toNat bay level aboard) := by
    rw [exec_status hs, hh]
  refine ⟨fun hs => ?_, fun hs ho => ?_, fun hs ho => ?_, fun hs => ?_, fun o ho hs => ?_, fun o hs ho => ?_, fun hs ho => ?_,
    fun o ho => ?_, fun ho => ?_, fun o ho => markCount_eq ho n.toNat, fun o w ho hw z hz => ?_, fun o ho hw => ?_⟩
  · have syncing := state.trans hs
    rw [heard (by rw [hs]; nofun), takeStatus_syncing (by rw [hcrane, hs]), taken]
    refine ⟨?_, ?_, ?_, ?_⟩
    · rintro rfl
      rfl
    · rintro rfl rfl
      exact congrArg _ (settleIdle_eq (by rw [syncing]; nofun))
    · rintro rfl rfl
      exact congrArg _ (loadAboard_syncing syncing)
    · rintro rfl
      exact congrArg _ (applyFault_syncing syncing 0)
  · rw [heard (by rw [hs]; nofun), takeStatus_free (by rw [hcrane]; exact .inl hs) (by rw [hcrane, ho]), taken,
      statusFree_idle (state.trans hs)] <;> rfl
  · rw [heard (by rw [hs]; nofun), takeStatus_free (by rw [hcrane]; exact .inr hs) (by rw [hcrane, ho]), taken,
      statusFree_queued (state.trans hs)] <;> rfl
  · rw [heard (by rw [hs]; nofun), takeStatus_awaitYield (by rw [hcrane, hs]), anomalies]
    refine ⟨?_, ?_, ?_⟩ <;> rintro rfl <;> rfl
  · have ho' := order.trans ho
    rw [heard (fun e => absurd (e ▸ hs) (by decide)), takeStatus_order (by rwa [hcrane]) (by rw [hcrane, ho]), taken, naming]
    refine ⟨?_, ?_, ?_, ?_⟩
    · rintro rfl
      rfl
    · rintro rfl rfl
      rfl
    · rintro rfl rfl
      rfl
    · rintro rfl
      exact congrArg _ (applyFault_order ho' (by rwa [state]))
  · rw [heard (by rw [hs]; nofun), takeStatus_faultedOrder (by rw [hcrane, hs]) (by rw [hcrane, ho]), taken, naming]
    refine ⟨?_, ?_, ?_, ?_⟩
    · rintro rfl
      rfl
    · rintro rfl rfl
      rfl
    · rintro rfl rfl
      rfl
    · rintro rfl
      rfl
  · rw [heard (by rw [hs]; nofun), takeStatus_faultedFree (by rw [hcrane, hs]) (by rw [hcrane, ho]), taken]
    rfl
  · refine ⟨startIfSent_start ho, startIfSent_eq_self ho, suspendOrder_eq ho, markLegs_eq ho, failYield_none ho,
      fun w => failYield_some ho, ?_⟩
    rw [clearFault_order ho, stateOfKind_resumed] <;> rfl
  · simp only [State.clearFault, ho]
  · subst hz
    exact ⟨orderLostIdle_some ho hw, orderLostSyncing_some ho hw⟩
  · exact ⟨orderLostIdle_none ho hw, orderLostSyncing_none ho hw⟩

end Sys2Proof.Machine

namespace Sys2Proof.Machine

/-! ## What leaves the job pool as it is

Only the jobs' own operations change the pool. The engine, the spans, the crane contexts, the lanes, the table and the notices
leave it: one lemma for each of their operations, in the order of the model. -/

namespace State

variable (s : State)

/-! ### Notices, spans and positions -/

@[simp] theorem raise_pool (e : Event) : (s.raise e).pool = s.pool := rfl

@[simp] theorem holdChanged_pool : s.holdChanged.pool = s.pool := rfl

@[simp] theorem craneStateEvent_pool (x : Crane) (c : StateCause) : (s.craneStateEvent x c).pool = s.pool := rfl

@[simp] theorem restSpan_pool (x : Crane) : (s.restSpan x).pool = s.pool := by
  obtain h | ⟨p, lo, hi, -, -, h⟩ := restSpan_cases s x <;> rw [h]
  rfl

@[simp] theorem takeInRange_pool (x : Crane) (b l : Nat) : (s.takeInRange x b l).pool = s.pool := by
  obtain ⟨h, -⟩ | ⟨-, -, h⟩ | ⟨lo, hi, -, ⟨-, -, h⟩ | ⟨-, -, h⟩ | ⟨-, -, h⟩⟩ := takeInRange_cases s x b l <;> rw [h] <;> rfl

@[simp] theorem reportRange_pool (x : Crane) (b l : Nat) : (s.reportRange x b l).pool = s.pool := by
  obtain h | h := reportRange_cases s x b l <;> rw [h]
  rfl

@[simp] theorem takePosition_pool (x : Crane) (b l : Nat) : (s.takePosition x b l).pool = s.pool := by
  simp [takePosition]

@[simp] theorem loseSight_pool (x : Crane) : (s.loseSight x).pool = s.pool := rfl

/-! ### The engine -/

@[simp] theorem placeOrder_pool (x : Crane) (o : Order) : (s.placeOrder x o).pool = s.pool := rfl

@[simp] theorem sendOrder_pool (x : Crane) : (s.sendOrder x).pool = s.pool := by
  unfold sendOrder
  split <;> rfl

@[simp] theorem claimSpan_pool (x : Crane) (p : Option Position) (ps : List Place) : (s.claimSpan x p ps).pool = s.pool := by
  cases p <;> rfl

@[simp] theorem createHome_pool (x : Crane) : (s.createHome x).pool = s.pool := by
  simp [createHome]

@[simp] theorem startPass_pool (x : Crane) (n : Nat) (note : Bool) : (s.startPass x n note).pool = s.pool := rfl

@[simp] theorem dequeue_pool (x : Crane) : (s.dequeue x).pool = s.pool := rfl

@[simp] theorem engineTake_pool (n : Nat) : (engineTake n s).pool = s.pool := by
  induction n generalizing s with
  | zero => rfl
  | succ n ih =>
    unfold engineTake
    split
    · split
      · rw [ih, createHome_pool, dequeue_pool]
      · rfl
    · rfl

@[simp] theorem engineRun_pool : s.engineRun.pool = s.pool := engineTake_pool _ _

@[simp] theorem enqueue_pool (x : Crane) : (s.enqueue x).pool = s.pool := by
  simp [enqueue]

@[simp] theorem noteTrigger_pool (x : Crane) : (s.noteTrigger x).pool = s.pool := by
  unfold noteTrigger
  split
  · split <;> rfl
  · rfl

@[simp] theorem trigger_pool (x : Crane) : (s.trigger x).pool = s.pool := by
  unfold trigger
  split
  · split <;> simp
  · simp
  · rfl

@[simp] theorem triggerAll_pool (xs : List Crane) : (s.triggerAll xs).pool = s.pool := by
  unfold triggerAll
  induction xs generalizing s with
  | nil => rfl
  | cons x xs ih => rw [List.foldl_cons, ih, trigger_pool]

@[simp] theorem triggerAisle_pool (a : Aisle) : (s.triggerAisle a).pool = s.pool := by
  simp [triggerAisle]

@[simp] theorem shrunkFrom_pool (x : Crane) (old : Span) : (s.shrunkFrom x old).pool = s.pool := by
  unfold shrunkFrom
  split <;> simp

@[simp] theorem changeSpan_pool (x : Crane) (sp : Span) : (s.changeSpan x sp).pool = s.pool := by
  simp [changeSpan]

@[simp] theorem reportPosition_pool (x : Crane) (b l : Nat) : (s.reportPosition x b l).pool = s.pool := by
  simp [reportPosition]

@[simp] theorem spanToPosition_pool (x : Crane) : (s.spanToPosition x).pool = s.pool := by
  unfold spanToPosition
  split <;> simp

@[simp] theorem setIdle_pool (x : Crane) : (s.setIdle x).pool = s.pool := by
  unfold setIdle
  dsimp only
  split <;> rfl

@[simp] theorem idleTriggers_pool (x : Crane) : (s.idleTriggers x).pool = s.pool := by
  simp [idleTriggers]

@[simp] theorem becomeIdle_pool (x : Crane) : (s.becomeIdle x).pool = s.pool := by
  simp [becomeIdle]

@[simp] theorem leaveEngine_pool (x : Crane) : (s.leaveEngine x).pool = s.pool := by
  unfold leaveEngine
  split <;> simp

@[simp] theorem afterRelease_pool (xs : List Crane) : (s.afterRelease xs).pool = s.pool := by
  simp [afterRelease]

@[simp] theorem autoRelease_pool : s.autoRelease.pool = s.pool := by
  unfold autoRelease
  split
  · rw [afterRelease_pool]
    rfl
  · rfl

@[simp] theorem hearHost_pool : s.hearHost.pool = s.pool := autoRelease_pool _

/-! ### The watch, the lanes and the table -/

@[simp] theorem watch_pool (old new : Nat) : (s.watch old new).pool = s.pool := by
  unfold watch
  split
  · split <;> rfl
  · rfl

@[simp] theorem lowerLane_pool (l : Option (LaneNo × Word16)) : (s.lowerLane l).pool = s.pool := by
  unfold lowerLane
  split <;> rfl

@[simp] theorem raiseLane_pool (l : Option (LaneNo × Word16)) : (s.raiseLane l).pool = s.pool := by
  unfold raiseLane
  split <;> rfl

@[simp] theorem deliverOnly_pool (l : LaneNo) (d : Word16) : (s.deliverOnly l d).pool = s.pool := by
  unfold deliverOnly
  dsimp only
  split <;> rfl

@[simp] theorem deliver_pool (l : LaneNo) (d : Word16) : (s.deliver l d).pool = s.pool := by
  unfold deliver
  split <;> simp

@[simp] theorem revertEntries_pool (o : Order) : (s.revertEntries o).pool = s.pool := rfl

/-! ### Orders and crane contexts -/

@[simp] theorem accumulate_pool (x : Crane) (m n : Nat) : (s.accumulate x m n).pool = s.pool := by
  unfold accumulate
  dsimp only
  split <;> rfl

@[simp] theorem capture_pool (x : Crane) : (s.capture x).pool = s.pool := rfl

@[simp] theorem markLegs_pool (x : Crane) (k : Nat) : (s.markLegs x k).pool = s.pool := rfl

@[simp] theorem measureLeg_pool (x : Crane) : (s.measureLeg x).pool = s.pool := by
  unfold measureLeg
  split
  · rfl
  · split
    · dsimp only
      split <;> simp
    · rfl
    · rfl

@[simp] theorem narrowSpan_pool (x : Crane) : (s.narrowSpan x).pool = s.pool := by
  unfold narrowSpan
  split <;> simp

@[simp] theorem takeKindState_pool (x : Crane) : (s.takeKindState x).pool = s.pool := by
  unfold takeKindState
  split
  · rfl
  · dsimp only
    split <;> rfl

@[simp] theorem enterFaulted_pool (x : Crane) (c : StateCause) : (s.enterFaulted x c).pool = s.pool := rfl

@[simp] theorem dropOrder_pool (x : Crane) : (s.dropOrder x).pool = s.pool := rfl

@[simp] theorem releasedTriggers_pool (w : Option Crane) : (s.releasedTriggers w).pool = s.pool := by
  cases w
  · rfl
  · exact idleTriggers_pool _ _

@[simp] theorem idleAfter_pool (w : Option Crane) (y : Crane) : (s.idleAfter w y).pool = s.pool := by
  simp [idleAfter]

@[simp] theorem endDone_pool (x : Crane) (w : Option Crane) : (s.endDone x w).pool = s.pool := by
  simp [endDone]

@[simp] theorem sendWaiting_pool (w : Crane) : (s.sendWaiting w).pool = s.pool := by
  simp [sendWaiting]

@[simp] theorem endDeclined_pool (x : Crane) (w : Option Crane) : (s.endDeclined x w).pool = s.pool := by
  unfold endDeclined
  dsimp only
  split <;> simp

@[simp] theorem endRevoked_pool (x : Crane) : (s.endRevoked x).pool = s.pool := by
  unfold endRevoked
  dsimp only
  repeat' split
  all_goals simp

@[simp] theorem clearFault_pool (x : Crane) (c : StateCause) : (s.clearFault x c).pool = s.pool := by
  unfold clearFault
  split
  · rfl
  · split <;> simp

@[simp] theorem unsettled_pool (x : Crane) : (s.unsettled x).pool = s.pool := by
  unfold unsettled
  dsimp only
  split <;> rfl

@[simp] theorem notTaken_pool (x : Crane) : (s.notTaken x).pool = s.pool := by
  unfold notTaken
  split <;> simp

@[simp] theorem markLegDone_pool (x : Crane) (o : Order) (i : Nat) (b l : Byte) : (s.markLegDone x o i b l).pool = s.pool := by
  unfold markLegDone
  split
  · rfl
  · dsimp only
    split <;> simp

@[simp] theorem countAnomaly_pool (x : Crane) (id : Word16) (k : Nat) : (s.countAnomaly x id k).pool = s.pool := by
  unfold countAnomaly
  split
  · split <;> rfl
  · rfl

@[simp] theorem nameAnomaly_pool (x : Crane) (id : Word16) : (s.nameAnomaly x id).pool = s.pool := by
  unfold nameAnomaly
  split <;> rfl

@[simp] theorem statusAnomalies_pool (x : Crane) (m : StatusMode) (id : Word16) (k : Nat) :
    (s.statusAnomalies x m id k).pool = s.pool := by
  cases m <;> simp [statusAnomalies]

@[simp] theorem takeAboard_pool (x : Crane) (aboard : Bool) : (s.takeAboard x aboard).pool = s.pool := rfl

@[simp] theorem settleIdle_pool (x : Crane) : (s.settleIdle x).pool = s.pool := by
  unfold settleIdle
  split
  · split <;> rfl
  · simp

@[simp] theorem loadAboard_pool (x : Crane) : (s.loadAboard x).pool = s.pool := by
  unfold loadAboard
  split <;> simp

@[simp] theorem markCount_pool (x : Crane) (k : Nat) : (s.markCount x k).pool = s.pool := by
  unfold markCount
  split
  · rfl
  · split <;> rfl

@[simp] theorem busyUnknown_pool (x : Crane) : (s.busyUnknown x).pool = s.pool := by
  unfold busyUnknown
  split <;> simp

@[simp] theorem statusFaultedFree_pool (x : Crane) (m : StatusMode) (aboard : Bool) :
    (s.statusFaultedFree x m aboard).pool = s.pool := by
  unfold statusFaultedFree
  split <;> simp

@[simp] theorem statusPosition_pool (x : Crane) (m : StatusMode) (b l : Byte) : (s.statusPosition x m b l).pool = s.pool := by
  unfold statusPosition
  split <;> simp

@[simp] theorem takeFaultClear_pool (x : Crane) (b l : Byte) : (s.takeFaultClear x b l).pool = s.pool := by
  unfold takeFaultClear
  dsimp only
  split <;> simp

/-! ### Passes, the clocks and the lines -/

@[simp] theorem setStage_pool (p : Pass) (st : Stage) : (s.setStage p st).pool = s.pool := rfl

@[simp] theorem noSpares_pool (p : Pass) : (s.noSpares p).pool = s.pool := by
  unfold noSpares
  split <;> rfl

@[simp] theorem considerRetrieve_pool (p : Pass) (j : Job) (a : Slot) (store : Option StorePick) (best : Option RetrievePick) :
    (s.considerRetrieve p j a store best).pool = s.pool := by
  unfold considerRetrieve
  dsimp only
  repeat' split
  all_goals simp

@[simp] theorem dispatchSent_pool (x : Crane) (r : PassResult) : (s.dispatchSent x r).pool = s.pool := by
  simp [dispatchSent]

@[simp] theorem sendYield_pool (p : Pass) (x y : Crane) (t : Nat) : (s.sendYield p x y t).pool = s.pool := by
  unfold sendYield
  split <;> simp

@[simp] theorem dispatchWaiting_pool (p : Pass) (x : Crane) (t : Nat) (r : PassResult) :
    (s.dispatchWaiting p x t r).pool = s.pool := by
  simp [dispatchWaiting]

@[simp] theorem endStarved_pool (p : Pass) : (s.endStarved p).pool = s.pool := by
  unfold endStarved
  dsimp only
  split <;> simp

@[simp] theorem putAside_pool (p : Pass) : (s.putAside p).pool = s.pool := engineRun_pool _

@[simp] theorem rerun_pool (p : Pass) : (s.rerun p).pool = s.pool := by
  unfold rerun
  split <;> simp

@[simp] theorem countSilence_pool (x : Crane) : (s.countSilence x).pool = s.pool := by
  unfold countSilence
  split <;> rfl

@[simp] theorem poll_pool (before : Crane → Nat) : (s.poll before).pool = s.pool := by
  unfold poll
  split <;> rfl

@[simp] theorem serviceHost_pool : s.serviceHost.pool = s.pool := by
  unfold serviceHost
  split <;> rfl

@[simp] theorem transmitted_pool : s.transmitted.pool = s.pool := by
  unfold transmitted
  split <;> rfl

end State

end Sys2Proof.Machine

namespace Sys2Proof.Machine

/-! ## The law of the pool (R20, R21)

The law reads of each job its tag, its pallet and its station alone. A change of jobs that keeps these three, or drops jobs,
keeps the law, and only an admission adds a job. -/

/-- What the law of the pool reads of a job. -/
def Job.identity (j : Job) : Word32 × Word32 × Option Station := (j.tag, j.pallet, j.station?)

namespace Job

variable (j : Job)

@[simp] theorem identity_setChosen (c : Option Slot) : (j.setChosen c).identity = j.identity := by
  obtain ⟨_, _, _, _, _, _, _, _ | _⟩ := j <;> rfl

@[simp] theorem identity_setStalled (b : Bool) : (j.setStalled b).identity = j.identity := by
  obtain ⟨_, _, _, _, _, _, _, _ | _⟩ := j <;> rfl

@[simp] theorem identity_setCandidates (c : List Slot) : (j.setCandidates c).identity = j.identity := by
  obtain ⟨_, _, _, _, _, _, _, _ | _⟩ := j <;> rfl

@[simp] theorem identity_clearBlocker (pallet : Word32) : (j.clearBlocker pallet).identity = j.identity := by
  obtain ⟨_, _, _, _, _, _, _, _ | _⟩ := j
  · rfl
  · unfold clearBlocker
    dsimp only
    split <;> rfl

@[simp] theorem identity_declined (n : Nat) (st : JobState) :
    ({ j with declines := n, state := st } : Job).identity = j.identity := rfl

end Job

namespace Pool

theorem stationQueue_length (p : Pool) (st : Station) :
    (p.stationQueue st).length = (p.jobs.map Job.identity).countP fun i => i.2.2 == some st := by
  rw [stationQueue, ← List.countP_eq_length_filter, List.countP_map]
  rfl

/-- The law of the pool, which goes by the pool alone. -/
def inLaw (p : Pool) : Prop :=
  (p.jobs.map (·.tag)).Nodup ∧ (p.jobs.map (·.pallet)).Nodup ∧ p.jobs.length ≤ 320
    ∧ ∀ st : Station, (p.stationQueue st).length ≤ 8

theorem inLaw_iff (s : State) : s.pool.inLaw ↔ s.poolInLaw := Iff.rfl

namespace inLaw

variable {s : State}

/-- Jobs that are fewer, or changed in other things than the law reads, keep the law. -/
theorem of_sublist {p q : Pool} (h : p.inLaw) (sub : (q.jobs.map Job.identity).Sublist (p.jobs.map Job.identity)) :
    q.inLaw := by
  obtain ⟨tags, pallets, size, queues⟩ := h
  refine ⟨?_, ?_, ?_, fun st => ?_⟩
  · have fewer := sub.map Prod.fst
    simp only [List.map_map] at fewer
    exact tags.sublist fewer
  · have fewer := sub.map fun i => i.2.1
    simp only [List.map_map] at fewer
    exact pallets.sublist fewer
  · have fewer := sub.length_le
    simp only [List.length_map] at fewer
    exact fewer.trans size
  · have le := queues st
    rw [stationQueue_length] at le ⊢
    exact sub.countP_le.trans le

theorem empty {p : Pool} (e : p.jobs = []) : p.inLaw := by
  simp [inLaw, stationQueue, e]

/-- A fold of operations that each keep the law. -/
theorem foldl {α : Type} {f : State → α → State} (hf : ∀ u a, u.pool.inLaw → (f u a).pool.inLaw) (l : List α)
    (h : s.pool.inLaw) : (l.foldl f s).pool.inLaw := by
  induction l generalizing s with
  | nil => exact h
  | cons a l ih => exact ih (hf s a h)

/-! ### Jobs -/

/-- Jobs changed in other things than the law reads. -/
theorem modJobOf (h : s.pool.inLaw) {tag : Word32} {f : Job → Job} (hf : ∀ j, (f j).identity = j.identity := by simp) :
    (s.modJobOf tag f).pool.inLaw := by
  refine h.of_sublist ?_
  rw [State.modJobOf, State.setJobs, modJob, List.map_map]
  refine (List.map_congr_left fun j _ => ?_).symm ▸ List.Sublist.refl _
  rw [Function.comp_apply]
  split
  · exact hf j
  · rfl

@[simp] theorem removeJob (h : s.pool.inLaw) {tag : Word32} {clears : Bool} : (s.removeJob tag clears).pool.inLaw := by
  unfold State.removeJob
  split
  · exact h
  · refine h.of_sublist ?_
    rw [State.watch_pool, State.lowerLane_pool]
    have left := (List.eraseP_sublist (p := fun k : Job => k.tag == tag) (l := s.pool.jobs)).map Job.identity
    dsimp only [State.setTable, State.setJobs]
    split
    · simpa [Function.comp_def] using left
    · exact left

@[simp] theorem returnJob (h : s.pool.inLaw) {tag : Word32} : (s.returnJob tag).pool.inLaw := h.modJobOf

@[simp] theorem activateJob (h : s.pool.inLaw) {tag : Word32} : (s.activateJob tag).pool.inLaw := h.modJobOf

@[simp] theorem completeStore (h : s.pool.inLaw) {tag : Word32} : (s.completeStore tag).pool.inLaw := by
  unfold State.completeStore
  split <;> exact h.removeJob

@[simp] theorem completeRetrieve (h : s.pool.inLaw) {tag : Word32} : (s.completeRetrieve tag).pool.inLaw := by
  unfold State.completeRetrieve
  split
  · exact h
  · dsimp only
    split <;> split <;> simp [h]

@[simp] theorem strandJob (h : s.pool.inLaw) {tag : Word32} {x : Crane} : (s.strandJob tag x).pool.inLaw := h.removeJob

@[simp] theorem declineJob (h : s.pool.inLaw) {tag : Word32} {reason : Byte} :
    (s.declineJob tag reason).pool.inLaw := by
  unfold State.declineJob
  split
  · exact h
  · split
    · exact h.modJobOf
    · exact h.removeJob

@[simp] theorem returnJobs (h : s.pool.inLaw) {o : Order} : (s.returnJobs o).pool.inLaw :=
  h.foldl (fun _ _ k => k.returnJob) _

@[simp] theorem activateJobs (h : s.pool.inLaw) {o : Order} : (s.activateJobs o).pool.inLaw :=
  h.foldl (fun _ _ k => k.activateJob) _

@[simp] theorem endStore (h : s.pool.inLaw) {o : Order} : (s.endStore o).pool.inLaw := by
  unfold State.endStore
  split
  · exact h.completeStore
  · exact h

@[simp] theorem endRetrieve (h : s.pool.inLaw) {o : Order} : (s.endRetrieve o).pool.inLaw := by
  have relocated {tag : Word32} {r : Relocation} : (s.relocationDone tag r).pool.inLaw := h
  unfold State.endRetrieve
  split
  · exact h
  · split
    · exact relocated.completeRetrieve
    · exact h.completeRetrieve

@[simp] theorem abandonStore (h : s.pool.inLaw) {o : Order} {x : Crane} : (s.abandonStore o x).pool.inLaw := by
  unfold State.abandonStore
  split
  · exact h
  · repeat' split
    · exact h.returnJob
    · exact h.strandJob
    · exact h.completeStore

@[simp] theorem abandonRetrieve (h : s.pool.inLaw) {o : Order} {x : Crane} : (s.abandonRetrieve o x).pool.inLaw := by
  have relocated {tag : Word32} {r : Relocation} : (s.relocationDone tag r).pool.inLaw := h
  have left {tag : Word32} : (s.relocationUndone tag).pool.inLaw := h
  unfold State.abandonRetrieve
  generalize (if o.storeTag.isSome then 2 else 0) = k
  dsimp only
  split
  · exact h
  · repeat' split
    · exact h.returnJob
    · exact h.strandJob
    · exact h.completeRetrieve
  · repeat' split
    · exact left.returnJob
    · exact left.strandJob
    · exact relocated.returnJob
    · exact relocated.strandJob
    · exact relocated.completeRetrieve

/-! ### The life of an order -/

@[simp] theorem startOrder (h : s.pool.inLaw) {x : Crane} {proved : Bool} : (s.startOrder x proved).pool.inLaw := by
  unfold State.startOrder
  split
  · exact h
  · dsimp only
    split <;> simp [h]

@[simp] theorem startIfSent (h : s.pool.inLaw) {x : Crane} : (s.startIfSent x).pool.inLaw := by
  unfold State.startIfSent
  split
  · split
    · exact h.startOrder
    · exact h
  · exact h

@[simp] theorem discardWaiting (h : s.pool.inLaw) {x : Crane} : (s.discardWaiting x).pool.inLaw := by
  unfold State.discardWaiting
  split
  · exact h
  · simp [h]

@[simp] theorem releaseWaiting (h : s.pool.inLaw) {w : Option Crane} : (s.releaseWaiting w).pool.inLaw := by
  cases w
  · exact h
  · simp [State.releaseWaiting, h]

@[simp] theorem failYield (h : s.pool.inLaw) {y : Crane} : (s.failYield y).pool.inLaw := by
  simp [State.failYield, h]

@[simp] theorem giveUp (h : s.pool.inLaw) {x : Crane} : (s.giveUp x).pool.inLaw := by
  unfold State.giveUp
  split
  · exact h
  · dsimp only
    split <;> simp [h]

@[simp] theorem orderLostIdle (h : s.pool.inLaw) {x : Crane} : (s.orderLostIdle x).pool.inLaw := by
  simp [State.orderLostIdle, h]

@[simp] theorem orderLostSyncing (h : s.pool.inLaw) {x : Crane} : (s.orderLostSyncing x).pool.inLaw := by
  simp [State.orderLostSyncing, h]

@[simp] theorem endYield (h : s.pool.inLaw) {y : Crane} : (s.endYield y).pool.inLaw := by
  unfold State.endYield
  split
  · simp [h]
  · dsimp only
    split <;> simp [h]

@[simp] theorem expireAccept (h : s.pool.inLaw) {x : Crane} : (s.expireAccept x).pool.inLaw := by
  unfold State.expireAccept
  split
  · exact h
  · dsimp only
    split
    · refine failYield ?_
      exact h
    · exact h
    · exact h

@[simp] theorem loseCrane (h : s.pool.inLaw) {x : Crane} : (s.loseCrane x).pool.inLaw := by
  have failed {t : State} (k : t.pool.inLaw) :
      (((t.setCraneState x .lost).craneStateEvent x .silence).failYield x).pool.inLaw :=
    failYield (s := (t.setCraneState x .lost).craneStateEvent x .silence) k
  unfold State.loseCrane
  dsimp only
  split
  case h_1 | h_2 => exact h
  case h_3 | h_4 | h_5 | h_6 => simp [h]
  all_goals
    split
    · simp [h]
    · split
      · exact failed (t := s.suspendOrder x) h
      · exact failed h

/-! ### Crane records -/

theorem hearCrane (h : s.pool.inLaw) {x : Crane} {record : State → State}
    (hr : ∀ t, t.pool.inLaw → (record t).pool.inLaw) : (s.hearCrane x record).pool.inLaw := by
  unfold State.hearCrane
  split
  · exact hr _ h
  · exact h

@[simp] theorem takeAccept (h : s.pool.inLaw) {x : Crane} {id : Word16} : (s.takeAccept x id).pool.inLaw := by
  unfold State.takeAccept
  split
  · simp [h]
  · split
    · exact h.startOrder
    · split <;> simp [h]
    all_goals simp [h]

theorem declineJobs (h : s.pool.inLaw) {o : Order} {reason : Byte} : (s.declineJobs o reason).pool.inLaw := by
  unfold State.declineJobs
  split
  · exact foldl (fun _ _ k => k.declineJob) _ h
  · exact h

theorem takeDecline (h : s.pool.inLaw) {x : Crane} {id : Word16} {reason : Byte} :
    (s.takeDecline x id reason).pool.inLaw := by
  have untaken : (s.notTaken x).pool.inLaw := by simp [h]
  have declined {o : Order} : (s.declineOrder x o reason).pool.inLaw := by
    simpa [State.declineOrder] using h.releaseWaiting.declineJobs
  unfold State.takeDecline
  split
  · exact untaken
  · split
    · exact untaken
    · split
      case h_1 | h_2 => exact declined
      all_goals exact untaken

theorem revokeOrder (h : s.pool.inLaw) {x : Crane} {o : Order} : (s.revokeOrder x o).pool.inLaw := by
  have counted : (if o.lateAccept then s.anomaly x else s).pool.inLaw := by
    split <;> exact h
  simpa [State.revokeOrder] using counted.returnJobs

theorem takeRevoked (h : s.pool.inLaw) {x : Crane} {id : Word16} {started : Bool} :
    (s.takeRevoked x id started).pool.inLaw := by
  unfold State.takeRevoked
  split
  · simp [h]
  · split
    · split
      · exact h.startOrder
      · exact h.revokeOrder
    all_goals simp [h]

@[simp] theorem resumeLost (h : s.pool.inLaw) {x : Crane} : (s.resumeLost x).pool.inLaw := by
  unfold State.resumeLost
  split
  · exact h
  · split <;> simp [h]

theorem takeLegDone (h : s.pool.inLaw) {x : Crane} {id : Word16} {i : Nat} {b l : Byte} :
    (s.takeLegDone x id i b l).pool.inLaw := by
  unfold State.takeLegDone
  split
  · split <;> simp [h]
  · split
    · simp [h]
    · split <;> simp [h]

@[simp] theorem finishOrder (h : s.pool.inLaw) {x : Crane} {o : Order} {b l : Byte} :
    (s.finishOrder x o b l).pool.inLaw := by
  unfold State.finishOrder
  dsimp only
  split <;> simp [h]

theorem takeOrderDone (h : s.pool.inLaw) {x : Crane} {id : Word16} {b l : Byte} : (s.takeOrderDone x id b l).pool.inLaw := by
  unfold State.takeOrderDone
  split
  · split <;> simp [h]
  · split
    · exact h.resumeLost.finishOrder
    · split
      · exact h.finishOrder
      case h_2 | h_3 => exact h.startOrder.finishOrder
      all_goals exact h

@[simp] theorem faultWaiting (h : s.pool.inLaw) {x : Crane} {b l : Byte} : (s.faultWaiting x b l).pool.inLaw := by
  simp [State.faultWaiting, h]

@[simp] theorem applyFault (h : s.pool.inLaw) {x : Crane} {k : Nat} : (s.applyFault x k).pool.inLaw := by
  have failed {t : State} (k : t.pool.inLaw) : ((t.enterFaulted x .fault).failYield x).pool.inLaw :=
    failYield (s := t.enterFaulted x .fault) k
  unfold State.applyFault
  split
  case h_1 | h_2 | h_3 | h_4 | h_5 | h_6 | h_7 => simp [h]
  all_goals
    split
    · exact h
    · split
      · exact failed (t := ((s.startIfSent x).markLegs x k).suspendOrder x) h.startIfSent
      · exact failed h

theorem takeFault (h : s.pool.inLaw) {x : Crane} {code b l : Byte} {id : Word16} {k : Nat} :
    (s.takeFault x code b l id k).pool.inLaw := by
  unfold State.takeFault
  split
  · simp [h]
  · dsimp only
    split <;> simp [h]

@[simp] theorem statusSyncing (h : s.pool.inLaw) {x : Crane} {m : StatusMode} {aboard : Bool} :
    (s.statusSyncing x m aboard).pool.inLaw := by
  unfold State.statusSyncing
  split <;> simp [h]

@[simp] theorem statusFree (h : s.pool.inLaw) {x : Crane} {m : StatusMode} {aboard : Bool} :
    (s.statusFree x m aboard).pool.inLaw := by
  unfold State.statusFree
  split <;> simp [h]

@[simp] theorem statusOrder (h : s.pool.inLaw) {x : Crane} {o : Order} {m : StatusMode} {named : Bool} {k : Nat} :
    (s.statusOrder x o m named k).pool.inLaw := by
  unfold State.statusOrder
  split
  · split
    · exact h.orderLostIdle
    · exact h
  · simp [h]
  · exact orderLostSyncing (s := s.anomaly x) h
  · simp [h]

@[simp] theorem statusFaultedOrder (h : s.pool.inLaw) {x : Crane} {o : Order} {m : StatusMode} {named : Bool} {k : Nat} :
    (s.statusFaultedOrder x o m named k).pool.inLaw := by
  unfold State.statusFaultedOrder
  split
  · split
    · exact h.orderLostIdle
    · exact h
  · simp [h]
  · exact orderLostSyncing (s := s.anomaly x) h
  · exact h

@[simp] theorem statusLost (h : s.pool.inLaw) {x : Crane} {m : StatusMode} {named : Bool} {k : Nat} {aboard : Bool} :
    (s.statusLost x m named k aboard).pool.inLaw := by
  unfold State.statusLost
  split
  · exact h.orderLostIdle
  · simp [h]
  · simp [h]
  · simp [h]
  · exact orderLostSyncing (s := s.anomaly x) h
  · simp [h]
  · exact h.applyFault

@[simp] theorem statusWaiting (h : s.pool.inLaw) {x : Crane} {m : StatusMode} {b l : Byte} {aboard : Bool} :
    (s.statusWaiting x m b l aboard).pool.inLaw := by
  unfold State.statusWaiting
  split <;> simp [h]

theorem takeStatus (h : s.pool.inLaw) {x : Crane} {m : StatusMode} {id : Word16} {k : Nat} {b l : Byte} {aboard : Bool} :
    (s.takeStatus x m id k b l aboard).pool.inLaw := by
  unfold State.takeStatus
  dsimp only
  split <;> simp [h]

/-! ### Passes and the clocks -/

theorem endStoreStage (h : s.pool.inLaw) {p : Pass} {tag serial : Word32} {best : Option StorePick} :
    (s.endStoreStage p tag serial best).pool.inLaw := by
  have stalled : (s.stallHead p tag serial).pool.inLaw := by
    have marked : (s.modJobOf tag fun k => k.setStalled true).pool.inLaw := h.modJobOf
    unfold State.stallHead
    split
    · exact h
    · dsimp only
      split <;> exact marked
  unfold State.endStoreStage
  split
  · exact stalled
  · exact h.modJobOf

theorem passItem (h : s.pool.inLaw) {p : Pass} {t : State} (e : s.passItem p = some t) : t.pool.inLaw := by
  unfold State.passItem at e
  split at e
  · split at e <;> cases e <;> exact h
  · split at e <;> cases e
    · exact h
    · exact h.endStoreStage
  · repeat' split at e
    all_goals cases e
    simp [h]
  · cases e

theorem passItems (n : Nat) (h : s.pool.inLaw) : (State.passItems n s).pool.inLaw := by
  induction n generalizing s with
  | zero => exact h
  | succ n ih =>
    unfold State.passItems
    split
    · exact h
    · split
      · rename_i e
        exact ih (h.passItem e)
      · exact h

@[simp] theorem orderJobs (h : s.pool.inLaw) {r : PassResult} : (s.orderJobs r).pool.inLaw := by
  unfold State.orderJobs
  dsimp only
  split <;> split
  · exact h.modJobOf.modJobOf
  · exact h.modJobOf
  · exact h.modJobOf
  · exact h

@[simp] theorem dispatch (h : s.pool.inLaw) {p : Pass} {r : PassResult} {a : SpanAnswer} : (s.dispatch p r a).pool.inLaw := by
  have ordered : ((s.setTable (State.convertRetrieve (State.convertStore s.table r) r)).orderJobs r).pool.inLaw :=
    orderJobs (s := s.setTable (State.convertRetrieve (State.convertStore s.table r) r)) h
  unfold State.dispatch
  dsimp only
  split <;> simpa using ordered

theorem completePass (h : s.pool.inLaw) {p : Pass} : (s.completePass p).pool.inLaw := by
  unfold State.completePass
  split
  · simp [h]
  · split
    · simp [h]
    · split <;> simp [h]

theorem passCompletes (h : s.pool.inLaw) : s.passCompletes.pool.inLaw := by
  have examined := h.passItems s.itemBound
  unfold State.passCompletes
  dsimp only
  split
  · exact examined.completePass
  · exact examined

theorem serviceSilence (h : s.pool.inLaw) {x : Crane} : (s.serviceSilence x).pool.inLaw := by
  unfold State.serviceSilence
  split
  · exact h.loseCrane
  · exact h

theorem serviceAccept (h : s.pool.inLaw) {x : Crane} : (s.serviceAccept x).pool.inLaw := by
  unfold State.serviceAccept
  split
  · exact h.expireAccept
  · exact h

theorem paceExpires (h : s.pool.inLaw) : s.paceExpires.pool.inLaw := by
  unfold State.paceExpires
  generalize allCranes = xs
  have heard : (xs.foldl State.countSilence s.tickPace).pool.inLaw :=
    foldl (f := State.countSilence) (s := s.tickPace) (fun _ _ k => by simpa using k) xs h
  have counted : (xs.foldl State.countAccept (xs.foldl State.countSilence s.tickPace)).pool.inLaw :=
    foldl (f := State.countAccept) (fun _ _ k => k) xs heard
  have lost : (xs.foldl State.serviceSilence
      (State.countHost (xs.foldl State.countAccept (xs.foldl State.countSilence s.tickPace)))).pool.inLaw :=
    foldl (s := State.countHost _) (fun _ _ k => k.serviceSilence) xs counted
  dsimp only
  refine foldl (fun _ _ k => k.serviceAccept) xs ?_
  rw [State.serviceHost_pool, State.poll_pool]
  exact lost

/-! ### Requests -/

/-- A request is dropped, or refused without an owner, or answered by its owner. -/
theorem takeRequest (h : s.pool.inLaw) {kind : Byte} {body : List Byte} {owner : State → List Byte → Answer}
    (ho : ∀ t fields, t.pool.inLaw → (owner t fields).1.pool.inLaw) : (s.takeRequest kind body owner).pool.inLaw := by
  have heard : s.hearHost.pool.inLaw := by simpa using h
  unfold State.takeRequest
  split
  · exact h
  · split
    · exact ho _ _ heard
    · exact heard

theorem reading {α : Type} (h : s.pool.inLaw) {read : List Byte → Option α} {act : State → α → Answer} {fields : List Byte}
    (ha : ∀ r, (act s r).1.pool.inLaw) : (State.reading read act s fields).1.pool.inLaw := by
  unfold State.reading
  split
  · exact ha _
  · exact h

theorem ranged {α : Type} (h : s.pool.inLaw) {n : Option α} {act : State → α → Answer}
    (ha : ∀ a, (act s a).1.pool.inLaw) : (s.ranged n act).1.pool.inLaw := by
  unfold State.ranged
  split
  · exact ha _
  · exact h

/-- A check of a request. -/
theorem check {c : Prop} [Decidable c] {a b : Answer} (ha : c → a.1.pool.inLaw) (hb : ¬c → b.1.pool.inLaw) :
    (if c then a else b).1.pool.inLaw := by
  split
  · rename_i k; exact ha k
  · rename_i k; exact hb k

end inLaw
end Pool

end Sys2Proof.Machine

namespace Sys2Proof.Machine

namespace Pool.inLaw

variable {s : State}

/-! ### The requests that change jobs -/

/-- A job whose tag and pallet are free joins a pool, and a station's queue, with room for it. -/
theorem addJob (h : s.pool.inLaw) {j : Job} (tag : ∀ i ∈ s.pool.jobs, i.tag ≠ j.tag)
    (pallet : ∀ i ∈ s.pool.jobs, i.pallet ≠ j.pallet) (room : s.pool.jobs.length < 320)
    (queue : ∀ st, j.station? = some st → (s.pool.stationQueue st).length < 8) : (s.addJob j).pool.inLaw := by
  obtain ⟨tags, pallets, -, queues⟩ := h
  rw [State.addJob, State.watch_pool]
  refine ⟨?_, ?_, ?_, fun st => ?_⟩
  · rw [List.map_append, List.map_singleton, List.nodup_append_comm, List.singleton_append, List.nodup_cons]
    exact ⟨by simpa using tag, tags⟩
  · rw [List.map_append, List.map_singleton, List.nodup_append_comm, List.singleton_append, List.nodup_cons]
    exact ⟨by simpa using pallet, pallets⟩
  · rw [List.length_append, List.length_singleton]
    exact room
  · rw [stationQueue, List.filter_append, List.length_append, List.filter_singleton]
    have old := queues st
    rw [stationQueue] at old
    by_cases e : j.station? = some st
    · have new := queue st e
      rw [stationQueue] at new
      simpa [e] using new
    · simpa [beq_eq_false_iff_ne.2 e] using old

theorem pallet_free {pallet : Word32} (h : ¬s.palletBusy pallet = true) : ∀ i ∈ s.pool.jobs, i.pallet ≠ pallet := by
  simpa [State.palletBusy] using h

theorem admitStore (h : s.pool.inLaw) {r : StoreRequest} : (s.admitStore r).1.pool.inLaw := by
  unfold State.admitStore
  split
  · rename_i st _
    refine check (fun _ => h) fun _ => check (fun _ => h) fun _ => check (fun _ => h) fun tag => check (fun _ => h) fun pallet =>
      check (fun _ => h) fun room => check (fun _ => h) fun queue => ?_
    have added := h.addJob (j := s.newJob r.tag r.pallet r.cls (.store st (slotsIn r.candidates) none false))
      (RackLaw.tag_free tag) (pallet_free pallet) (Nat.not_le.1 room) (by rintro st ⟨⟩; exact Nat.not_le.1 queue)
    simpa [State.takeStore, State.okWith] using added
  · exact h

theorem admitRetrieve (h : s.pool.inLaw) {r : RetrieveRequest} : (s.admitRetrieve r).1.pool.inLaw := by
  unfold State.admitRetrieve
  split
  · rename_i a _
    refine check (fun _ => h) fun _ => check (fun _ => h) fun _ => check (fun _ => h) fun tag => check (fun _ => h) fun pallet =>
      check (fun _ => h) fun _ => ?_
    split
    · exact h
    · refine check (fun _ => h) fun room => ?_
      have same : ((s.setTable (addEntry s.table a (.retrieveSource r.tag))).raiseLane r.lane).pool = s.pool := by simp
      have added := addJob (s := (s.setTable (addEntry s.table a (.retrieveSource r.tag))).raiseLane r.lane)
        (j := s.newJob r.tag r.pallet r.cls (.retrieve a r.blocker r.lane)) (same ▸ h)
        (same ▸ RackLaw.tag_free tag) (same ▸ pallet_free pallet) (same ▸ Nat.not_le.1 room) (by rintro st ⟨⟩)
      simpa [State.takeRetrieve, State.okWith] using added
  · exact h

theorem amendStore (h : s.pool.inLaw) {r : Word32 × List Place} : (s.amendStore r).1.pool.inLaw := by
  have amended : (s.modJobOf r.1 fun k => (k.setCandidates (slotsIn r.2)).setStalled false).pool.inLaw := h.modJobOf
  unfold State.amendStore
  split
  · exact h
  · split
    · exact h
    · refine check (fun _ => h) fun _ => check (fun _ => h) fun _ => ?_
      simpa [State.ok] using amended

theorem cancelJob (h : s.pool.inLaw) {r : Word32 × Bool} : (s.cancelJob r).1.pool.inLaw := by
  have skipped {j : Job} : ((s.removeJob r.1 false).skipDelivery j r.2).pool.inLaw := by
    unfold State.skipDelivery
    split <;> simp [h]
  unfold State.cancelJob
  split
  · exact h
  · refine check (fun _ => h) fun _ => ?_
    unfold State.cancelTriggers
    dsimp only [State.ok]
    split
    · split
      · simpa using skipped
      · exact skipped
    · simpa using skipped

/-! ### The other requests -/

theorem queryJob (h : s.pool.inLaw) {tag : Word32} : (s.queryJob tag).1.pool.inLaw := by
  unfold State.queryJob
  split <;> exact h

theorem enrol (h : s.pool.inLaw) {b : Byte} : (s.enrol b).1.pool.inLaw :=
  h.ranged fun _ => check (fun _ => h) fun _ => check (fun _ => h) fun _ => h

theorem withdraw (h : s.pool.inLaw) {b : Byte} : (s.withdraw b).1.pool.inLaw := by
  have withdrawn {x : Crane} : (s.takeWithdraw x).pool.inLaw := by
    unfold State.takeWithdraw
    dsimp only
    split <;> simp [h]
  exact h.ranged fun _ => check (fun _ => h) fun _ => check (fun _ => h) fun _ => withdrawn

theorem homeCrane (h : s.pool.inLaw) {b : Byte} : (s.homeCrane b).1.pool.inLaw := by
  have sent {x : Crane} : (s.takeHome x).pool.inLaw := by
    unfold State.takeHome
    dsimp only
    split <;> simp [h]
  exact h.ranged fun _ => check (fun _ => h) fun _ => check (fun _ => h) fun _ => sent

theorem abandonOrder (h : s.pool.inLaw) {b : Byte} : (s.abandonOrder b).1.pool.inLaw :=
  h.ranged fun x => check (fun _ => giveUp (s := s.emit x abortFrame) h) fun _ => h

theorem replaceGeometry (h : s.pool.inLaw) {a : Aisle} {g : Geometry} : (s.replaceGeometry a g).1.pool.inLaw :=
  check (fun _ => h) fun _ => h

theorem setGeometry (h : s.pool.inLaw) {r : GeometryRequest} : (s.setGeometry r).1.pool.inLaw := by
  unfold State.setGeometry
  split
  · exact h
  · split
    · split
      · exact h
      · exact check (fun _ => h) fun _ => h.replaceGeometry
    · exact h.replaceGeometry

theorem setPolicy (h : s.pool.inLaw) {r : PolicyRequest} : (s.setPolicy r).1.pool.inLaw := by
  unfold State.setPolicy
  repeat' split
  all_goals exact h

theorem loadWeights (h : s.pool.inLaw) {r : Nat × List Weight} : (s.loadWeights r).1.pool.inLaw :=
  check (fun _ => h) fun _ => check (fun _ => h) fun _ => h

theorem setProfile (h : s.pool.inLaw) {r : Byte × Profile} : (s.setProfile r).1.pool.inLaw := by
  unfold State.setProfile
  repeat' split
  all_goals exact h

theorem addSpare (h : s.pool.inLaw) {p : Place} : (s.addSpare p).1.pool.inLaw := by
  unfold State.addSpare
  split
  · refine check (fun _ => h) fun _ => check (fun _ => h) fun _ => check (fun _ => h) fun _ => ?_
    simpa [State.ok] using h
  · exact h

theorem removeSpare (h : s.pool.inLaw) {p : Place} : (s.removeSpare p).1.pool.inLaw := by
  unfold State.removeSpare
  split
  · refine check (fun _ => h) fun _ => ?_
    split <;> exact h
  · exact h

theorem laneOpen (h : s.pool.inLaw) {r : Byte × Word16 × Nat} : (s.laneOpen r).1.pool.inLaw :=
  h.ranged fun l => check (fun _ => h) fun _ => by simpa [State.okWith] using h

theorem laneClose (h : s.pool.inLaw) {b : Byte} : (s.laneClose b).1.pool.inLaw :=
  h.ranged fun _ => check (fun _ => h) fun _ => check (fun _ => h) fun _ => h

theorem skipSequence (h : s.pool.inLaw) {r : Byte × Word16} : (s.skipSequence r).1.pool.inLaw :=
  h.ranged fun _ => check (fun _ => h) fun _ => check (fun _ => h) fun _ => check (fun _ => h) fun _ =>
    check (fun _ => h) fun _ => by simpa [State.takeSkip, State.okWith] using h

theorem holdRequest (h : s.pool.inLaw) {b : Byte} : (s.holdRequest b).1.pool.inLaw :=
  h.ranged fun sc => check (fun _ => h) fun _ => by cases sc <;> exact h

theorem resumeRequest (h : s.pool.inLaw) {b : Byte} : (s.resumeRequest b).1.pool.inLaw := by
  refine h.ranged fun sc => check (fun _ => ?_) fun _ => h
  have cleared : (s.clearCauses sc).pool = s.pool := by cases sc <;> rfl
  simpa [State.ok, cleared] using h

theorem queryStatus (h : s.pool.inLaw) {fields : List Byte} : (s.queryStatus fields).1.pool.inLaw := by
  unfold State.queryStatus
  split <;> exact h

theorem resetRequest (h : s.pool.inLaw) {b : Byte} : (s.resetRequest b).1.pool.inLaw :=
  h.ranged fun sc => by cases sc <;> exact empty rfl

/-! ### Every command and every step -/

/-- Every command keeps the law. -/
theorem exec (h : s.pool.inLaw) {c : Instr} {t : State} (e : exec c s = .next t) : t.pool.inLaw := by
  cases c <;> have e := Host.Outcome.next.inj e <;> subst e
  case powerOn => exact empty rfl
  case admitStore => exact h.takeRequest fun _ _ k => k.reading fun _ => k.admitStore
  case admitRetrieve => exact h.takeRequest fun _ _ k => k.reading fun _ => k.admitRetrieve
  case amendStore => exact h.takeRequest fun _ _ k => k.reading fun _ => k.amendStore
  case cancelJob => exact h.takeRequest fun _ _ k => k.reading fun _ => k.cancelJob
  case queryJob => exact h.takeRequest fun _ _ k => k.reading fun _ => k.queryJob
  case enrolCrane => exact h.takeRequest fun _ _ k => k.reading fun _ => k.enrol
  case withdrawCrane => exact h.takeRequest fun _ _ k => k.reading fun _ => k.withdraw
  case homeCrane => exact h.takeRequest fun _ _ k => k.reading fun _ => k.homeCrane
  case abandonOrder => exact h.takeRequest fun _ _ k => k.reading fun _ => k.abandonOrder
  case setAisleGeometry => exact h.takeRequest fun _ _ k => k.reading fun _ => k.setGeometry
  case setAislePolicy => exact h.takeRequest fun _ _ k => k.reading fun _ => k.setPolicy
  case loadWeights => exact h.takeRequest fun _ _ k => k.reading fun _ => k.loadWeights
  case setProfile => exact h.takeRequest fun _ _ k => k.reading fun _ => k.setProfile
  case setScoring => exact h.takeRequest fun _ _ k => k.reading fun _ => k
  case addSpare => exact h.takeRequest fun _ _ k => k.reading fun _ => k.addSpare
  case removeSpare => exact h.takeRequest fun _ _ k => k.reading fun _ => k.removeSpare
  case laneOpen => exact h.takeRequest fun _ _ k => k.reading fun _ => k.laneOpen
  case laneClose => exact h.takeRequest fun _ _ k => k.reading fun _ => k.laneClose
  case skipSequence => exact h.takeRequest fun _ _ k => k.reading fun _ => k.skipSequence
  case hold => exact h.takeRequest fun _ _ k => k.reading fun _ => k.holdRequest
  case resume => exact h.takeRequest fun _ _ k => k.reading fun _ => k.resumeRequest
  case setNotices => exact h.takeRequest fun _ _ k => k.reading fun _ => check (fun _ => k) fun _ => k
  case clearFlags => exact h.takeRequest fun _ _ k => k.reading fun _ => k
  case queryStatus => exact h.takeRequest fun _ _ k => k.queryStatus
  case reset => exact h.takeRequest fun _ _ k => k.reading fun _ => k.resetRequest
  case unknownRequest => exact h.takeRequest fun _ _ k => k
  case queryCrane | setTrim | queryAisle | queryLane | setTiming | setWatch =>
    exact h.takeRequest fun _ _ k => k.reading fun _ => k.ranged fun _ => k
  case managementFrameDropped | frameGapAbandon | craneFrameDropped => exact h
  case unknownCraneRecord => exact h.hearCrane fun _ k => by simpa using k
  case accept => exact h.hearCrane fun _ k => k.takeAccept
  case decline => exact h.hearCrane fun _ k => k.takeDecline
  case legDone => exact h.hearCrane fun _ k => k.takeLegDone
  case orderDone => exact h.hearCrane fun _ k => k.takeOrderDone
  case revoked => exact h.hearCrane fun _ k => k.takeRevoked
  case fault => exact h.hearCrane fun _ k => k.takeFault
  case faultClear => exact h.hearCrane fun _ k => by simpa using k
  case status => exact h.hearCrane fun _ k => k.takeStatus
  case passCompletion => exact h.passCompletes
  case paceIntervalExpiry => exact h.paceExpires
  case silenceLimitReached => exact h.serviceSilence
  case hostLimitReached => simpa using h
  case acceptTimerExpiry => exact h.serviceAccept
  case frameTransmitComplete => simpa using h

theorem append_pool (s : State) (cs : List Instr) : (s.append cs).pool = s.pool := rfl

theorem receiveHost_pool (s : State) (b : LineByte) (rest : List LineByte) : (s.receiveHost b rest).pool = s.pool := rfl

theorem receiveCrane_pool (s : State) (x : Crane) (b : LineByte) (rest : List LineByte) :
    (s.receiveCrane x b rest).pool = s.pool := rfl

theorem tick_pool (s : State) : s.tick.pool = s.pool := by
  unfold State.tick State.append State.waitLines State.runClocks
  rfl

/-- The part's own time keeps the law. -/
theorem idle (h : s.pool.inLaw) : s.idle.pool.inLaw := by
  unfold State.idle
  split
  · rw [receiveHost_pool]
    exact h
  · rw [receiveCrane_pool]
    exact h
  · unfold State.workPass
    split
    · rename_i e
      exact h.passItem e
    · rw [append_pool]
      exact h
  · rw [tick_pool]
    exact h

end Pool.inLaw

/-- Settles O4: the law goes by the jobs' tags, pallets and stations, which only an admission adds to, and its checks keep
the law. -/
theorem poolStaysInLaw : Obligations.PoolStaysInLaw := by
  intro s t h e
  unfold step at e
  split at e
  · rename_i c rest _
    exact (Pool.inLaw_iff t).1 (Pool.inLaw.exec (s := { s with pending := rest }) ((Pool.inLaw_iff s).2 h) e)
  · cases e
    exact (Pool.inLaw_iff _).1 (Pool.inLaw.idle ((Pool.inLaw_iff s).2 h))

end Sys2Proof.Machine

namespace Sys2Proof.Machine

/-! ## The removal of a job and the watch (R32, R35, R38) -/

namespace Pool

/-- With unique tags a live job is the one its tag finds. -/
theorem find_tag {p : Pool} (unique : (p.jobs.map (·.tag)).Nodup) {j : Job} (hj : j ∈ p.jobs) : p.find j.tag = some j := by
  rw [find, List.find?_eq_some_iff_append]
  refine ⟨by simp, ?_⟩
  obtain ⟨before, after, e⟩ := List.append_of_mem hj
  refine ⟨before, after, e, fun i hi => ?_⟩
  rw [e, List.map_append, List.map_cons] at unique
  have apart := (List.nodup_append.1 unique).2.2 i.tag (List.mem_map_of_mem hi) j.tag List.mem_cons_self
  simpa using apart

end Pool

/-- With unique tags the first job of a tag is the only one. -/
theorem eraseP_tag {js : List Job} (unique : (js.map (·.tag)).Nodup) (tag : Word32) :
    js.eraseP (fun k => k.tag == tag) = js.filter (fun k => k.tag != tag) := by
  induction js with
  | nil => rfl
  | cons k rest ih =>
    obtain ⟨fresh, unique⟩ := List.nodup_cons.1 unique
    by_cases e : k.tag = tag
    · have others : ∀ i ∈ rest, (i.tag != tag) = true := by
        intro i hi
        have ne : i.tag ≠ tag := fun h => fresh (List.mem_map.2 ⟨i, hi, h.trans e.symm⟩)
        simpa using ne
      rw [List.eraseP_cons_of_pos (by simpa using e), List.filter_cons_of_neg (by simpa using e),
        List.filter_eq_self.2 others]
    · rw [List.eraseP_cons_of_neg (by simpa using e), List.filter_cons_of_pos (by simpa using e), ih unique]

/-- Only a job that names the pallet loses its blocker. -/
theorem Job.clearBlocker_of_ne {k : Job} {pallet : Word32} (h : k.blocker? ≠ some pallet) : k.clearBlocker pallet = k := by
  obtain ⟨_, _, _, _, _, _, _, _ | ⟨slot, blocker, lane⟩⟩ := k
  · rfl
  · exact if_neg h

/-- The jobs that stay, with the blocker fields that name a pallet cleared when it left its slot (R32). -/
theorem map_clearBlocker (c : Bool) (js : List Job) (pallet : Word32) :
    (if c then js.map (Job.clearBlocker pallet) else js)
      = js.map fun k => if c && k.blocker? == some pallet then k.clearBlocker pallet else k := by
  cases c with
  | false => simp
  | true =>
    refine List.map_congr_left fun k _ => ?_
    by_cases e : k.blocker? = some pallet
    · simp [e]
    · simp [e, Job.clearBlocker_of_ne e]

namespace State

/-- The removal of a live job, its tag unique (R35). -/
theorem removeJob_of_mem {s : State} (unique : (s.pool.jobs.map (·.tag)).Nodup) {j : Job} (hj : j ∈ s.pool.jobs)
    (clears : Bool) :
    s.removeJob j.tag clears
      = (((s.setJobs ((s.pool.jobs.filter (fun k => k.tag != j.tag)).map fun k =>
            if clears && j.isRetrieve && k.blocker? == some j.pallet then k.clearBlocker j.pallet else k)).setTable
          (dropOwner s.table j.tag)).lowerLane j.lane?).watch s.pool.jobs.length (s.pool.jobs.length - 1) := by
  unfold removeJob
  rw [Pool.find_tag unique hj]
  dsimp only
  rw [map_clearBlocker, eraseP_tag unique]

/-- The watch by its threshold and edge mode (R38). -/
theorem watch_eq (s : State) (old new : Nat) :
    s.watch old new
      = if old < s.pool.watchThreshold ∧ s.pool.watchThreshold ≤ new
            ∧ (s.pool.watchEdges = .rising ∨ s.pool.watchEdges = .both) then s.raise (.poolLevel new .rising)
        else if s.pool.watchThreshold ≤ old ∧ new < s.pool.watchThreshold
            ∧ (s.pool.watchEdges = .falling ∨ s.pool.watchEdges = .both) then s.raise (.poolLevel new .falling)
        else s := by
  unfold watch crossing
  by_cases up : old < s.pool.watchThreshold ∧ s.pool.watchThreshold ≤ new
  · have notDown : ¬s.pool.watchThreshold ≤ old := by omega
    rw [if_pos up]
    cases s.pool.watchEdges <;> simp [EdgeMode.selects, up, notDown]
  · have notUp (p : Prop) : ¬(old < s.pool.watchThreshold ∧ s.pool.watchThreshold ≤ new ∧ p) := by tauto
    rw [if_neg up, if_neg (notUp _)]
    by_cases down : s.pool.watchThreshold ≤ old ∧ new < s.pool.watchThreshold
    · rw [if_pos down]
      cases s.pool.watchEdges <;> simp [EdgeMode.selects, down]
    · have notDown (p : Prop) : ¬(s.pool.watchThreshold ≤ old ∧ new < s.pool.watchThreshold ∧ p) := by tauto
      rw [if_neg down, if_neg (notDown _)]

end State

/-- Settles O34: with unique tags the first job of a tag is the only one, so what is erased is what the filter drops; the
watch is read off the crossing and the edge mode. -/
theorem jobsLeaveThePool : Obligations.JobsLeaveThePool := by
  refine ⟨fun s j clears h hj => ?_, ?_⟩
  · rw [State.removeJob_of_mem h.1 hj clears]
    cases e : j.lane? with
    | none => rfl
    | some n => rfl
  · rintro s old new _ _ rfl rfl
    exact s.watch_eq old new

end Sys2Proof.Machine

namespace Sys2Proof.Machine

/-! ## The items of a pass (R104 to R108) -/

namespace State

variable {s : State} {p : Pass}

/-! ### The store stage -/

/-- A head before the stamp opens the store stage (R105). -/
theorem passItem_start_cons (hs : p.stage = .start) {j : Job} {rest : List Job}
    (hq : s.pool.stationQueue (stationOf p.crane) = j :: rest) :
    s.passItem p = some
      (if j.state = .pending ∧ atOrBefore j.serial p.latch.stamp = true then s.setStage p (.store j.tag j.serial 0 none)
      else s.setStage p (.retrieve none none none)) := by
  by_cases h : j.state = .pending ∧ atOrBefore j.serial p.latch.stamp = true
  · have head : s.stageHead p = some j := by simp [stageHead, hq, h]
    simp only [passItem, hs, head, if_pos h]
  · have head : s.stageHead p = none := by simp [stageHead, hq, h]
    simp only [passItem, hs, head, if_neg h]

theorem passItem_start_nil (hs : p.stage = .start) (hq : s.pool.stationQueue (stationOf p.crane) = []) :
    s.passItem p = some (s.setStage p (.retrieve none none none)) := by
  have head : s.stageHead p = none := by simp [stageHead, hq]
  simp only [passItem, hs, head]

theorem passJob_of_find {tag serial : Word32} {j : Job} (hf : s.pool.find tag = some j) (hj : j.serial = serial) :
    s.passJob tag serial = some j := by
  simp [passJob, hf, hj]

theorem passItem_candidate {tag serial : Word32} {k : Nat} {best : Option StorePick} (hs : p.stage = .store tag serial k best)
    {j : Job} {a : Slot} (hf : s.pool.find tag = some j) (hj : j.serial = serial) (ha : j.candidates[k]? = some a) :
    s.passItem p = some (s.setStage p (.store tag serial (k + 1) (s.considerSlot p tag serial a best))) := by
  simp only [passItem, hs, passJob_of_find hf hj, Option.bind_some, ha]

/-- With the candidates at an end the store stage ends (R106, R107). -/
theorem passItem_lastCandidate {tag serial : Word32} {k : Nat} {best : Option StorePick}
    (hs : p.stage = .store tag serial k best) {j : Job} (hf : s.pool.find tag = some j) (hj : j.serial = serial)
    (hk : j.candidates.length ≤ k) : s.passItem p = some (s.endStoreStage p tag serial best) := by
  simp only [passItem, hs, passJob_of_find hf hj, Option.bind_some, List.getElem?_eq_none hk]

/-! ### The retrieve stage -/

/-- What the pool supplies to the retrieve stage after a cursor (R34). -/
def supplies (p : Pass) (cursor : Option Word32) (j : Job) : Prop :=
  j.isRetrieve = true ∧ j.aisle = aisleOf p.crane ∧ j.state = .pending ∧ atOrBefore j.serial p.latch.stamp = true
    ∧ ∀ c, cursor = some c → atOrBefore j.serial c = false

theorem nextRetrieve_none {cursor : Option Word32} (h : ∀ j ∈ s.pool.jobs, ¬supplies p cursor j) :
    s.nextRetrieve p cursor = none := by
  refine List.find?_eq_none.2 fun j hj k => h j hj ?_
  cases cursor <;> simpa [supplies, and_assoc] using k

theorem nextRetrieve_some {cursor : Option Word32} {before after : List Job} {j : Job}
    (hl : s.pool.jobs = before ++ j :: after) (hb : ∀ i ∈ before, ¬supplies p cursor i) (hj : supplies p cursor j) :
    s.nextRetrieve p cursor = some j := by
  refine List.find?_eq_some_iff_append.2 ⟨?_, before, after, hl, fun i hi => ?_⟩
  · cases cursor <;> simpa [supplies, and_assoc] using hj
  · rw [Bool.not_eq_true', ← Bool.not_eq_true]
    refine fun k => hb i hi ?_
    cases cursor <;> simpa [supplies, and_assoc] using k

theorem passItem_noRetrieve {store : Option StorePick} {cursor : Option Word32} {best : Option RetrievePick}
    (hs : p.stage = .retrieve store cursor best) (h : ∀ j ∈ s.pool.jobs, ¬supplies p cursor j) : s.passItem p = none := by
  simp only [passItem, hs, nextRetrieve_none h]

theorem passItem_retrieve {store : Option StorePick} {cursor : Option Word32} {best : Option RetrievePick}
    (hs : p.stage = .retrieve store cursor best) {j : Job} (hj : s.nextRetrieve p cursor = some j) {a : Slot}
    (ha : j.slot? = some a) : s.passItem p = some (s.considerRetrieve p j a store best) := by
  simp only [passItem, hs, hj, ha]

variable {j : Job} {a : Slot} {store : Option StorePick} {best : Option RetrievePick}

/-- Checks 1 and 2: a retrieve that waits, or is outside its lane's window, is passed over (R107). -/
theorem considerRetrieve_waits (h : s.pool.waitsOn j ≠ none ∨ s.laneEligible j = false) :
    s.considerRetrieve p j a store best = s.setStage p (.retrieve store (some j.serial) best) := by
  refine if_pos ?_
  rcases h with h | h
  · simp [Option.isSome_iff_ne_none, h]
  · simp [h]

/-- Check 3: no usable spare (R108). -/
theorem considerRetrieve_noSpare (hw : s.pool.waitsOn j = none) (hl : s.laneEligible j = true) {b : Word32}
    (hb : j.blocker? = some b) (hn : s.bestSpare p.latch.values a.partner (store.map (·.slot)) = none) :
    s.considerRetrieve p j a store best
      = (s.noSpares p).setStage { p with sparesEmpty := true } (.retrieve store (some j.serial) best) := by
  have relocation : s.relocationFor p j a (store.map (·.slot)) = some none := by simp [relocationFor, hb, hn]
  simp [considerRetrieve, hw, hl, relocation]

/-- Checks 4 and 5, with the relocation of the retrieve, if it has one (R107). -/
theorem considerRetrieve_scored (hw : s.pool.waitsOn j = none) (hl : s.laneEligible j = true)
    {reloc : Option Relocation} (hr : s.relocationFor p j a (store.map (·.slot)) = reloc.map some) :
    s.considerRetrieve p j a store best
      = s.setStage p (.retrieve store (some j.serial)
          (if s.partnerEligible j then s.scoreRetrieve p j a store reloc best else best)) := by
  cases reloc <;> by_cases e : s.partnerEligible j = true <;> simp [considerRetrieve, hw, hl, hr, e]

/-- The relocation of a retrieve whose blocker has a spare (R46). -/
theorem relocationFor_eq {blocker : Option Word32} (hb : j.blocker? = blocker) {spares : Option Slot}
    {reloc : Option Relocation} (plain : blocker = none → reloc = none)
    (relocates : ∀ b, blocker = some b → ∃ x, s.bestSpare p.latch.values a.partner spares = some x
      ∧ reloc = some { blocker := b, front := a.partner, spare := x }) :
    s.relocationFor p j a spares = reloc.map Option.some := by
  cases blocker with
  | none => simp [relocationFor, hb, plain rfl]
  | some b =>
    obtain ⟨x, hx, rfl⟩ := relocates b rfl
    simp [relocationFor, hb, hx]

/-- The better of the best retrieve so far and one more, by its span answer and score (R89, R109). -/
def betterRetrieve (x : RetrievePick) (best : Option RetrievePick) : Option RetrievePick :=
  match x.answer, best with
  | .ineligible, _ => best
  | _, none => some x
  | _, some b => if x.score < b.score then some x else best

theorem betterRetrieve_eq (x : RetrievePick) (best : Option RetrievePick)
    [Decidable (x.answer ≠ .ineligible ∧ ∀ b, best = some b → x.score < b.score)] :
    betterRetrieve x best
      = if x.answer ≠ .ineligible ∧ ∀ b, best = some b → x.score < b.score then some x else best := by
  obtain ⟨tag, serial, score, legs, relocation, answer⟩ := x
  cases best with
  | none => cases answer <;> simp [betterRetrieve]
  | some b => cases answer <;> simp [betterRetrieve]

/-- A retrieve with its route, as the pass scores it (R88, R107). -/
def retrievePick (s : State) (p : Pass) (j : Job) (store : Option StorePick) (reloc : Option Relocation)
    (route : List (Place × Action)) : RetrievePick :=
  { tag := j.tag, serial := j.serial
    score := scoreOf p.latch.scoring j.cls (ageOf p.latch.jobClock j.admittedAt)
      (routeMs (match store with | some _ => (s.passLegs p route).drop 2 | none => s.passLegs p route))
      (s.penaltyOf p (s.passAnswer p route))
    legs := s.passLegs p route, relocation := reloc, answer := s.passAnswer p route }

/-- Check 5, the score and the comparison (R88, R107, R109). -/
theorem scoreRetrieve_eq (s : State) (p : Pass) (j : Job) (a : Slot) (store : Option StorePick) (reloc : Option Relocation)
    (best : Option RetrievePick) :
    s.scoreRetrieve p j a store reloc best
      = betterRetrieve (s.retrievePick p j store reloc
          (storeRoute p store ++ retrievePart (stationOf p.crane) a (reloc.map fun r => (r.front, r.spare)))) best := by
  cases store <;> rfl

/-! ### Legs, waits and windows -/

/-- Each leg of a route starts where the one before it ends (R85). -/
theorem getElem?_makeLegs (s : State) (v : Values) (x : Aisle) (o : Origin) (route : List (Place × Action)) (i : Nat)
    {t : Place} {c : Action} (h : route[i]? = some (t, c)) :
    (s.makeLegs v x o route)[i]?
      = some (s.makeLeg v x (match (route.take i).getLast? with | some b => .place b.1 | none => o) t c) := by
  induction route generalizing o i with
  | nil => cases h
  | cons q rest ih =>
    cases i with
    | zero =>
      cases h
      rfl
    | succ i =>
      rw [makeLegs, List.getElem?_cons_succ, ih _ _ h]
      cases e : (rest.take i).getLast? <;> simp [e, List.take_succ_cons, List.getLast?_cons]

theorem length_passLegs (s : State) (p : Pass) (route : List (Place × Action)) : (s.passLegs p route).length = route.length := by
  simpa using congrArg List.length (s.targets_passLegs p route)

theorem getElem?_passLegs (s : State) (p : Pass) (route : List (Place × Action)) (i : Nat) {t : Place} {c : Action}
    (h : route[i]? = some (t, c)) :
    (s.passLegs p route)[i]? = some (s.makeLeg p.latch.values (aisleOf p.crane)
      (match (route.take i).getLast?, p.latch.position with
        | some b, _ => .place b.1
        | none, some q => .position q
        | none, none => .place t) t c) := by
  cases route with
  | nil => cases h
  | cons q rest =>
    obtain ⟨target, action⟩ := q
    rw [passLegs, getElem?_makeLegs _ _ _ _ _ _ h]
    cases i with
    | zero =>
      cases h
      cases p.latch.position <;> rfl
    | succ i =>
      obtain ⟨b, e⟩ := Option.isSome_iff_exists.1
        (List.getLast?_isSome.2 (List.cons_ne_nil (target, action) (rest.take i)))
      rw [List.take_succ_cons, e]

/-- A retrieve waits just on another live retrieve for its blocker pallet (R31). -/
theorem waitsOn_ne_none (j : Job) :
    s.pool.waitsOn j ≠ none
      ↔ ∃ b, j.blocker? = some b ∧ ∃ k ∈ s.pool.jobs, k.isRetrieve = true ∧ k.pallet = b ∧ k.tag ≠ j.tag := by
  unfold Pool.waitsOn
  cases j.blocker? with
  | none => simp
  | some b =>
    rw [Option.ne_none_iff_isSome, List.find?_isSome]
    simp only [Option.some.injEq, exists_eq_left', Bool.and_eq_true, beq_iff_eq, bne_iff_ne, and_assoc]

theorem waitsOn_some {j k : Job} (h : s.pool.waitsOn j = some k) :
    k ∈ s.pool.jobs ∧ k.isRetrieve = true ∧ j.blocker? = some k.pallet ∧ k.tag ≠ j.tag := by
  unfold Pool.waitsOn at h
  cases e : j.blocker? with
  | none => simp [e] at h
  | some b =>
    rw [e] at h
    have meets := List.find?_some h
    simp only [Bool.and_eq_true, beq_iff_eq, bne_iff_ne] at meets
    obtain ⟨⟨isRetrieve, pallet⟩, tag⟩ := meets
    exact ⟨List.mem_of_find?_eq_some h, isRetrieve, by rw [pallet], tag⟩

theorem laneEligible_none {j : Job} (h : j.lane? = none) : s.laneEligible j = true := by
  simp [laneEligible, h]

/-- The lane's window (R156). -/
theorem laneEligible_iff {j : Job} {l : LaneNo} {d : Word16} (h : j.lane? = some (l, d)) :
    s.laneEligible j = true ↔ (s.laneOf l).opened = true ∧ (d - (s.laneOf l).nextDue).toNat < (s.laneOf l).window := by
  simp only [laneEligible, h, Bool.and_eq_true, decide_eq_true_eq]
  rfl

/-- The window by the distance ahead, across the wrap (R152). -/
theorem laneEligible_ahead {j : Job} {l : LaneNo} {i : Nat} (hi : i < 65536)
    (h : j.lane? = some (l, (s.laneOf l).nextDue + BitVec.ofNat 16 i)) :
    s.laneEligible j = true ↔ (s.laneOf l).opened = true ∧ i < (s.laneOf l).window := by
  have distance : ((s.laneOf l).nextDue + BitVec.ofNat 16 i - (s.laneOf l).nextDue).toNat = i := by
    rw [BitVec.add_comm, BitVec.add_sub_cancel, BitVec.toNat_ofNat, Nat.mod_eq_of_lt hi]
  rw [laneEligible_iff h, distance]

end State

/-- Settles O56: one lemma for each branch of an item, then the legs, waits and windows it reads. -/
theorem stagesOfAPass : Obligations.StagesOfAPass := by
  intro s p go hgo
  obtain rfl : go = s.setStage p := funext hgo
  refine ⟨fun j rest hs hq => State.passItem_start_cons hs hq, fun hs hq => State.passItem_start_nil hs hq, ?_, ?_, ?_,
    fun _ _ => rfl, ?_, ?_, ?_⟩
  · intro tag serial k best hs
    refine ⟨fun j a hf hj ha => State.passItem_candidate hs hf hj ha, ?_, ?_⟩
    · rintro j pick hf hj hk rfl
      exact State.passItem_lastCandidate hs hf hj hk
    · rintro j hf hj hk rfl
      rw [State.passItem_lastCandidate hs hf hj hk, State.endStoreStage, State.stallHead, State.passJob_of_find hf hj]
      rfl
  · intro store cursor best supplied hs hsupplied
    have same : ∀ j, supplied j ↔ State.supplies p cursor j := hsupplied
    refine ⟨fun h => State.passItem_noRetrieve hs fun j hj => mt (same j).2 (h j hj), ?_⟩
    intro before after j a lane blocker hl hb hj hk
    have item := State.passItem_retrieve hs
      (State.nextRetrieve_some hl (fun i hi => mt (same i).2 (hb i hi)) ((same j).1 hj)) (a := a) (by simp [Job.slot?, hk])
    have named : j.blocker? = blocker := by simp [Job.blocker?, hk]
    rw [item]
    refine ⟨fun h => congrArg some (State.considerRetrieve_waits h), fun hw hlane => ⟨?_, ?_⟩⟩
    · intro b hblocker hn
      exact congrArg some (State.considerRetrieve_noSpare hw hlane (named.trans hblocker) hn)
    · intro reloc hnone hsome
      exact congrArg some (State.considerRetrieve_scored hw hlane (State.relocationFor_eq named hnone hsome))
  · intro k hs
    simp only [State.passItem, hs]
  · intro route
    exact ⟨s.length_passLegs p route, fun i t c h => s.getElem?_passLegs p route i h⟩
  · intro j
    exact ⟨State.waitsOn_ne_none j, fun k h => State.waitsOn_some h, State.laneEligible_none,
      fun l d h => State.laneEligible_iff h, fun l i hi h => State.laneEligible_ahead hi h⟩
  · intro j a store reloc best route legs answer score st hst hroute hlegs hanswer hscore
    have route_eq : route
        = State.storeRoute p store ++ retrievePart (stationOf p.crane) a (reloc.map fun r => (r.front, r.spare)) := by
      subst hroute hst
      cases store <;> cases reloc <;> rfl
    have pick : s.retrievePick p j store reloc route
        = { tag := j.tag, serial := j.serial, score := score, legs := legs, relocation := reloc, answer := answer } := by
      subst hscore hanswer hlegs
      cases store <;> rfl
    rw [s.scoreRetrieve_eq, ← route_eq, pick]
    exact State.betterRetrieve_eq _ best

end Sys2Proof.Machine

namespace Sys2Proof.Machine

/-! ## The completion of a pass (R110, R115 to R119)

PASS_COMPLETION examines the items left by a bound on their number. That the bound is enough goes by a measure that every item
lowers: the candidates, the retrieves not yet passed by the cursor, and the turns of the stages. -/

/-! ### The items left -/

/-- How far a serial lies behind a stamp. -/
def behind (stamp serial : Word32) : Nat := (stamp - serial).toNat

/-- A retrieve that is still to come lies less behind the stamp than this. -/
def cursorBound (stamp : Word32) : Option Word32 → Nat
  | none => 2 ^ 31
  | some c => min (behind stamp c) (2 ^ 31)

/-- A serial at or before the stamp and past the cursor lies less behind the stamp than the cursor (R34). -/
theorem behind_lt_cursorBound {stamp serial : Word32} {cursor : Option Word32} (hs : atOrBefore serial stamp = true)
    (hc : ∀ c, cursor = some c → atOrBefore serial c = false) : behind stamp serial < cursorBound stamp cursor := by
  have near : behind stamp serial < 2 ^ 31 := by simpa [atOrBefore, behind] using hs
  cases cursor with
  | none => exact near
  | some c =>
    have past : 2 ^ 31 ≤ (c - serial).toNat := by simpa [atOrBefore] using hc c rfl
    have between : behind stamp serial < behind stamp c := by
      unfold behind at *
      bv_omega
    exact lt_min between near

namespace State

/-- A bound on the items that a pass has left. -/
def itemsLeft (s : State) (p : Pass) : Nat :=
  match p.stage with
  | .start => (s.pool.jobs.map (fun j => j.candidates.length)).sum + s.pool.jobs.length + 2
  | .store tag serial k _ => ((s.passJob tag serial).elim 0 fun j => j.candidates.length) - k + s.pool.jobs.length + 1
  | .retrieve _ cursor _ =>
    s.pool.jobs.countP fun j => decide (behind p.latch.stamp j.serial < cursorBound p.latch.stamp cursor)
  | .storeOnly _ => 0

section itemsLeft

variable {s t : State} {p : Pass}

theorem itemsLeft_retrieve_le {store : Option StorePick} {cursor : Option Word32} {best : Option RetrievePick}
    (hp : p.stage = .retrieve store cursor best) : s.itemsLeft p ≤ s.pool.jobs.length := by
  rw [itemsLeft, hp]
  exact List.countP_le_length

theorem passJob_mem {tag serial : Word32} {j : Job} (h : s.passJob tag serial = some j) : j ∈ s.pool.jobs := by
  unfold passJob at h
  split at h
  · rename_i k hk
    split at h
    · cases h
      exact (RackLaw.find_some hk).1
    · cases h
  · cases h

/-- One job has no more candidates than the pool. -/
theorem passJob_candidates_le (tag serial : Word32) :
    ((s.passJob tag serial).elim 0 fun j => j.candidates.length) ≤ (s.pool.jobs.map (fun j => j.candidates.length)).sum := by
  cases h : s.passJob tag serial with
  | none => exact Nat.zero_le _
  | some j => exact List.single_le_sum (by simp) _ (List.mem_map_of_mem (passJob_mem h))

theorem itemsLeft_lt_itemBound : s.itemsLeft p < s.itemBound := by
  unfold itemsLeft itemBound
  cases p.stage with
  | start => dsimp only; omega
  | store tag serial k best =>
    have few := s.passJob_candidates_le tag serial
    dsimp only
    omega
  | retrieve store cursor best =>
    have few := List.countP_le_length (l := s.pool.jobs)
      (p := fun j => decide (behind p.latch.stamp j.serial < cursorBound p.latch.stamp cursor))
    dsimp only
    omega
  | storeOnly k => dsimp only; omega

/-- The retrieve that is examined is not counted again. -/
theorem countP_behind_lt {js : List Job} {stamp : Word32} {cursor : Option Word32} {j : Job} (hj : j ∈ js)
    (hb : behind stamp j.serial < cursorBound stamp cursor) :
    (js.countP fun i => decide (behind stamp i.serial < cursorBound stamp (some j.serial)))
      < js.countP fun i => decide (behind stamp i.serial < cursorBound stamp cursor) := by
  obtain ⟨before, after, rfl⟩ := List.append_of_mem hj
  have fewer (l : List Job) : l.countP (fun i => decide (behind stamp i.serial < cursorBound stamp (some j.serial)))
      ≤ l.countP fun i => decide (behind stamp i.serial < cursorBound stamp cursor) := by
    refine List.countP_mono_left fun i _ h => ?_
    have nearer := of_decide_eq_true h
    exact decide_eq_true (nearer.trans_le ((min_le_left _ _).trans hb.le))
  have passed : ¬behind stamp j.serial < cursorBound stamp (some j.serial) := not_lt.2 (min_le_left _ _)
  rw [List.countP_append, List.countP_append, List.countP_cons_of_neg (by simpa using passed),
    List.countP_cons_of_pos (by simpa using hb)]
  exact Nat.add_lt_add_of_le_of_lt (fewer before) (Nat.lt_succ_of_le (fewer after))

theorem stallHead_jobs_length {tag serial : Word32} : (s.stallHead p tag serial).pool.jobs.length = s.pool.jobs.length := by
  unfold stallHead
  split
  · rfl
  · dsimp only
    split <;> exact List.length_map _

/-- The end of the store stage leaves at most the retrieves. -/
theorem endStoreStage_pass (s : State) (p : Pass) (tag serial : Word32) (best : Option StorePick) :
    ∃ q, (s.endStoreStage p tag serial best).engine.pass = some q
      ∧ (s.endStoreStage p tag serial best).itemsLeft q ≤ s.pool.jobs.length := by
  cases best with
  | none => exact ⟨_, rfl, stallHead_jobs_length ▸ itemsLeft_retrieve_le rfl⟩
  | some pick =>
    refine ⟨_, rfl, ?_⟩
    by_cases dual : (s.policyOf (aisleOf p.crane)).dual = true
    · refine (itemsLeft_retrieve_le (store := some pick) (cursor := none) (best := none) ?_).trans_eq (List.length_map _)
      exact if_pos dual
    · refine (Nat.le_of_eq ?_).trans (Nat.zero_le _)
      simp only [itemsLeft, if_neg dual]

/-- A retrieve examined leaves the jobs, and is the cursor of what is left. -/
theorem considerRetrieve_pass (s : State) (p : Pass) (j : Job) (a : Slot) (store : Option StorePick)
    (best : Option RetrievePick) :
    ∃ q, (s.considerRetrieve p j a store best).engine.pass = some q
      ∧ (s.considerRetrieve p j a store best).itemsLeft q
        = s.pool.jobs.countP fun i => decide (behind p.latch.stamp i.serial < cursorBound p.latch.stamp (some j.serial)) := by
  have noSpares_jobs : (s.noSpares p).pool.jobs = s.pool.jobs := by
    unfold noSpares
    split <;> rfl
  unfold considerRetrieve
  dsimp only
  split
  · exact ⟨_, rfl, rfl⟩
  · split
    · exact ⟨_, rfl, by rw [← noSpares_jobs]; rfl⟩
    · split <;> exact ⟨_, rfl, rfl⟩
    · split <;> exact ⟨_, rfl, rfl⟩

/-- Every item lowers what is left of its pass. -/
theorem passItem_lowers (h : s.passItem p = some t) : ∃ q, t.engine.pass = some q ∧ t.itemsLeft q < s.itemsLeft p := by
  cases hs : p.stage with
  | start =>
    have left : s.itemsLeft p = (s.pool.jobs.map (fun j => j.candidates.length)).sum + s.pool.jobs.length + 2 := by
      rw [itemsLeft, hs]
    simp only [passItem, hs] at h
    split at h
    · rename_i j _
      cases h
      have few := s.passJob_candidates_le j.tag j.serial
      have store : (s.setStage p (.store j.tag j.serial 0 none)).itemsLeft { p with stage := .store j.tag j.serial 0 none }
          = ((s.passJob j.tag j.serial).elim 0 fun j => j.candidates.length) - 0 + s.pool.jobs.length + 1 := rfl
      exact ⟨_, rfl, by omega⟩
    · cases h
      have few := (s.setStage p (.retrieve none none none)).itemsLeft_retrieve_le
        (p := { p with stage := .retrieve none none none }) rfl
      rw [setStage_pool] at few
      exact ⟨_, rfl, by omega⟩
  | store tag serial k best =>
    have left : s.itemsLeft p = ((s.passJob tag serial).elim 0 fun j => j.candidates.length) - k + s.pool.jobs.length + 1 := by
      rw [itemsLeft, hs]
    simp only [passItem, hs] at h
    split at h
    · rename_i a ha
      cases h
      obtain ⟨j, hj, hk⟩ := Option.bind_eq_some_iff.1 ha
      have more := (List.getElem?_eq_some_iff.1 hk).1
      have store : (s.setStage p (.store tag serial (k + 1) (s.considerSlot p tag serial a best))).itemsLeft
          { p with stage := .store tag serial (k + 1) (s.considerSlot p tag serial a best) }
          = ((s.passJob tag serial).elim 0 fun j => j.candidates.length) - (k + 1) + s.pool.jobs.length + 1 := rfl
      rw [hj, Option.elim_some] at left store
      exact ⟨_, rfl, by omega⟩
    · cases h
      obtain ⟨q, hq, few⟩ := s.endStoreStage_pass p tag serial best
      exact ⟨q, hq, by omega⟩
  | retrieve store cursor best =>
    simp only [passItem, hs] at h
    split at h
    · cases h
    · rename_i j hj
      split at h <;> cases h
      rename_i a _
      obtain ⟨q, hq, left⟩ := s.considerRetrieve_pass p j a store best
      have supplied : supplies p cursor j := by
        have found := List.find?_some hj
        cases cursor <;> simpa [supplies, and_assoc] using found
      obtain ⟨_, _, _, stamped, past⟩ := supplied
      refine ⟨q, hq, ?_⟩
      rw [left, itemsLeft, hs]
      exact countP_behind_lt (List.mem_of_find?_eq_some hj) (behind_lt_cursorBound stamped past)
  | storeOnly pick => simp [passItem, hs] at h

/-! ### PASS_COMPLETION -/

theorem passItems_done (n : Nat) (hp : s.engine.pass = some p) (h : s.passItem p = none) : passItems n s = s := by
  cases n with
  | zero => rfl
  | succ n => simp only [passItems, hp, h]

theorem passItems_succ (n : Nat) (hp : s.engine.pass = some p) (h : s.passItem p = some t) :
    passItems (n + 1) s = passItems n t := by
  simp only [passItems, hp, h]

/-- Any two bounds that are not below what is left examine the same items. -/
theorem passItems_enough (hp : s.engine.pass = some p) {m n : Nat} (hm : s.itemsLeft p ≤ m) (hn : s.itemsLeft p ≤ n) :
    passItems m s = passItems n s := by
  induction m generalizing s p n with
  | zero =>
    have done : s.passItem p = none := by
      cases h : s.passItem p with
      | none => rfl
      | some t =>
        obtain ⟨q, _, lower⟩ := passItem_lowers h
        omega
    rw [passItems_done _ hp done, passItems_done _ hp done]
  | succ m ih =>
    cases h : s.passItem p with
    | none => rw [passItems_done _ hp h, passItems_done _ hp h]
    | some t =>
      obtain ⟨q, hq, lower⟩ := passItem_lowers h
      obtain ⟨n, rfl⟩ := Nat.exists_eq_add_one_of_ne_zero (show n ≠ 0 by omega)
      rw [passItems_succ m hp h, passItems_succ n hp h]
      exact ih hq (by omega) (by omega)

/-- An item examined before PASS_COMPLETION is one that it would examine (R110). -/
theorem passCompletes_item (hp : s.engine.pass = some p) (h : s.passItem p = some t) : s.passCompletes = t.passCompletes := by
  obtain ⟨q, hq, lower⟩ := passItem_lowers h
  have items : passItems s.itemBound s = passItems t.itemBound t := by
    have bound := s.itemsLeft_lt_itemBound (p := p)
    have bound' := t.itemsLeft_lt_itemBound (p := q)
    obtain ⟨n, hn⟩ := Nat.exists_eq_add_one_of_ne_zero (show s.itemBound ≠ 0 by omega)
    rw [hn, passItems_succ n hp h]
    exact passItems_enough hq (by omega) (by omega)
  unfold passCompletes
  rw [items]

theorem passCompletes_done (hp : s.engine.pass = some p) (h : s.passItem p = none) : s.passCompletes = s.completePass p := by
  simp only [passCompletes, passItems_done _ hp h, hp]

end itemsLeft

end State

end Sys2Proof.Machine

namespace Sys2Proof.Machine

/-! ### The decision, the re-check and the dispatch -/

namespace State

variable {s : State} {p : Pass}

/-- With no byte on a line, an idle step examines one item of the pass in flight (R104). -/
theorem idle_pass (hp : s.engine.pass = some p) (host : s.lines.hostIn = []) (cranes : ∀ x : Crane, s.lines.craneIn.get x = []) :
    s.idle = s.workPass p := by
  have quiet : s.craneByte = none := List.findSome?_eq_none_iff.2 fun x _ => by rw [cranes x]
  simp only [idle, host, quiet, hp]

/-- The end of a request that found nothing (R115, R121). -/
theorem endStarved_eq (s : State) (p : Pass) :
    s.endStarved p
      = (let t := (s.setPass none).setCrane p.crane { s.crane p.crane with state := .idle, starved := true }
         if p.note || (s.crane p.crane).homeRequest then (t.trigger p.crane).engineRun else t.engineRun) := by
  have crane : (((s.setPass none).setCrane p.crane { s.crane p.crane with state := .idle, starved := true }).crane
      p.crane).homeRequest = (s.crane p.crane).homeRequest := by rw [crane_setCrane_self]
  unfold endStarved modCrane
  dsimp only [crane_setPass]
  rw [crane]
  split <;> rfl

theorem completePass_none (h : s.decision p = none) : s.completePass p = s.endStarved p := by
  simp only [completePass, h]

variable {r : PassResult}

theorem completePass_held (h : s.decision p = some r) (hh : s.held p.crane = true) : s.completePass p = s.putAside p := by
  simp only [completePass, h, hh, if_true]

theorem completePass_invalid (h : s.decision p = some r) (hh : s.held p.crane = false) (hr : s.recheck p r = .ineligible) :
    s.completePass p = s.rerun p := by
  simp only [completePass, h, hh, hr, Bool.false_eq_true, if_false]

theorem completePass_valid (h : s.decision p = some r) (hh : s.held p.crane = false) (hr : s.recheck p r ≠ .ineligible) :
    s.completePass p = s.dispatch p r (s.recheck p r) := by
  simp only [completePass, h, hh, Bool.false_eq_true, if_false]

/-- An invalid result is run again until the third (R119). -/
theorem rerun_eq (s : State) (p : Pass) :
    s.rerun p = if p.invalid < 2 then s.startPass p.crane (p.invalid + 1) p.note else s.endStarved p :=
  if_congr (Nat.succ_lt_succ_iff (b := 2)) rfl rfl

theorem recheck_ne_ineligible (s : State) (p : Pass) (r : PassResult) :
    s.recheck p r ≠ .ineligible
      ↔ (s.crane p.crane).position = p.latch.position ∧ s.storeValid p.crane r = true ∧ s.retrieveValid r = true
        ∧ s.spanAnswer p.crane (s.crane p.crane).position r.places ≠ .ineligible := by
  unfold recheck
  split
  · rename_i h
    simp only [Bool.and_eq_true, beq_iff_eq] at h
    obtain ⟨⟨position, store⟩, retrieve⟩ := h
    simp only [position, store, retrieve, true_and, resultAnswer]
  · rename_i h
    simp only [Bool.and_eq_true, beq_iff_eq] at h
    simp only [ne_eq, not_true, false_iff]
    rintro ⟨position, store, retrieve, _⟩
    exact h ⟨⟨position, store⟩, retrieve⟩

/-- A result's store part stays valid while its head can still take its slot (R117). -/
theorem storeValid_iff {x : Crane} {tag : Word32} {a : Slot} (ht : r.storeTag = some tag) (ha : r.storeSlot = some a) :
    s.storeValid x r = true ↔ ∃ j rest, s.pool.stationQueue (stationOf x) = j :: rest ∧ j.tag = tag
      ∧ r.storeSerial = some j.serial ∧ j.state = .pending ∧ a ∈ j.candidates ∧ s.storeEligible a = true := by
  unfold storeValid
  rw [ht, ha]
  dsimp only
  cases s.pool.stationQueue (stationOf x) with
  | nil => simp
  | cons j rest =>
    simp only [List.head?_cons, Bool.and_eq_true, beq_iff_eq, decide_eq_true_eq, List.cons.injEq, and_assoc,
      eq_comm (a := r.storeSerial)]
    constructor
    · exact fun h => ⟨j, rest, rfl, rfl, h⟩
    · rintro ⟨_, _, rfl, rfl, h⟩
      exact h

theorem isRetrieve_iff (j : Job) : j.isRetrieve = true ↔ ∃ a, j.slot? = some a := by
  obtain ⟨_, _, _, _, _, _, _, _ | _⟩ := j <;> simp [Job.isRetrieve, Job.slot?]

/-- A result's relocation is still the job's: from its slot's partner to a usable spare (R117). -/
theorem relocation_valid (s : State) (r : PassResult) {j : Job} {a : Slot} (ha : j.slot? = some a) :
    (match r.relocation with
      | some q => j.slot?.map Slot.partner == some q.front && s.spareUsable q.spare r.storeSlot
      | none => true) = true
      ↔ ∀ q, r.relocation = some q → q.front = a.partner ∧ s.spareUsable q.spare r.storeSlot = true := by
  cases r.relocation with
  | none => simp
  | some q => simp [ha, eq_comm (a := q.front)]

/-- A result's retrieve part stays valid while the job it met passes its checks (R117). -/
theorem retrieveValid_iff {tag : Word32} (ht : r.retrieveTag = some tag) :
    s.retrieveValid r = true ↔ ∃ j, s.pool.find tag = some j ∧ r.retrieveSerial = some j.serial ∧ j.state = .pending
      ∧ s.pool.waitsOn j = none ∧ (j.blocker? ≠ none ↔ r.relocation ≠ none)
      ∧ (∃ a, j.slot? = some a
        ∧ ∀ q, r.relocation = some q → q.front = a.partner ∧ s.spareUsable q.spare r.storeSlot = true)
      ∧ s.partnerEligible j = true ∧ s.laneEligible j = true := by
  unfold retrieveValid
  rw [ht]
  dsimp only
  cases hf : s.pool.find tag with
  | none => simp
  | some j =>
    have blockers : j.blocker?.isSome = r.relocation.isSome ↔ (j.blocker? ≠ none ↔ r.relocation ≠ none) := by
      rw [Option.ne_none_iff_isSome, Option.ne_none_iff_isSome, Bool.eq_iff_iff]
    simp only [Option.some.injEq, exists_eq_left', Bool.and_eq_true, beq_iff_eq, isRetrieve_iff, Option.isNone_iff_eq_none,
      blockers, and_assoc, eq_comm (a := r.retrieveSerial)]
    constructor
    · rintro ⟨serial, ⟨a, ha⟩, state, waits, blocker, relocation, partner, lane⟩
      exact ⟨serial, state, waits, blocker, ⟨a, ha, (s.relocation_valid r ha).1 relocation⟩, partner, lane⟩
    · rintro ⟨serial, state, waits, blocker, ⟨a, ha, relocation⟩, partner, lane⟩
      exact ⟨serial, ⟨a, ha⟩, state, waits, blocker, (s.relocation_valid r ha).2 relocation, partner, lane⟩

end State

/-- A job ordered as the store of a result, its chosen slot taken and its stalled mark clear (R26). -/
def Job.orderedAt (j : Job) (c : Option Slot) : Job := ({ j with state := .ordered }.setChosen c).setStalled false

theorem Job.orderedAt_eq (j : Job) (c : Option Slot) :
    j.orderedAt c
      = { j with
          state := .ordered
          kind := match j.kind with
            | .store st candidates _ _ => .store st candidates c false
            | .retrieve a blocker lane => .retrieve a blocker lane } := by
  obtain ⟨_, _, _, _, _, _, _, _ | _⟩ := j <;> rfl

theorem Job.orderedAt_again (j : Job) (c : Option Slot) : { j.orderedAt c with state := .ordered } = j.orderedAt c := by
  rw [j.orderedAt_eq]

/-- The jobs of a result, each changed once (R26). -/
theorem State.orderJobs_eq (s : State) (r : PassResult) :
    s.orderJobs r
      = s.setJobs (s.pool.jobs.map fun j =>
          if r.storeTag = some j.tag then j.orderedAt r.storeSlot
          else if r.retrieveTag = some j.tag then { j with state := .ordered }
          else j) := by
  unfold State.orderJobs
  cases r.storeTag with
  | none =>
    cases r.retrieveTag with
    | none => simp [State.setJobs]
    | some t => simp [State.modJobOf, modJob, eq_comm (a := t)]
  | some u =>
    cases r.retrieveTag with
    | none => simp [State.modJobOf, modJob, eq_comm (a := u), Job.orderedAt]
    | some t =>
      simp only [State.modJobOf, modJob, State.setJobs, List.map_map, Option.some.injEq, eq_comm (a := u), eq_comm (a := t)]
      congr 2
      refine List.map_congr_left fun j _ => ?_
      by_cases hu : j.tag = u
      · rw [Function.comp_apply, if_pos hu, if_pos hu]
        exact (congrArg (ite _ · _) (j.orderedAt_again _)).trans (ite_self _)
      · rw [Function.comp_apply, if_neg hu, if_neg hu]

/-- Settles O57: the bound on the items is enough, so PASS_COMPLETION goes on from any item; then one lemma for each branch of
the completion, the re-check and the dispatch. -/
theorem passesComplete : Obligations.PassesComplete := by
  intro s p
  refine ⟨?_, ?_, ?_, ?_, ?_, ?_, ?_, ?_, ?_, ?_, ?_, ?_, ?_, ?_, ?_, ?_, ?_⟩
  · intro hp
    have idle : s.passCompletes = s := by
      have items : State.passItems s.itemBound s = s := by simp only [State.itemBound, State.passItems, hp]
      simp only [State.passCompletes, items, hp]
    exact congrArg Host.Outcome.next idle
  · intro hp pending host cranes
    have idle : step s = .next (s.workPass p) := by simp only [step, pending, State.idle_pass hp host cranes]
    rw [idle, State.workPass]
    cases s.passItem p with
    | some t => rfl
    | none => rw [State.append, pending]; rfl
  · intro t hp h
    exact congrArg Host.Outcome.next (State.passCompletes_item hp h)
  · rintro hp h starved rfl
    have completes : exec .passCompletion s = .next (s.completePass p) :=
      congrArg Host.Outcome.next (State.passCompletes_done hp h)
    rw [completes, ← s.endStarved_eq p]
    refine ⟨fun hd => ?_, fun r hd hh => ?_, fun r hd hh hr => ?_, ?_⟩
    · rw [State.completePass_none hd]
    · rw [State.completePass_held hd hh, State.putAside]
    · rw [State.completePass_invalid hd hh hr, s.rerun_eq p]
    · rintro r t hd hh rfl
      refine ⟨fun hr => ?_, fun target hr => ?_⟩
      · rw [State.completePass_valid hd hh (by rw [hr]; nofun), hr]
        rfl
      · rw [State.completePass_valid hd hh (by rw [hr]; nofun), hr]
        rfl
  · intro k c b hs
    simp only [State.decision, hs]
    split <;> rfl
  · rintro k (hs | ⟨c, hs⟩) <;> simp only [State.decision, hs] <;> rfl
  · intro c b hs
    simp only [State.decision, hs]
    rfl
  · intro c hs
    simp only [State.decision, hs]
  · exact s.recheck_ne_ineligible p
  · intro r h
    exact (RackLaw.recheck_passed h).2.2
  · intro x r h
    simp only [State.storeValid, h]
  · intro r h
    simp only [State.retrieveValid, h]
  · intro r
    simp only [s.orderJobs_eq r, Job.orderedAt_eq] <;> rfl
  · exact fun _ _ _ => rfl
  · exact fun _ => rfl
  · exact fun x tag a r ht ha => State.storeValid_iff ht ha
  · exact fun tag r ht => State.retrieveValid_iff ht

end Sys2Proof.Machine

namespace Sys2Proof.Machine

/-! ## The checks of the job requests (R22, R24, R28, R29) -/

namespace State

variable (s : State)

theorem replyTo_ite (ref : Word16) (kind : Byte) {c : Prop} [Decidable c] (a b : Answer) :
    replyTo ref kind (if c then a else b) = if c then replyTo ref kind a else replyTo ref kind b :=
  apply_ite ..

theorem candidateFits_iff (a : Aisle) (p : Place) :
    s.candidateFits a p = true ↔ ∃ c ∈ slotsIn [p], s.inGeometry c = true ∧ c.aisle = a := by
  cases p <;> simp [candidateFits, slotsIn]

/-- A candidate that is no slot in the geometry of the aisle. -/
theorem candidates_unfit (a : Aisle) (ps : List Place) :
    (!ps.all (s.candidateFits a)) = true
      ↔ ∃ p ∈ ps, ∀ c ∈ slotsIn [p], s.inGeometry c = false ∨ c.aisle ≠ a := by
  rw [Bool.not_eq_true', List.all_eq_false]
  simp only [candidateFits_iff, not_exists, not_and, Bool.eq_false_iff, ← Decidable.imp_iff_not_or, ne_eq]

theorem tagUsed_iff (tag : Word32) : (s.pool.find tag).isSome = true ↔ ∃ k ∈ s.pool.jobs, k.tag = tag := by
  simp [Pool.find]

theorem palletBusy_iff (pallet : Word32) : s.palletBusy pallet = true ↔ ∃ k ∈ s.pool.jobs, k.pallet = pallet := by
  simp [palletBusy]

theorem useAt_isSome_iff (t : List Entry) (a : Slot) : (useAt t a).isSome = true ↔ ∃ e ∈ t, e.slot = a := by
  simp [useAt]

/-- A blocker is for a REAR slot of a double-deep aisle only (R24). -/
theorem blocker_misplaced (blocker : Option Word32) (a : Slot) :
    (blocker.isSome && (a.depth == .front || !(s.geometryOf a.aisle).doubleDeep)) = true
      ↔ blocker ≠ none ∧ (a.depth = .front ∨ (s.geometryOf a.aisle).doubleDeep = false) := by
  simp [Option.isSome_iff_ne_none]

/-- The lane checks in their order (R24). -/
theorem laneRefusal_eq (lane : Option (LaneNo × Word16)) :
    s.laneRefusal lane
      = if lane.any (fun n => !(s.laneOf n.1).opened) then some .laneClosed
        else if lane.any (fun n =>
          32768 ≤ (n.2 - (s.laneOf n.1).nextDue).toNat || (s.laneOf n.1).delivered.contains n.2) then some .staleSequence
        else if lane ≠ none ∧ ∃ k ∈ s.pool.jobs, k.lane? = lane then some .duplicateSequence
        else none := by
  cases lane with
  | none => simp [laneRefusal]
  | some n =>
    obtain ⟨l, d⟩ := n
    have stale : (s.laneOf l).stale d
        = (decide (32768 ≤ (d - (s.laneOf l).nextDue).toNat) || (s.laneOf l).delivered.contains d) := by
      rw [Lane.stale, ahead, List.contains_eq_mem]
    have held : (s.pool.holder l d).isSome = true ↔ some (l, d) ≠ none ∧ ∃ k ∈ s.pool.jobs, k.lane? = some (l, d) := by
      simp [Pool.holder]
    simp only [laneRefusal, stale, held, Option.any_some]

/-- A request refused with a code, if there is one. -/
def refusedBy (o : Option ReplyCode) (a : Answer) : Answer :=
  match o with
  | some code => s.refuse code
  | none => a

theorem refusedBy_ite {c : Prop} [Decidable c] (code : ReplyCode) (o : Option ReplyCode) (a : Answer) :
    s.refusedBy (if c then some code else o) a = if c then s.refuse code else s.refusedBy o a :=
  apply_ite (s.refusedBy · a) ..

/-- ADMIT RETRIEVE of a slot (R24). -/
theorem admitRetrieve_slot {r : RetrieveRequest} {a : Slot} (e : r.place = .slot a) :
    s.admitRetrieve r
      = if !s.inGeometry a then s.refuse .badPlace
        else if r.blocker.isSome && (a.depth == .front || !(s.geometryOf a.aisle).doubleDeep) then s.refuse .badPlace
        else if (s.pool.find r.tag).isSome then s.refuse .duplicateTag
        else if s.palletBusy r.pallet then s.refuse .palletBusy
        else if (useAt s.table a).isSome then s.refuse .slotReserved
        else s.refusedBy (s.laneRefusal r.lane)
          (if Config.poolSize ≤ s.pool.jobs.length then (s, .full, .fullPool) else s.takeRetrieve r a) := by
  unfold admitRetrieve
  rw [e]
  rfl

end State

/-- Settles O31: its checks one by one, then the job by the model's own operations. -/
theorem admitStoreTaken : Obligations.AdmitStoreTaken := by
  intro r1 r0 fields r s h hs hh hr
  have answer : exec (.admitStore (r1 :: r0 :: fields)) s = .next (State.replyTo (r1 ++ r0) 0x01#8 (h.admitStore r)) :=
    congrArg Host.Outcome.next (takeRequest_read hs hh hr ..)
  rw [answer]
  refine ⟨fun other => ?_, ?_⟩
  · unfold State.admitStore
    split
    · rename_i st e
      exact absurd e (other st)
    · rfl
  · rintro st j e rfl
    simp only [State.admitStore, e, State.replyTo_ite]
    exact congrArg Host.Outcome.next
      (if_congr (by simp) rfl <| if_congr (h.candidates_unfit ..) rfl <| if_congr (h.tagUsed_iff _) rfl <|
        if_congr (h.palletBusy_iff _) rfl rfl)

/-- Settles O32: its checks one by one, the lane's three among them, then the job and its entry by the model's own operations. -/
theorem admitRetrieveTaken : Obligations.AdmitRetrieveTaken := by
  intro r1 r0 fields r s h hs hh hr
  have answer : exec (.admitRetrieve (r1 :: r0 :: fields)) s = .next (State.replyTo (r1 ++ r0) 0x02#8 (h.admitRetrieve r)) :=
    congrArg Host.Outcome.next (takeRequest_read hs hh hr ..)
  rw [answer]
  refine ⟨fun other => ?_, ?_⟩
  · unfold State.admitRetrieve
    split
    · rename_i a e
      exact absurd e (other a)
    · rfl
  · rintro a j t e rfl rfl
    simp only [h.admitRetrieve_slot e, h.laneRefusal_eq, State.refusedBy_ite, State.replyTo_ite]
    refine congrArg Host.Outcome.next
      (if_congr (by simp) rfl <| if_congr (h.blocker_misplaced ..) rfl <| if_congr (h.tagUsed_iff _) rfl <|
        if_congr (h.palletBusy_iff _) rfl <| if_congr (State.useAt_isSome_iff ..) rfl <| if_congr Iff.rfl rfl <|
        if_congr Iff.rfl rfl <| if_congr Iff.rfl rfl ?_)
    rw [State.refusedBy, State.replyTo_ite]
    refine if_congr Iff.rfl rfl ?_
    unfold State.takeRetrieve
    cases r.lane <;> rfl

/-- Settles O33: both commands go by the job their tag finds and by its kind. -/
theorem amendAndCancelTaken : Obligations.AmendAndCancelTaken := by
  refine ⟨?_, ?_⟩
  · intro r1 r0 fields tag ps s h hs hh hr
    have answer : exec (.amendStore (r1 :: r0 :: fields)) s = .next (State.replyTo (r1 ++ r0) 0x03#8 (h.amendStore (tag, ps))) :=
      congrArg Host.Outcome.next (takeRequest_read hs hh hr ..)
    rw [answer]
    refine ⟨fun free => ?_, fun j slot blocker lane hf hk => ?_, fun j st cands chosen stalled hf hk => ?_⟩
    · simp only [State.amendStore, find_none free]
      rfl
    · have notStore : j.station? = none := by simp only [Job.station?, hk]
      simp only [State.amendStore, hf, notStore]
      rfl
    · have store : j.station? = some st := by simp only [Job.station?, hk]
      simp only [State.amendStore, hf, store, State.replyTo_ite]
      exact congrArg Host.Outcome.next (if_congr Iff.rfl rfl <| if_congr (h.candidates_unfit ..) rfl rfl)
  · intro r1 r0 fields tag skip s h hs hh hr
    have answer : exec (.cancelJob (r1 :: r0 :: fields)) s = .next (State.replyTo (r1 ++ r0) 0x04#8 (h.cancelJob (tag, skip))) :=
      congrArg Host.Outcome.next (takeRequest_read hs hh hr ..)
    rw [answer]
    refine ⟨fun free => ?_, fun j hf busy => ?_, fun j st cands chosen stalled hf pending hk => ?_, ?_⟩
    · simp only [State.cancelJob, find_none free]
      rfl
    · simp only [State.cancelJob, hf, if_pos busy]
      rfl
    · have named := (RackLaw.find_some hf).2
      have lane : j.lane? = none := by simp only [Job.lane?, hk]
      have store : j.station? = some st := by simp only [Job.station?, hk]
      simp only [State.cancelJob, hf, pending, ne_eq, not_true, if_false, State.skipDelivery, lane, State.cancelTriggers, hk,
        State.isHead, store, beq_iff_eq, named]
      rfl
    · rintro j a blocker lane t hf pending hk rfl
      have named : j.lane? = lane := by simp only [Job.lane?, hk]
      simp only [State.cancelJob, hf, pending, ne_eq, not_true, if_false, State.skipDelivery, named, State.cancelTriggers, hk]
      rfl

end Sys2Proof.Machine

namespace Sys2Proof.Machine

/-! ## The jobs of an order that starts, or ends without a start (R26, R132, R134) -/

/-- A change of an order's jobs, made once for each of them, is one change of the pool's. -/
theorem foldl_modJobOf (s : State) (o : Order) {f : Job → Job} (again : ∀ j, f (f j) = f j) :
    o.tags.foldl (fun t i => t.modJobOf i f) s
      = s.setJobs (s.pool.jobs.map fun j => if o.storeTag = some j.tag ∨ o.retrieveTag = some j.tag then f j else j) := by
  unfold Order.tags
  cases o.storeTag with
  | none =>
    cases o.retrieveTag with
    | none => simp [State.setJobs]
    | some r => simp [State.modJobOf, modJob, eq_comm (a := r)]
  | some t =>
    cases o.retrieveTag with
    | none => simp [State.modJobOf, modJob, eq_comm (a := t)]
    | some r =>
      simp only [Option.toList_some, List.singleton_append, List.foldl_cons, List.foldl_nil, State.modJobOf, modJob,
        State.setJobs, List.map_map, Option.some.injEq, eq_comm (a := t), eq_comm (a := r)]
      congr 2
      refine List.map_congr_left fun j _ => ?_
      rw [Function.comp_apply]
      by_cases ht : j.tag = t
      · rw [if_pos ht, if_pos (c := j.tag = t ∨ j.tag = r) (.inl ht), again, ite_self]
      · simp only [ht, if_false, false_or]

theorem activateJobs_eq (s : State) (o : Order) :
    s.activateJobs o = s.setJobs (s.pool.jobs.map fun j =>
      if o.storeTag = some j.tag ∨ o.retrieveTag = some j.tag then { j with state := .active } else j) :=
  foldl_modJobOf s o fun _ => rfl

theorem returnJobs_eq (s : State) (o : Order) :
    s.returnJobs o = s.setJobs (s.pool.jobs.map fun j =>
      if o.storeTag = some j.tag ∨ o.retrieveTag = some j.tag then ({ j with state := .pending }).setChosen none else j) := by
  refine foldl_modJobOf s o (f := fun j => ({ j with state := .pending }).setChosen none) fun j => ?_
  obtain ⟨_, _, _, _, _, _, _, _ | _⟩ := j <;> rfl

/-! ## The records of an order (R128, R129) -/

section
variable {s : State} {x : Crane}

theorem hearCrane_enrolled (h : (s.crane x).state ≠ .offline) (record : State → State) :
    s.hearCrane x record = record (s.setSilence x 0) :=
  if_pos ((s.enrolled_iff x).2 h)

variable {o : Order} (ho : (s.crane x).order = some o)
include ho

theorem namedOrder_id : s.namedOrder x o.id = some o := namedOrder_eq_some.2 ⟨ho, rfl⟩

theorem takeAccept_sent (h : o.state = .sent) : s.takeAccept x o.id = s.startOrder x false := by
  simp only [State.takeAccept, namedOrder_id ho, h]

theorem takeAccept_revoking (h : o.state = .revoking) (hl : (s.crane x).state ≠ .lost) :
    s.takeAccept x o.id = s.modOrder x fun q => { q with lateAccept := true } := by
  simp only [State.takeAccept, namedOrder_id ho, h, if_neg hl]

theorem takeRevoked_revoking (h : o.state = .revoking) (started : Bool) :
    s.takeRevoked x o.id started = if started then s.startOrder x true else s.revokeOrder x o := by
  simp only [State.takeRevoked, namedOrder_id ho, h]

theorem takeDecline_sent (h : o.state = .sent ∨ o.state = .revoking) {reason : Byte} (hr : reason ≠ 0) :
    s.takeDecline x o.id reason = s.declineOrder x o reason := by
  rcases h with h | h <;> simp only [State.takeDecline, if_neg hr, namedOrder_id ho, h]

theorem takeLegDone_sent (h : o.state = .sent ∨ o.state = .revoking) (hl : (s.crane x).state ≠ .lost) (i : Nat)
    (bay level : Byte) : s.takeLegDone x o.id i bay level = (s.startOrder x true).markLegDone x o i bay level := by
  rcases h with h | h <;> simp only [State.takeLegDone, namedOrder_id ho, if_neg hl, h]

theorem takeOrderDone_sent (h : o.state = .sent ∨ o.state = .revoking) (hl : (s.crane x).state ≠ .lost)
    (bay level : Byte) : s.takeOrderDone x o.id bay level = (s.startOrder x true).finishOrder x o bay level := by
  rcases h with h | h <;> simp only [State.takeOrderDone, namedOrder_id ho, if_neg hl, h]

theorem takeOrderDone_running (h : o.state = .running) (hl : (s.crane x).state ≠ .lost) (bay level : Byte) :
    s.takeOrderDone x o.id bay level = s.finishOrder x o bay level := by
  simp only [State.takeOrderDone, namedOrder_id ho, if_neg hl, h]

theorem modOrder_eq (f : Order → Order) : s.modOrder x f = s.setCrane x { s.crane x with order := some (f o) } := by
  rw [State.modOrder, State.modCrane, ho, Option.map_some]

/-! ## The start of an order (R132, R134, R135) -/

theorem takeKindState_eq (hl : (s.crane x).state ≠ .lost) :
    s.takeKindState x = s.setCrane x { s.crane x with state := stateOfKind o.kind o.state } := by
  unfold State.takeKindState
  split
  · rename_i e
    cases ho.symm.trans e
  · rename_i q e
    cases ho.symm.trans e
    exact if_neg hl

theorem takeKindState_lost (hl : (s.crane x).state = .lost) :
    s.takeKindState x = (s.setCrane x { s.crane x with state := stateOfKind o.kind o.state }).craneStateEvent x .reconciled := by
  unfold State.takeKindState
  split
  · rename_i e
    cases ho.symm.trans e
  · rename_i q e
    cases ho.symm.trans e
    exact if_pos hl

/-- A start by its crane's state: the kind's state is taken unless the crane is FAULTED. -/
theorem startOrder_eq (proved : Bool) {t : State} (ht : t = (s.activateJobs o).setCrane x { s.crane x with
      timeouts := 0
      order := some { o with
        state := if (s.crane x).state == .faulted then .suspended else .running
        legs := if proved || (s.crane x).state == .faulted then invalidate o.legs 0 else o.legs
        lastCapture := some s.sup.durationClock } }) :
    s.startOrder x proved = if (s.crane x).state == .faulted then t else t.takeKindState x := by
  subst ht
  have crane : (s.activateJobs o).crane x = s.crane x := by rw [activateJobs_eq]; rfl
  have sup : (s.activateJobs o).sup = s.sup := by rw [activateJobs_eq]; rfl
  simp only [State.startOrder, ho, State.capture, State.modOrder, State.modCrane, State.crane_setCrane_self,
    setCrane_setCrane, crane, Option.map_some, State.setCrane_sup, sup]

theorem startOrder_faulted (hf : (s.crane x).state = .faulted) (proved : Bool) :
    s.startOrder x proved = (s.activateJobs o).setCrane x { s.crane x with
      timeouts := 0
      order := some { o with
        state := .suspended, lastCapture := some s.sup.durationClock
        legs := o.legs.modify 0 fun l => { l with valid := false } } } := by
  rw [startOrder_eq ho proved rfl]
  simp [hf, invalidate]

theorem startOrder_other (hf : (s.crane x).state ≠ .faulted) (hl : (s.crane x).state ≠ .lost) (proved : Bool) :
    s.startOrder x proved = (s.activateJobs o).setCrane x { s.crane x with
      state := stateOfKind o.kind .running, timeouts := 0
      order := some { o with
        state := .running, lastCapture := some s.sup.durationClock
        legs := if proved then o.legs.modify 0 fun l => { l with valid := false } else o.legs } } := by
  rw [startOrder_eq ho proved rfl, beq_false_of_ne hf, if_neg Bool.false_ne_true,
    takeKindState_eq (by rw [State.crane_setCrane_self]) (by rwa [State.crane_setCrane_self]),
    State.crane_setCrane_self, setCrane_setCrane, Bool.or_false]
  rfl

theorem startOrder_lost (hl : (s.crane x).state = .lost) (proved : Bool) :
    s.startOrder x proved = ((s.activateJobs o).setCrane x { s.crane x with
      state := stateOfKind o.kind .running, timeouts := 0
      order := some { o with
        state := .running, lastCapture := some s.sup.durationClock
        legs := if proved then o.legs.modify 0 fun l => { l with valid := false } else o.legs } }).craneStateEvent x
          .reconciled := by
  have notFaulted : (s.crane x).state ≠ .faulted := by rw [hl]; nofun
  rw [startOrder_eq ho proved rfl, beq_false_of_ne notFaulted, if_neg Bool.false_ne_true,
    takeKindState_lost (by rw [State.crane_setCrane_self]) (by rwa [State.crane_setCrane_self]),
    State.crane_setCrane_self, setCrane_setCrane, Bool.or_false]
  rfl

end

/-- The state a started order gives its crane (R124). -/
theorem stateOfKind_running (k : OrderKind) :
    stateOfKind k .running = match k with | .job => .running | .yield => .yielding | .home => .homing := by
  cases k <;> rfl

/-- Settles O45: each record goes by the order it names to one start, which goes by the crane's state. -/
theorem ordersStart : Obligations.OrdersStart := by
  rintro x s h u o c kind rfl rfl ho rfl rfl
  have ho' : ((s.setSilence x 0).crane x).order = some o := ho
  have jobs := activateJobs_eq (s.setSilence x 0) o
  have kinds := stateOfKind_running o.kind
  have heard (hs : (s.crane x).state ≠ .offline) (record : State → State) :
      Host.Outcome.next (s.hearCrane x record) = (.next (record (s.setSilence x 0)) : Host.Outcome State Fault Refusal) :=
    congrArg _ (hearCrane_enrolled hs record)
  simp only [List.mem_cons, List.not_mem_nil, or_false, not_or]
  refine ⟨?_, ?_, ?_, ?_, ?_, ?_, ?_⟩
  · rintro sent ⟨enrolled, notFaulted, notLost⟩
    refine (heard enrolled _).trans (congrArg _ ?_)
    rw [takeAccept_sent ho' sent, startOrder_other ho' notFaulted notLost, jobs, kinds]
    rfl
  · intro sent lost
    refine (heard (by rw [lost]; nofun) _).trans (congrArg _ ?_)
    rw [takeAccept_sent ho' sent, startOrder_lost ho' lost, jobs, kinds]
    rfl
  · intro faulted
    have enrolled : (s.crane x).state ≠ .offline := by rw [faulted]; nofun
    refine ⟨fun sent => (heard enrolled _).trans (congrArg _ ?_), fun revoking => (heard enrolled _).trans (congrArg _ ?_)⟩
    · rw [takeAccept_sent ho' sent, startOrder_faulted ho' faulted, jobs]
      rfl
    · rw [takeRevoked_revoking ho' revoking, if_pos rfl, startOrder_faulted ho' faulted, jobs]
      rfl
  · rintro revoking ⟨enrolled, notLost⟩
    refine (heard enrolled _).trans (congrArg _ ?_)
    rw [takeAccept_revoking ho' revoking notLost, modOrder_eq ho']
    rfl
  · rintro revoking ⟨enrolled, notFaulted, notLost⟩
    refine (heard enrolled _).trans (congrArg _ ?_)
    rw [takeRevoked_revoking ho' revoking, if_pos rfl, startOrder_other ho' notFaulted notLost, jobs, kinds]
    rfl
  · rintro waits ⟨enrolled, notLost⟩ index bay level
    exact ⟨(heard enrolled _).trans (congrArg _ (takeLegDone_sent ho' waits notLost ..)),
      (heard enrolled _).trans (congrArg _ (takeOrderDone_sent ho' waits notLost ..))⟩
  · rintro ⟨-, notFaulted, notLost⟩
    rw [startOrder_other ho' notFaulted notLost, jobs, kinds]
    rfl

end Sys2Proof.Machine

namespace Sys2Proof.Machine

/-! ## The accept timer (R133) -/

section
variable {s : State} {x : Crane} {o : Order} (ho : (s.crane x).order = some o)
include ho

theorem acceptReached_iff :
    s.acceptReached x = true ↔ (o.state = .sent ∨ o.state = .revoking) ∧ s.sup.timing.acceptLimit ≤ o.acceptTimer := by
  simp [State.acceptReached, ho]

theorem exec_acceptTimer_reached (hw : o.state = .sent ∨ o.state = .revoking)
    (hl : s.sup.timing.acceptLimit ≤ o.acceptTimer) : exec (.acceptTimerExpiry x) s = .next (s.expireAccept x) :=
  congrArg Host.Outcome.next (if_pos ((acceptReached_iff ho).2 ⟨hw, hl⟩))

/-- The REVOKE of an order, with its timer restarted (R133). -/
theorem expireAccept_eq {t : State} (ht : t = (s.setCrane x { s.crane x with
      order := some { o with state := .revoking, acceptTimer := 0 } }).emit x (revokeFrame o.id)) :
    s.expireAccept x = match o.state with
      | .sent => t.failYield x
      | .revoking => t
      | _ => s := by
  subst ht
  simp only [State.expireAccept, ho, State.modOrder, State.modCrane, Option.map_some] <;> rfl

/-- A waiting crane's order is discarded (R65). -/
theorem discardWaiting_eq :
    s.discardWaiting x
      = (((((s.returnJobs o).revertEntries o).setPair (aisleOf x) none).modOrder (sibling x) fun q =>
          { q with yieldPartner := none }).dropOrder x).spanToPosition x := by
  simp only [State.discardWaiting, ho]

end

theorem revertEntries_eq (s : State) (o : Order) {t : List Entry}
    (ht : t = match o.storeTag with | some a => s.table.filter fun e => e.use != .storeDest a | none => s.table) :
    s.revertEntries o
      = { s with table :=
          match o.retrieveTag with
          | some b => (t.filter fun e => e.use != .blockerSource b).map fun e =>
              if e.use = .spareInUse b then { e with use := .spareFree } else e
          | none => t } := by
  subst ht
  unfold State.revertEntries
  cases o.storeTag <;> cases o.retrieveTag <;> rfl

/-- Settles O47: an expiry goes by the order's state and its yield partner. -/
theorem acceptTimersExpire : Obligations.AcceptTimersExpire := by
  refine ⟨?_, ?_, ?_, ?_⟩
  · rintro x s t o ho ht
    have revoked := expireAccept_eq ho ht
    have order : (t.crane x).order = some { o with state := .revoking, acceptTimer := 0 } := by
      rw [ht]
      exact congrArg CraneCtx.order (s.crane_setCrane_self x _)
    refine ⟨fun reached => ⟨fun revoking => ?_, fun sent alone => ?_, fun w sent paired => ?_⟩, fun unreached => ?_⟩
    · rw [exec_acceptTimer_reached ho (.inr revoking) reached, revoked, revoking]
    · rw [exec_acceptTimer_reached ho (.inl sent) reached, revoked, sent]
      exact congrArg _ (failYield_none order alone)
    · rw [exec_acceptTimer_reached ho (.inl sent) reached, revoked, sent]
      exact congrArg _ (failYield_some order paired)
    · have notReached : ¬s.acceptReached x = true := by
        rw [acceptReached_iff ho]
        simp only [List.mem_cons, List.not_mem_nil, or_false] at unreached
        rintro ⟨waits, reached⟩
        exact unreached.elim (fun h => absurd reached (not_le.2 h)) fun h => h waits
      exact congrArg Host.Outcome.next (if_neg notReached)
  · intro x s ho
    have notReached : ¬s.acceptReached x = true := by simp [State.acceptReached, ho]
    exact congrArg Host.Outcome.next (if_neg notReached)
  · rintro s t w o ho rfl
    exact discardWaiting_eq ho
  · intro s o t x f ht
    exact ⟨returnJobs_eq s o, revertEntries_eq s o ht, rfl⟩

end Sys2Proof.Machine

namespace Sys2Proof.Machine

/-! ## The ends of an order that did not start (R134, R136) -/

section
variable {s : State} {x : Crane} {o : Order}

/-! ### What leaves the cranes as they are -/

theorem watch_orders (s : State) (old new : Nat) : (s.watch old new).orders = s.orders := by
  rw [State.watch_eq]
  split
  · rfl
  · split <;> rfl

theorem removeJob_orders (s : State) (tag : Word32) (clears : Bool) : (s.removeJob tag clears).orders = s.orders := by
  unfold State.removeJob
  split
  · rfl
  · rename_i j _
    dsimp only
    rw [watch_orders]
    cases j.lane? <;> rfl

theorem declineJob_orders (s : State) (tag : Word32) (reason : Byte) : (s.declineJob tag reason).orders = s.orders := by
  unfold State.declineJob
  split
  · rfl
  · split
    · rfl
    · exact removeJob_orders ..

theorem declineJobs_orders (s : State) (o : Order) (reason : Byte) : (s.declineJobs o reason).orders = s.orders := by
  have each (tags : List Word32) (t : State) : (tags.foldl (fun t tag => t.declineJob tag reason) t).orders = t.orders := by
    induction tags generalizing t with
    | nil => rfl
    | cons tag tags ih => rw [List.foldl_cons, ih, declineJob_orders]
  unfold State.declineJobs
  split
  · exact each _ _
  · rfl

theorem sibling_sibling (x : Crane) : sibling (sibling x) = x := by
  revert x; decide

/-- A trigger does not reach a crane that is neither IDLE nor QUEUED (R95). -/
theorem trigger_bound (h : (s.crane x).state ∈ [.ordered, .running, .yielding, .homing, .faulted, .lost]) :
    s.trigger x = s := by
  simp only [List.mem_cons, List.not_mem_nil, or_false] at h
  obtain h | h | h | h | h | h := h <;> simp only [State.trigger, h]

theorem crane_craneStateEvent_other {y : Crane} (h : y ≠ x) (cause : StateCause) :
    (s.craneStateEvent x cause).crane y = s.crane y :=
  (s.crane_modCrane x y fun c => { c with stateCause := some cause }).trans (if_neg h.symm)

theorem crane_setIdle_other {y : Crane} (h : y ≠ x) : (s.setIdle x).crane y = s.crane y := by
  have state : (s.setCraneState x .idle).crane y = s.crane y := by
    rw [State.setCraneState, State.crane_modCrane, if_neg h.symm]
  unfold State.setIdle
  dsimp only
  split
  · rw [crane_craneStateEvent_other h, state]
  · exact state

/-- A change of a crane's span leaves the state of its sibling, when no trigger reaches that. -/
theorem crane_spanToPosition_sibling
    (h : (s.crane x).state ∈ [.ordered, .running, .yielding, .homing, .faulted, .lost]) :
    (s.spanToPosition (sibling x)).crane x = s.crane x := by
  unfold State.spanToPosition
  split
  · unfold State.changeSpan State.shrunkFrom
    split
    · rw [sibling_sibling, trigger_bound (s := s.setSpan _ _) h]
      rfl
    · rfl
  · rfl

/-- The partner's discard leaves the state of the crane that yields (R65). -/
theorem state_discardWaiting_sibling
    (h : (s.crane x).state ∈ [.ordered, .running, .yielding, .homing, .faulted, .lost]) :
    ((s.discardWaiting (sibling x)).crane x).state = (s.crane x).state := by
  unfold State.discardWaiting
  split
  · rfl
  · rename_i q _
    have crane : (((((s.returnJobs q).revertEntries q).setPair (aisleOf (sibling x)) none).modOrder
        (sibling (sibling x)) fun q => { q with yieldPartner := none }).dropOrder (sibling x)).crane x
          = { s.crane x with order := (s.crane x).order.map fun q => { q with yieldPartner := none } } := by
      rw [State.dropOrder, State.crane_modCrane, if_neg (sibling_ne x), sibling_sibling, State.modOrder,
        State.crane_modCrane_self, returnJobs_eq]
      rfl
    dsimp only
    rw [crane_spanToPosition_sibling, crane]
    rw [crane]
    exact h

/-! ### REVOKED and DECLINE -/

/-- A REVOKED not started by the crane's accept timeouts and state (R134). -/
theorem endRevoked_eq {c : CraneCtx} (hn : (s.crane x).timeouts = c.timeouts) (hs : (s.crane x).state = c.state) :
    s.endRevoked x
      = if c.timeouts + 1 < 2 then
          (if c.state = .faulted then
            ((s.dropOrder x).spanToPosition x).modCrane x fun d => { d with timeouts := c.timeouts + 1 }
          else
            (((s.dropOrder x).spanToPosition x).modCrane x fun d => { d with timeouts := c.timeouts + 1 }).becomeIdle x)
        else if c.state = .faulted then
          ((s.dropOrder x).spanToPosition x).modCrane x fun d => { d with timeouts := 0 }
        else
          ((((s.dropOrder x).spanToPosition x).modCrane x fun d => { d with timeouts := 0 }).setCraneState x
            .faulted).craneStateEvent x .acceptTimeout := by
  unfold State.endRevoked
  dsimp only
  rw [hn, hs]
  exact if_congr Iff.rfl (if_congr beq_iff_eq rfl rfl) (if_congr beq_iff_eq rfl rfl)

/-- A DECLINE's end by the crane's state (R136). -/
theorem endDeclined_eq {st : CraneState} (hs : (s.crane x).state = st) (w : Option Crane) :
    s.endDeclined x w
      = if st = .faulted then
          (((s.modCrane x fun d => { d with timeouts := 0 }).dropOrder x).spanToPosition x).releasedTriggers w
        else (((s.modCrane x fun d => { d with timeouts := 0 }).dropOrder x).spanToPosition x).idleAfter w x := by
  rw [State.endDeclined, hs]

theorem declineJobs_eq (s : State) (o : Order) (reason : Byte) :
    s.declineJobs o reason
      = if o.kind = .job then
          (o.storeTag.toList ++ o.retrieveTag.toList).foldl (fun t tag => t.declineJob tag reason) (s.revertEntries o)
        else s := by
  unfold State.declineJobs
  cases o.kind <;> rfl

/-- One decline of a live job (R27). -/
theorem declineJob_eq {j : Job} (hf : s.pool.find j.tag = some j) (reason : Byte) :
    s.declineJob j.tag reason
      = if j.declines = 0 then
          s.modJobOf j.tag fun k => ({ k with declines := k.declines + 1, state := .pending }).setChosen none
        else (s.removeJob j.tag false).raise (.jobFailed j.tag reason) := by
  simp only [State.declineJob, hf]
  exact if_congr (by omega) rfl rfl

end

/-- Settles O46: each end goes by the crane's timeouts and state, which the ends of its jobs and of its partner leave. -/
theorem ordersEndUnstarted : Obligations.OrdersEndUnstarted := by
  rintro x reason s h u v w o c rfl rfl ho enrolled hu hv hw
  have ho' : ((s.setSilence x 0).crane x).order = some o := ho
  have heard (record : State → State) :
      Host.Outcome.next (s.hearCrane x record) = (.next (record (s.setSilence x 0)) : Host.Outcome State Fault Refusal) :=
    congrArg _ (hearCrane_enrolled enrolled record)
  refine ⟨fun revoking => ?_, fun alone waits hr => ?_, ?_, ?_⟩
  · refine (heard _).trans (congrArg _ ?_)
    have ends : v = (u.returnJobs o).revertEntries o := by rw [hv, returnJobs_eq]
    obtain ⟨timeouts, state⟩ : (v.crane x).timeouts = (s.crane x).timeouts ∧ (v.crane x).state = (s.crane x).state := by
      have crane : v.crane x = u.crane x := by rw [hv]; rfl
      rw [crane, hu]
      split
      · rw [State.anomaly, State.crane_modCrane_self]
        exact ⟨rfl, rfl⟩
      · exact ⟨rfl, rfl⟩
    rw [takeRevoked_revoking ho' revoking, if_neg Bool.false_ne_true, ← endRevoked_eq timeouts state, ends, hu]
    rfl
  · refine (heard _).trans (congrArg _ ?_)
    have jobs : w = (s.setSilence x 0).declineJobs o reason := by rw [hw, declineJobs_eq]
    have state : (w.crane x).state = (s.crane x).state := by
      rw [jobs, State.crane, declineJobs_orders]
      rfl
    rw [takeDecline_sent ho' waits hr, State.declineOrder, partnerOf_eq ho', alone]
    rw [jobs] at state ⊢
    exact endDeclined_eq state none
  · rintro y z kind partner waits bound hr rfl rfl
    refine (heard _).trans (congrArg _ ?_)
    have state : ((((s.setSilence x 0).discardWaiting (sibling x)).setIdle (sibling x)).crane x).state
        = (s.crane x).state := by
      rw [crane_setIdle_other (sibling_ne x).symm, state_discardWaiting_sibling (s := s.setSilence x 0) bound]
      rfl
    have noJobs : (((s.setSilence x 0).discardWaiting (sibling x)).setIdle (sibling x)).declineJobs o reason
        = ((s.setSilence x 0).discardWaiting (sibling x)).setIdle (sibling x) := by
      rw [declineJobs_eq, kind]
      rfl
    rw [takeDecline_sent ho' waits hr, State.declineOrder, partnerOf_eq ho', partner, State.releaseWaiting, noJobs]
    exact endDeclined_eq state _
  · exact fun j t hf => declineJob_eq hf reason

end Sys2Proof.Machine

namespace Sys2Proof.Machine

/-! ## The end of a RUNNING order (R64, R139, R140) -/

section
variable {s : State} {x : Crane} {o : Order}

/-- The order of a crane that reports a position at its end keeps its partner. -/
theorem order_reported (ho : (s.crane x).order = some o) (b l k : Nat) :
    ∃ q, (((s.reportPosition x b l).markLegs x k).crane x).order = some q ∧ q.yieldPartner = o.yieldPartner := by
  have order : ((s.reportPosition x b l).crane x).order = some o := by
    rw [reportPosition_bound (.inl (by rw [ho]; nofun)), (sameButPlace_takePosition s x b l).order, ho]
  rw [markLegs_eq order, State.crane_setCrane_self]
  exact ⟨_, rfl, rfl⟩

theorem finishOrder_job (h : o.kind = .job) (bay level : Byte) :
    s.finishOrder x o bay level
      = (((((((s.reportPosition x bay.toNat level.toNat).markLegs x o.legs.length).endStore o).endRetrieve o).dropOrder
          x).spanToPosition x).setIdle x).idleTriggers x := by
  simp only [State.finishOrder, h]
  rfl

variable {t : State}

theorem finishOrder_home {bay level : Byte} (ht : t = (s.reportPosition x bay.toNat level.toNat).markLegs x o.legs.length)
    (h : o.kind = .home) :
    s.finishOrder x o bay level = (((t.dropOrder x).spanToPosition x).setIdle x).idleTriggers x := by
  subst ht
  simp only [State.finishOrder, h]
  rfl

theorem finishOrder_yield {bay level : Byte} (ht : t = (s.reportPosition x bay.toNat level.toNat).markLegs x o.legs.length)
    (h : o.kind = .yield) : s.finishOrder x o bay level = t.endYield x := by
  subst ht
  simp only [State.finishOrder, h]

variable {q : Order} (hq : (s.crane x).order = some q)
include hq

/-- A YIELD order that has lost its partner ends as a HOME order does. -/
theorem endYield_none (h : q.yieldPartner = none) :
    s.endYield x = (((s.dropOrder x).spanToPosition x).setIdle x).idleTriggers x := by
  rw [State.endYield, partnerOf_eq hq, h]
  rfl

/-- The end of a YIELD order for its waiting crane (R64). -/
theorem endYield_some {u : State} (hu : u = (s.dropOrder x).spanToPosition x) {w : Crane} (h : q.yieldPartner = some w) :
    s.endYield x
      = if u.clear w (u.spanOf w) then
          (((u.setIdle x).setPair (aisleOf w) none).sendOrder w).idleTriggers x
        else ((((u.discardWaiting w).setIdle w).setIdle x).idleTriggers w).idleTriggers x := by
  rw [State.endYield, partnerOf_eq hq, h, hu]
  rfl

omit hq

/-- An order that is sent (R131). -/
theorem sendOrder_eq (ho : (s.crane x).order = some o) :
    s.sendOrder x
      = (s.setCrane x { s.crane x with
          order := some { o with state := .sent, acceptTimer := 0 }
          state := match o.kind with | .job => .ordered | .yield => .yielding | .home => .homing }).emit x (orderFrame o) := by
  have kinds : stateOfKind o.kind .sent = match o.kind with | .job => .ordered | .yield => .yielding | .home => .homing := by
    cases o.kind <;> rfl
  unfold State.sendOrder
  split
  · rename_i e
    cases ho.symm.trans e
  · rename_i p e
    cases ho.symm.trans e
    rw [modOrder_eq ho, State.setCraneState, State.modCrane, State.crane_setCrane_self, setCrane_setCrane, kinds]

end

/-! ### The jobs of an order that is done (R36, R51) -/

section
variable {s : State} {o : Order} {tag : Word32} {j : Job} (hf : s.pool.find tag = some j)
include hf

theorem completeStore_eq {a : Slot} (ha : j.chosen? = some a) :
    s.completeStore tag = (s.removeJob tag true).raise (.jobDone tag false a) := by
  simp only [State.completeStore, hf, Option.bind_some, ha]

theorem completeRetrieve_eq {a : Slot} {blocker : Option Word32} (hk : j.kind = .retrieve a blocker none) :
    s.completeRetrieve tag = (s.removeJob tag true).raise (.jobDone tag true a) := by
  simp only [State.completeRetrieve, hf, Job.slot?, Job.lane?, hk]

theorem completeRetrieve_lane {a : Slot} {blocker : Option Word32} {l : LaneNo} {d : Word16}
    (hk : j.kind = .retrieve a blocker (some (l, d))) :
    s.completeRetrieve tag = ((s.removeJob tag true).raise (.jobDone tag true a)).deliver l d := by
  simp only [State.completeRetrieve, hf, Job.slot?, Job.lane?, hk]

end

theorem endStore_some (s : State) {o : Order} {tag : Word32} (h : o.storeTag = some tag) :
    s.endStore o = s.completeStore tag := by
  simp only [State.endStore, h]

theorem endRetrieve_plain (s : State) {o : Order} {tag : Word32} (h : o.retrieveTag = some tag) (hr : o.relocation = none) :
    s.endRetrieve o = s.completeRetrieve tag := by
  simp only [State.endRetrieve, h, hr]

/-- A relocation done takes both its entries out of the table (R51, R55). -/
theorem relocationDone_eq (s : State) (tag : Word32) (r : Relocation) :
    s.relocationDone tag r
      = State.raise { s with table := s.table.filter fun e => e.use != .blockerSource tag && e.use != .spareInUse tag }
          (.relocated r.blocker r.front r.spare) := by
  have entries : dropUse (dropUse s.table (.blockerSource tag)) (.spareInUse tag)
      = s.table.filter fun e => e.use != .blockerSource tag && e.use != .spareInUse tag := by
    simp only [dropUse, List.filter_filter, Bool.and_comm]
  rw [State.relocationDone, entries]
  rfl

/-- Settles O49: an ORDER DONE goes by the order's kind and its yield partner, which taking the position and marking the legs
leave. -/
theorem ordersComplete : Obligations.OrdersComplete := by
  refine ⟨?_, ?_, ?_, ?_⟩
  · rintro x bay level s t u o ho running hs ht rfl
    simp only [List.mem_cons, List.not_mem_nil, or_false, not_or] at hs
    obtain ⟨enrolled, notLost⟩ := hs
    have done : exec (.orderDone x o.id bay level) s = .next ((s.setSilence x 0).finishOrder x o bay level) :=
      (congrArg Host.Outcome.next (hearCrane_enrolled enrolled _)).trans
        (congrArg _ (takeOrderDone_running (s := s.setSilence x 0) ho running notLost bay level))
    obtain ⟨q, hq, partner⟩ := order_reported (s := s.setSilence x 0) ho bay.toNat level.toNat o.legs.length
    rw [← ht] at hq
    rw [done]
    refine ⟨rfl, fun job => ?_, ?_, fun w yield paired => ?_⟩
    · rw [finishOrder_job job, ht]
    · rintro (home | ⟨yield, alone⟩)
      · rw [finishOrder_home ht home]
      · rw [finishOrder_yield ht yield, endYield_none hq (partner.trans alone)]
    · rw [finishOrder_yield ht yield, endYield_some hq rfl (partner.trans paired)]
  · rintro x bay level r t u o q ht rfl hq
    refine ⟨fun job => ?_, ?_, fun w yield paired => ?_⟩
    · rw [finishOrder_job job, ht]
    · rintro (home | ⟨yield, alone⟩)
      · rw [finishOrder_home ht home]
      · rw [finishOrder_yield ht yield, endYield_none hq alone]
    · rw [finishOrder_yield ht yield, endYield_some hq rfl paired]
  · intro s x o ho
    exact ⟨rfl, sendOrder_eq ho⟩
  · intro s o tag j hf
    refine ⟨fun a ha => completeStore_eq hf ha, fun a blocker hk => completeRetrieve_eq hf hk,
      fun a blocker l d hk => completeRetrieve_lane hf hk, fun a hs ha => ?_, fun hs => ?_, fun hr => ?_,
      fun a blocker hr plain hk => ?_, fun a blocker l d hr plain hk => ?_, fun r hr reloc => ?_⟩
    · rw [endStore_some s hs, completeStore_eq hf ha]
    · simp only [State.endStore, hs]
    · simp only [State.endRetrieve, hr]
    · rw [endRetrieve_plain s hr plain, completeRetrieve_eq hf hk]
    · rw [endRetrieve_plain s hr plain, completeRetrieve_lane hf hk]
    · simp only [State.endRetrieve, hr, reloc, relocationDone_eq]

end Sys2Proof.Machine

namespace Sys2Proof.Machine

/-! ## A step that breaks the law of the work (R71, R101, R142)

`workInLaw` bounds no span, and it lets a crane that the FREE engine may take stand in the queue. `railInLaw`, which is no
premise of the statement, has a QUEUED crane hold its position bay alone (R58), and R100 has the engine take such a crane at
once. Without both, one STATUS BUSY does two things to the crane that sends it. Its position narrows its span, which
triggers the starved sibling (R71), and the engine then finds the waiting crane and sends it home (R101); and the row of
R142 for the QUEUED crane that it was when the record came makes it SYNCING with that HOME order. -/

namespace State

/-- A store without an order, a job or an entry is in the law of the work when its queue is and no crane is in a state that
needs an order. -/
theorem workInLaw_of_no_work {s : State} (jobs : s.pool.jobs = []) (table : s.table = [])
    (orders : ∀ x, (s.crane x).order = none)
    (free : ∀ x, (s.crane x).state ∉ [.awaitYield, .ordered, .running, .yielding, .homing]) (queue : s.queueInLaw) :
    s.workInLaw := by
  have pool : s.poolInLaw := by simp [poolInLaw, Pool.stationQueue, jobs]
  have held : s.ordersInLaw :=
    ⟨queue, fun x h => absurd h (free x), fun x _ => orders x, by simp [orders], by simp [orders]⟩
  have pairing : s.pairingInLaw := by simp [pairingInLaw, orders, jobs]
  have entries : s.tableInLaw := by simp [tableInLaw, Table.spareList, spareEntries, jobs, table]
  exact ⟨pool, held, pairing, entries⟩

/-- Crane 0 waits at bay 1 with its home request set and its span 0..2, while the engine is FREE; its sibling is IDLE and
starved. A STATUS BUSY of crane 0 at its bay has come. -/
def wideInQueue : State :=
  let waiting : CraneCtx :=
    { CraneCtx.powerOn with state := .queued, position := some { bay := 1, level := 1 }, homeRequest := true }
  let starved : CraneCtx :=
    { CraneCtx.powerOn with state := .idle, position := some { bay := 2, level := 1 }, starved := true }
  let s := ((State.reset.setCrane 0 waiting).setCrane 1 starved).setSpan 0 (.bays 0 2)
  { s with engine := { queue := [{ crane := 0, invalid := 0 }], pass := none }
           pending := [.status 0 .busy 0 0 1 1 false] }

theorem wideInQueue_inLaw : wideInQueue.workInLaw := by
  have free : wideInQueue.engine.pass = none := rfl
  have queue : wideInQueue.queueInLaw := ⟨by decide +kernel, by decide +kernel, by simp [free]⟩
  exact workInLaw_of_no_work rfl rfl (by decide +kernel) (by decide +kernel) queue

/-- What the STATUS BUSY leaves. -/
def afterBusy : State :=
  { wideInQueue with pending := [] }.hearCrane 0 fun t => t.takeStatus 0 .busy 0 0 1 1 false

theorem step_wideInQueue : step wideInQueue = .next afterBusy := rfl

theorem afterBusy_syncing_with_order : (afterBusy.crane 0).state = .syncing ∧ (afterBusy.crane 0).order ≠ none := by
  decide +kernel

/-- The step breaks the law of the orders already: a SYNCING crane has none (R124). -/
theorem afterBusy_not_ordersInLaw : ¬afterBusy.ordersInLaw := by
  rintro ⟨-, -, free, -⟩
  obtain ⟨syncing, order⟩ := afterBusy_syncing_with_order
  exact order (free 0 (by simp [syncing]))

end State

/-- Refutes O8: one step from `wideInQueue`, which is in the law, leaves a SYNCING crane with an order. -/
theorem not_workStaysInLaw : ¬ Obligations.WorkStaysInLaw := by
  rintro ⟨keeps, -⟩
  obtain ⟨-, orders, -⟩ := keeps _ _ State.wideInQueue_inLaw State.step_wideInQueue
  exact State.afterBusy_not_ordersInLaw orders

end Sys2Proof.Machine

namespace Sys2Proof.Machine

/-! ## The rules of the slots (R14, R43 to R45) -/

namespace State

variable (s : State) (a : Slot)

/-- A cell is closed by the mark of its entry, where weighting is enabled and the profile does not go by marks (R14). -/
theorem closed_iff :
    s.closed a = true ↔ (s.policyOf a.aisle).weighting = true ∧ (s.policyOf a.aisle).profileMode ≠ .byMark
      ∧ (weightAt s.cost.weights (cellIndex (s.policyOf a.aisle) (s.geometryOf a.aisle) a.bay a.level)).mark = true := by
  unfold closed cellWeight
  by_cases weighted : (s.policyOf a.aisle).weighting = true
  · simp [weighted]
  · simp [weighted]

/-- Only in a double-deep aisle has a slot a partner with an entry (R3). -/
theorem partnerUse_eq_some_iff (u : Use) :
    s.partnerUse a = some u ↔ (s.geometryOf a.aisle).doubleDeep = true ∧ useAt s.table a.partner = some u := by
  unfold partnerUse
  split <;> simp [*]

theorem partnerUse_eq_none_iff :
    s.partnerUse a = none ↔ ((s.geometryOf a.aisle).doubleDeep = true → useAt s.table a.partner = none) := by
  unfold partnerUse
  split <;> simp [*]

variable {a}

theorem partner_of_rear (h : a.depth = .rear) : a.partner = { a with depth := .front } := by
  simp only [Slot.partner, h]

theorem partner_of_front (h : a.depth = .front) : a.partner = { a with depth := .rear } := by
  simp only [Slot.partner, h]

theorem storeEligible_rear (h : a.depth = .rear) :
    s.storeEligible a = true
      ↔ useAt s.table a = none ∧ s.closed a = false ∧ s.partnerUse a = none := by
  simp [storeEligible, h, and_assoc]

/-- A FRONT slot is kept from a store while its REAR partner is to be reached or filled (R43). -/
theorem storeEligible_front (h : a.depth = .front) :
    s.storeEligible a = true
      ↔ useAt s.table a = none ∧ s.closed a = false
        ∧ ∀ tag, s.partnerUse a ≠ some (.retrieveSource tag) ∧ s.partnerUse a ≠ some (.storeDest tag)
          ∧ s.partnerUse a ≠ some (.spareInUse tag) := by
  simp only [storeEligible, h, Bool.and_eq_true, Option.isNone_iff_eq_none, Bool.not_eq_true', and_assoc]
  refine and_congr_right fun _ => and_congr_right fun _ => ?_
  rcases s.partnerUse a with _ | _ | _ | _ | _ | _ <;> simp

/-- The partner rule holds a retrieve back only at a REAR slot with a blocker (R44). -/
theorem partnerEligible_iff {j : Job} (h : j.slot? = some a) :
    s.partnerEligible j = true ↔ (a.depth = .rear → j.blocker? ≠ none → s.partnerUse a = none) := by
  unfold partnerEligible
  rw [h]
  cases depth : a.depth <;> cases j.blocker? <;> simp [depth]

end State

/-- Settles O35: the depth says what the partner is, and the partner's use says the rest. -/
theorem slotRules : Obligations.SlotRules := by
  refine ⟨fun s a p hp => hp ▸ s.closed_iff a, fun s a j store deep hd => ⟨?_, fun hj => ?_, ?_⟩⟩
  · cases depth : a.depth with
    | rear =>
      simp [s.storeEligible_rear depth, s.partnerUse_eq_none_iff, State.partner_of_rear depth, hd]
    | front =>
      simp only [s.storeEligible_front depth, ne_eq, s.partnerUse_eq_some_iff, State.partner_of_front depth, hd,
        not_and, reduceCtorEq, false_imp_iff, true_imp_iff, true_and]
      refine and_congr_right fun _ => and_congr_right fun _ => ⟨fun h d tag => ?_, fun h tag => ?_⟩
      · obtain ⟨retrieve, store, spare⟩ := h tag
        exact ⟨retrieve d, store d, spare d⟩
      · exact ⟨fun d => (h d tag).1, fun d => (h d tag).2.1, fun d => (h d tag).2.2⟩
  · rw [s.partnerEligible_iff hj, s.partnerUse_eq_none_iff, hd]
    refine forall_congr' fun depth => ?_
    rw [State.partner_of_rear depth]
  · simp [State.spareUsable, s.partnerUse_eq_none_iff, hd, and_assoc]

end Sys2Proof.Machine

namespace Sys2Proof.Machine

/-! ## The entries of a dispatch and their revert (R49, R52) -/

/-! ### One entry added, one spare claimed -/

section

variable {t : List Entry} {a b : Slot} {u : Use} {tag : Word32}

/-- In a table of one entry a slot, the use at a slot is the use of each of its entries (R40). -/
theorem use_of_useAt (slots : (t.map (·.slot)).Nodup) (h : useAt t a = some u) {e : Entry} (he : e ∈ t) (ha : e.slot = a) :
    e.use = u := by
  obtain ⟨k, hk, rfl, hs⟩ := mem_of_useAt h
  rw [List.inj_on_of_nodup_map slots he hk (ha.trans hs.symm)]

theorem useAt_addEntry_same (fresh : useAt t a = none) : useAt (addEntry t a u) a = some u := by
  rw [useAt, Option.map_eq_none_iff] at fresh
  simp [useAt, addEntry, List.find?_append, fresh]

theorem useAt_addEntry_other (h : b ≠ a) : useAt (addEntry t a u) b = useAt t b := by
  simp [useAt, addEntry, List.find?_append, h.symm]

theorem useAt_claimSpare :
    useAt (claimSpare t a tag) b = if b = a then (useAt t b).map fun _ => .spareInUse tag else useAt t b := by
  have same : ∀ e : Entry, (if e.slot = a then { e with use := .spareInUse tag } else e).slot = e.slot := fun e => by
    split <;> rfl
  rw [useAt, claimSpare, List.find?_map, Function.comp_def]
  simp only [same, useAt, Option.map_map]
  cases found : t.find? (fun e => e.slot == b) with
  | none => simp
  | some e =>
    obtain rfl : e.slot = b := by simpa using List.find?_some found
    by_cases h : e.slot = a <;> simp [h]

/-- Dropping the use that an added entry has gives the table back. -/
theorem dropUse_addEntry (h : ∀ e ∈ t, e.use ≠ u) : dropUse (addEntry t a u) u = t := by
  simpa [dropUse, addEntry] using h

theorem claimSpare_addEntry (h : b ≠ a) : claimSpare (addEntry t b u) a tag = addEntry (claimSpare t a tag) b u := by
  simp [claimSpare, addEntry, h]

/-- A claimed spare made free again gives the table back. -/
theorem changeUse_claimSpare (free : ∀ e ∈ t, e.slot = a → e.use = .spareFree) (unclaimed : ∀ e ∈ t, e.use ≠ .spareInUse tag) :
    changeUse (claimSpare t a tag) (.spareInUse tag) .spareFree = t := by
  rw [changeUse, claimSpare, List.map_map, List.map_congr_left (g := id), List.map_id]
  intro e he
  obtain ⟨slot, use⟩ := e
  by_cases h : slot = a
  · obtain rfl : use = .spareFree := free _ he h
    simp [h]
  · simp [h, unclaimed _ he]

/-- A change of use leaves the entries of a third use, and makes none. -/
theorem dropUse_changeUse {old new : Use} (ho : old ≠ u) (hn : new ≠ u) :
    dropUse (changeUse t old new) u = changeUse (dropUse t u) old new := by
  rw [dropUse, changeUse, List.filter_map]
  refine congrArg _ (List.filter_congr fun e _ => ?_)
  by_cases h : e.use = old
  · simp [h, bne_iff_ne.2 ho, bne_iff_ne.2 hn]
  · simp [h]

/-- The two reverts do not touch each other's entries. -/
theorem revertRetrieve_revertStore (store : Word32) :
    revertRetrieve (revertStore t store) tag = revertStore (revertRetrieve t tag) store := by
  rw [revertStore, revertStore, revertRetrieve, revertRetrieve, dropUse_changeUse (by simp) (by simp)]
  exact congrArg (changeUse · _ _) (List.filter_comm ..)

end

/-! ### A dispatch's entries -/

namespace State

@[simp] theorem table_setTable (s : State) (t : List Entry) : (s.setTable t).table = t := rfl

variable {t : List Entry} {r : PassResult} {b : Slot} {tag : Word32}

/-- The store of a dispatch makes one entry, at its slot. -/
theorem convertStore_some (ht : r.storeTag = some tag) {a : Slot} (ha : r.storeSlot = some a) :
    convertStore t r = addEntry t a (.storeDest tag) := by
  simp only [convertStore, ht, ha]

theorem convertStore_none (ht : r.storeTag = none) : convertStore t r = t := by
  simp only [convertStore, ht]

/-- The relocation of a dispatch makes one entry, at the FRONT slot, and claims the spare. -/
theorem convertRetrieve_some (ht : r.retrieveTag = some tag) {q : Relocation} (hq : r.relocation = some q) :
    convertRetrieve t r = claimSpare (addEntry t q.front (.blockerSource tag)) q.spare tag := by
  simp only [convertRetrieve, ht, hq]

theorem convertRetrieve_none (hq : r.relocation = none) : convertRetrieve t r = t := by
  unfold convertRetrieve
  cases r.retrieveTag <;> simp only [hq]

/-- A dispatch enters its store only at the slot chosen. -/
theorem useAt_convertStore_other (h : r.storeTag ≠ none → r.storeSlot ≠ some b) :
    useAt (convertStore t r) b = useAt t b := by
  cases ht : r.storeTag with
  | none => rw [convertStore_none ht]
  | some tag =>
    cases ha : r.storeSlot with
    | none => simp only [convertStore, ht, ha]
    | some a =>
      rw [convertStore_some ht ha, useAt_addEntry_other]
      rintro rfl
      exact h (by simp [ht]) ha

/-- Every entry that the store adds is its STORE DEST at the slot chosen. -/
theorem mem_convertStore {e : Entry} (h : e ∈ convertStore t r) :
    e ∈ t ∨ ∃ tag, r.storeTag = some tag ∧ r.storeSlot = some e.slot ∧ e.use = .storeDest tag := by
  unfold convertStore at h
  split at h
  · rename_i tag a ht ha
    simp only [addEntry, List.mem_append, List.mem_singleton] at h
    obtain h | rfl := h
    · exact .inl h
    · exact .inr ⟨tag, ht, ha, rfl⟩
  · exact .inl h

variable {q : Relocation}

theorem useAt_convertRetrieve (ht : r.retrieveTag = some tag) (hq : r.relocation = some q) (front : useAt t q.front = none)
    (spare : useAt t q.spare = some .spareFree) :
    useAt (convertRetrieve t r) b
      = if b = q.spare then some (.spareInUse tag) else if b = q.front then some (.blockerSource tag) else useAt t b := by
  have apart : q.spare ≠ q.front := fun h => by simp [h, front] at spare
  rw [convertRetrieve_some ht hq, useAt_claimSpare]
  by_cases hs : b = q.spare
  · subst hs
    simp [useAt_addEntry_other apart, spare]
  · by_cases hf : b = q.front
    · subst hf
      simp [hs, useAt_addEntry_same front]
    · simp [hs, hf, useAt_addEntry_other hf]

/-- The revert of a relocation's entries gives the table back (R52). -/
theorem revertRetrieve_convertRetrieve (ht : r.retrieveTag = some tag)
    (fresh : ∀ e ∈ t, e.use ≠ .blockerSource tag ∧ e.use ≠ .spareInUse tag)
    (relocation : ∀ q, r.relocation = some q →
      q.front ≠ q.spare ∧ ∀ e ∈ t, e.slot = q.spare → e.use = .spareFree) :
    revertRetrieve (convertRetrieve t r) tag = t := by
  have unclaimed : ∀ e ∈ t, e.use ≠ .spareInUse tag := fun e he => (fresh e he).2
  cases hq : r.relocation with
  | none =>
    have unblocked : dropUse t (.blockerSource tag) = t := by simpa [dropUse] using fun e he => (fresh e he).1
    have unchanged : changeUse t (.spareInUse tag) .spareFree = t := by
      rw [changeUse, List.map_congr_left (g := id), List.map_id]
      exact fun e he => if_neg (unclaimed e he)
    rw [convertRetrieve_none hq, revertRetrieve, unblocked, unchanged]
  | some q =>
    obtain ⟨apart, free⟩ := relocation q hq
    have claimed : ∀ e ∈ claimSpare t q.spare tag, e.use ≠ .blockerSource tag := by
      intro e he
      obtain ⟨k, hk, rfl⟩ := List.mem_map.1 he
      split
      · exact nofun
      · exact (fresh k hk).1
    rw [convertRetrieve_some ht hq, claimSpare_addEntry apart, revertRetrieve, dropUse_addEntry claimed,
      changeUse_claimSpare free unclaimed]

/-- The revert of the store's entry gives the table back (R52). -/
theorem revertStore_convertStore (ht : r.storeTag = some tag) (fresh : ∀ e ∈ t, e.use ≠ .storeDest tag) {a : Slot}
    (ha : r.storeSlot = some a) : revertStore (convertStore t r) tag = t := by
  rw [convertStore_some ht ha, revertStore, dropUse_addEntry fresh]

end State

/-- A table that a result's dispatch may change: one entry a slot, none of the entries that the dispatch makes, its store slot
and its FRONT slot without an entry, and its spare free. -/
structure PassResult.Fits (r : PassResult) (t : List Entry) : Prop where
  slots : (t.map (·.slot)).Nodup
  store : ∀ tag, r.storeTag = some tag →
    (∃ a, r.storeSlot = some a ∧ useAt t a = none) ∧ ∀ e ∈ t, e.use ≠ .storeDest tag
  retrieve : ∀ tag, r.retrieveTag = some tag → ∀ e ∈ t, e.use ≠ .blockerSource tag ∧ e.use ≠ .spareInUse tag
  relocation : ∀ q, r.relocation = some q → r.retrieveTag ≠ none ∧ useAt t q.front = none
    ∧ useAt t q.spare = some .spareFree ∧ (r.storeTag ≠ none → r.storeSlot ≠ some q.front)

namespace PassResult.Fits

open State

variable {r : PassResult} {t : List Entry} {tag : Word32} {q : Relocation} {b : Slot}

/-- The store slot has no entry, so it is not the spare. -/
theorem storeSlot_ne_spare (h : r.Fits t) (hq : r.relocation = some q) (hs : r.storeTag ≠ none) :
    r.storeSlot ≠ some q.spare := by
  intro ha
  obtain ⟨tag, hs⟩ := Option.ne_none_iff_exists'.1 hs
  obtain ⟨⟨a, ha', free⟩, -⟩ := h.store tag hs
  obtain ⟨-, -, spare, -⟩ := h.relocation q hq
  obtain rfl : q.spare = a := Option.some.inj (ha.symm.trans ha')
  simp [free] at spare

theorem useAt_store (h : r.Fits t) (ht : r.storeTag = some tag) (ha : r.storeSlot = some b) :
    useAt (convertStore t r) b = some (.storeDest tag) := by
  obtain ⟨⟨a, ha', free⟩, -⟩ := h.store tag ht
  obtain rfl : b = a := Option.some.inj (ha.symm.trans ha')
  rw [convertStore_some ht ha, useAt_addEntry_same free]

/-- The store's entry leaves the FRONT slot without one. -/
theorem front_free (h : r.Fits t) (hq : r.relocation = some q) : useAt (convertStore t r) q.front = none := by
  obtain ⟨-, free, -, apart⟩ := h.relocation q hq
  rw [useAt_convertStore_other apart, free]

/-- The store's entry leaves the spare free. -/
theorem spare_free (h : r.Fits t) (hq : r.relocation = some q) : useAt (convertStore t r) q.spare = some .spareFree := by
  obtain ⟨-, -, free, -⟩ := h.relocation q hq
  rw [useAt_convertStore_other (h.storeSlot_ne_spare hq), free]

theorem front_ne_spare (h : r.Fits t) (hq : r.relocation = some q) : q.front ≠ q.spare := by
  obtain ⟨-, front, spare, -⟩ := h.relocation q hq
  intro e
  simp [← e, front] at spare

theorem useAt_relocation (h : r.Fits t) (ht : r.retrieveTag = some tag) (hq : r.relocation = some q) :
    useAt (convertRetrieve (convertStore t r) r) b
      = if b = q.spare then some (.spareInUse tag) else if b = q.front then some (.blockerSource tag)
        else useAt (convertStore t r) b :=
  useAt_convertRetrieve ht hq (h.front_free hq) (h.spare_free hq)

/-- Beside the FRONT slot and the spare a relocation changes nothing. -/
theorem useAt_relocation_other (h : r.Fits t) (hb : ∀ q, r.relocation = some q → b ≠ q.front ∧ b ≠ q.spare) :
    useAt (convertRetrieve (convertStore t r) r) b = useAt (convertStore t r) b := by
  cases hq : r.relocation with
  | none => rw [convertRetrieve_none hq]
  | some q =>
    obtain ⟨tag, ht⟩ := Option.ne_none_iff_exists'.1 (h.relocation q hq).1
    obtain ⟨notFront, notSpare⟩ := hb q hq
    rw [h.useAt_relocation ht hq, if_neg notSpare, if_neg notFront]

/-- The revert of the retrieve part gives back the table that has the store's entry. -/
theorem revertRetrieve_eq (h : r.Fits t) (ht : r.retrieveTag = some tag) :
    revertRetrieve (convertRetrieve (convertStore t r) r) tag = convertStore t r := by
  refine revertRetrieve_convertRetrieve ht (fun e he => ?_) fun q hq => ⟨h.front_ne_spare hq, fun e he hs => ?_⟩
  · rcases mem_convertStore he with old | ⟨_, -, -, use⟩
    · exact h.retrieve tag ht e old
    · simp [use]
  · rcases mem_convertStore he with old | ⟨_, stored, slot, -⟩
    · obtain ⟨-, -, free, -⟩ := h.relocation q hq
      exact use_of_useAt h.slots free old hs
    · exact absurd (hs ▸ slot) (h.storeSlot_ne_spare hq (by simp [stored]))

theorem revertStore_eq (h : r.Fits t) (ht : r.storeTag = some tag) : revertStore (convertStore t r) tag = t := by
  obtain ⟨⟨a, ha, -⟩, fresh⟩ := h.store tag ht
  exact revertStore_convertStore ht fresh ha

/-- Without a retrieve there is no relocation, and so no entry but the store's. -/
theorem convertRetrieve_eq (h : r.Fits t) (ht : r.retrieveTag = none) :
    convertRetrieve (convertStore t r) r = convertStore t r := by
  refine convertRetrieve_none (Option.eq_none_iff_forall_ne_some.2 fun q hq => ?_)
  exact (h.relocation q hq).1 ht

/-- The two reverts commute, so each meets the table that its entries were made in (R52). -/
theorem revertEntries_eq {s : State} {o : Order} (h : r.Fits s.table) (hs : o.storeTag = r.storeTag)
    (hr : o.retrieveTag = r.retrieveTag) :
    (s.setTable (convertRetrieve (convertStore s.table r) r)).revertEntries o = s := by
  simp only [State.revertEntries, hs, hr, table_setTable]
  cases retrieve : r.retrieveTag with
  | none =>
    rw [h.convertRetrieve_eq retrieve]
    cases store : r.storeTag with
    | none => rw [convertStore_none store]; rfl
    | some a => simp only [h.revertStore_eq store]; rfl
  | some c =>
    cases store : r.storeTag with
    | none => simp only [h.revertRetrieve_eq retrieve]; rw [convertStore_none store]; rfl
    | some a => simp only [revertRetrieve_revertStore, h.revertRetrieve_eq retrieve, h.revertStore_eq store]; rfl

end PassResult.Fits

/-- Settles O37: the store's entry is made first, on a table in which the relocation still finds its slots as they were. -/
theorem dispatchEntriesRevert : Obligations.DispatchEntriesRevert := by
  rintro s t made r o rfl rfl hs hr slots store retrieve relocation
  have fits : r.Fits s.table := ⟨slots, store, retrieve, relocation⟩
  refine ⟨fun tag a ht ha => ?_, fun tag q ht hq => ?_, fun b notStore apart => ?_, fun noStore plain => ?_,
    fits.revertEntries_eq hs hr⟩
  · rw [fits.useAt_relocation_other, fits.useAt_store ht ha]
    have stores : r.storeTag ≠ none := by simp [ht]
    refine fun q hq => ⟨?_, ?_⟩
    · rintro rfl
      obtain ⟨-, -, -, apart⟩ := relocation q hq
      exact apart stores ha
    · rintro rfl
      exact fits.storeSlot_ne_spare hq stores ha
  · simp [fits.useAt_relocation ht hq, fits.front_ne_spare hq]
  · rw [fits.useAt_relocation_other apart, State.useAt_convertStore_other notStore]
  · rw [State.convertRetrieve_none plain, State.convertStore_none noStore]

end Sys2Proof.Machine

namespace Sys2Proof.Machine

/-! ## ADD SPARE and REMOVE SPARE (R42, R47, R48) -/

namespace State

variable (s : State)

/-- A place that is no slot in the geometry is refused by both requests. -/
theorem spare_badPlace {p : Place} (h : ∀ a, p = .slot a → s.inGeometry a = false) :
    s.addSpare p = s.refuse .badPlace ∧ s.removeSpare p = s.refuse .badPlace := by
  cases p with
  | slot a => simp [addSpare, removeSpare, h a rfl]
  | station st => exact ⟨rfl, rfl⟩
  | rail a bay level => exact ⟨rfl, rfl⟩

variable {a : Slot}

/-- The checks of ADD SPARE after the place's, in their order (R47). -/
theorem addSpare_slot (h : s.inGeometry a = true) :
    s.addSpare (.slot a)
      = if (useAt s.table a).isSome then s.refuse .slotReserved
        else if Config.spareListSize ≤ (Table.spareList s.table a.aisle).length then s.refuse .full
        else ((s.setTable (addEntry s.table a .spareFree)).triggerAisle a.aisle).ok := by
  simp only [addSpare, h, Bool.not_true, Bool.false_eq_true, if_false]

/-- REMOVE SPARE goes by the use of the slot's entry (R48). -/
theorem removeSpare_slot (h : s.inGeometry a = true) :
    s.removeSpare (.slot a)
      = if useAt s.table a = some .spareFree then (s.setTable (dropSlot s.table a)).ok
        else if (useAt s.table a).any Use.isSpareInUse then s.refuse .inProgress
        else s.refuse .unknownPlace := by
  simp only [removeSpare, h, Bool.not_true, Bool.false_eq_true, if_false]
  rcases useAt s.table a with _ | _ | _ | _ | _ | _ <;> simp [Use.isSpareInUse]

end State

/-- Settles O36: its two requests by their checks on the place, then on the slot's entry and the aisle's list. -/
theorem sparesTaken : Obligations.SparesTaken := by
  intro r1 r0 fields p s h hs hh hp
  have added : exec (.addSpare (r1 :: r0 :: fields)) s = .next (State.replyTo (r1 ++ r0) 0x12#8 (h.addSpare p)) :=
    congrArg Host.Outcome.next (takeRequest_read hs hh hp ..)
  have removed : exec (.removeSpare (r1 :: r0 :: fields)) s = .next (State.replyTo (r1 ++ r0) 0x13#8 (h.removeSpare p)) :=
    congrArg Host.Outcome.next (takeRequest_read hs hh hp ..)
  rw [added, removed]
  refine ⟨fun bad => ?_, ?_⟩
  · obtain ⟨add, remove⟩ := h.spare_badPlace bad
    rw [add, remove]
    exact ⟨rfl, rfl⟩
  · rintro a rfl inside
    have listed : (Table.spareList h.table a.aisle).length
        = (h.table.filter fun e => e.use.isSpare && e.slot.aisle == a.aisle).length := List.length_map ..
    simp only [h.addSpare_slot inside, h.removeSpare_slot inside, State.replyTo_ite, listed, Option.isSome_iff_ne_none]
    exact ⟨rfl, rfl⟩

end Sys2Proof.Machine

namespace Sys2Proof.Machine

/-! ## Triggers, the queue and becoming IDLE (R95 to R101, R113, R171) -/

namespace State

/-- The whole effect of a trigger by the state of the crane that it reaches (R95, R98). -/
theorem trigger_idle_home {s : State} {x : Crane} (h : (s.crane x).state = .idle) (hh : (s.crane x).homeRequest = true) :
    s.trigger x = s.createHome x := by
  simp only [trigger, h, hh, if_true]

theorem trigger_idle {s : State} {x : Crane} (h : (s.crane x).state = .idle) (hh : (s.crane x).homeRequest = false) :
    s.trigger x = s.enqueue x := by
  simp only [trigger, h, hh, Bool.false_eq_true, if_false]

theorem trigger_queued {s : State} {x : Crane} (h : (s.crane x).state = .queued) : s.trigger x = s.noteTrigger x := by
  simp only [trigger, h]

theorem trigger_unreached {s : State} {x : Crane} (h : (s.crane x).state ≠ .idle) (hq : (s.crane x).state ≠ .queued) :
    s.trigger x = s := by
  unfold trigger
  split
  · exact absurd ‹_› h
  · exact absurd ‹_› hq
  · rfl

theorem noteTrigger_own {s : State} {x : Crane} {p : Pass} (hp : s.engine.pass = some p) (hx : p.crane = x) :
    s.noteTrigger x = s.setPass (some { p with note := true }) := by
  simp only [noteTrigger, hp, if_pos hx]

theorem noteTrigger_other {s : State} {x : Crane} (h : ∀ p, s.engine.pass = some p → p.crane ≠ x) : s.noteTrigger x = s := by
  unfold noteTrigger
  split
  · exact if_neg (h _ ‹_›)
  · rfl

theorem mayTake_iff (s : State) (e : QueueEntry) :
    s.mayTake e = true ↔ (s.crane e.crane).homeRequest = true ∨ s.held e.crane = false := by
  simp [mayTake]

theorem held_iff (s : State) (x : Crane) : s.held x = true ↔
    s.sup.holdCommand = true ∨ s.sup.holdSilence = true ∨ s.sup.holdAisle.get (aisleOf x) = true := by
  simp [held, aisleHeld, or_assoc]

/-- An EVALUATING engine takes no crane (R100). -/
theorem engineTake_busy {s : State} (h : s.engine.pass ≠ none) (n : Nat) : engineTake n s = s := by
  cases n with
  | zero => rfl
  | succ n =>
    unfold engineTake
    split
    · exact absurd ‹_› h
    · rfl

/-- A FREE engine that may take no entry takes none. -/
theorem engineTake_none {s : State} (h : ∀ e ∈ s.engine.queue, s.mayTake e = false) (n : Nat) : engineTake n s = s := by
  cases n with
  | zero => rfl
  | succ n =>
    unfold engineTake
    split
    · rename_i e _ he
      exact absurd (h e (List.mem_of_find?_eq_some he)) (by simp [List.find?_some he])
    · rfl

variable {s : State} {before after : List QueueEntry} {e : QueueEntry}

/-- The entry nearest the head that the engine may take is the first that `find?` meets. -/
theorem find_mayTake (hq : s.engine.queue = before ++ e :: after) (hb : ∀ d ∈ before, s.mayTake d = false)
    (he : s.mayTake e = true) : s.engine.queue.find? s.mayTake = some e := by
  rw [hq, List.find?_append, List.find?_eq_none.2 fun d hd => by simp [hb d hd], Option.none_or, List.find?_cons_of_pos he]

/-- A crane that stands once in the queue leaves the entries around its own (R98). -/
theorem dequeue_eq (hq : s.engine.queue = before ++ e :: after) (hd : ∀ d ∈ before ++ after, d.crane ≠ e.crane) :
    s.dequeue e.crane = s.setEngine { queue := before ++ after, pass := s.engine.pass } := by
  have others (l : List QueueEntry) (h : ∀ d ∈ l, d.crane ≠ e.crane) : l.filter (fun d => d.crane != e.crane) = l :=
    List.filter_eq_self.2 fun d m => by simpa using h d m
  rw [dequeue, hq, List.filter_append, List.filter_cons, others before fun d m => hd d (by simp [m]),
    others after fun d m => hd d (by simp [m])]
  simp

/-- A FREE engine starts a pass for the entry it takes (R100, R103). -/
theorem engineRun_starts (free : s.engine.pass = none) (hq : s.engine.queue = before ++ e :: after)
    (hb : ∀ d ∈ before, s.mayTake d = false) (he : s.mayTake e = true) (home : (s.crane e.crane).homeRequest = false)
    (hd : ∀ d ∈ before ++ after, d.crane ≠ e.crane) :
    s.engineRun = (s.setEngine { queue := before ++ after, pass := none }).startPass e.crane e.invalid false := by
  have length : s.engine.queue.length = (before ++ after).length + 1 := by simp [hq]; omega
  rw [engineRun, length, engineTake, free, find_mayTake hq hb he]
  dsimp only
  rw [home, if_neg Bool.false_ne_true, dequeue_eq hq hd, free]

/-- A FREE engine sends home the crane it takes whose home request is set, and goes on (R101). -/
theorem engineRun_sendsHome (free : s.engine.pass = none) (hq : s.engine.queue = before ++ e :: after)
    (hb : ∀ d ∈ before, s.mayTake d = false) (he : s.mayTake e = true) (home : (s.crane e.crane).homeRequest = true)
    (hd : ∀ d ∈ before ++ after, d.crane ≠ e.crane) :
    s.engineRun = ((s.setEngine { queue := before ++ after, pass := none }).createHome e.crane).engineRun := by
  have length : s.engine.queue.length = (before ++ after).length + 1 := by simp [hq]; omega
  rw [engineRun, length, engineTake, free, find_mayTake hq hb he]
  dsimp only
  rw [home, if_pos rfl, dequeue_eq hq hd, free, engineRun, engine_createHome]
  rfl

end State

/-- The sibling is the other crane of the aisle (00_scope.md). -/
theorem eq_sibling {x y : Crane} (hy : y ≠ x) (ha : aisleOf y = aisleOf x) : y = sibling x := by
  revert x y; decide

/-- Settles O53: a trigger goes by the state of its crane, a turn of the engine by the first entry it may take. -/
theorem triggersAndTheQueue : Obligations.TriggersAndTheQueue := by
  intro s x
  have skipped {l : List QueueEntry} (h : ∀ d ∈ l, (s.crane d.crane).homeRequest = false ∧ s.held d.crane = true) :
      ∀ d ∈ l, s.mayTake d = false := fun d hd => by simp [State.mayTake, h d hd]
  refine ⟨State.trigger_idle_home, State.trigger_idle, fun p hs hp hx => ?_, fun hi hq => ?_,
    fun busy => State.engineTake_busy busy _, fun _ h => State.engineTake_none (skipped h) _,
    fun before e after free hq hb home held hd => ?_, fun before e after free hq hb home hd => ?_,
    fun p hp hx => ?_, fun hp => ?_, s.held_iff x, ?_, rfl, rfl, ⟨sibling_ne x, aisleOf_sibling x, fun y => eq_sibling⟩, rfl,
    fun w => rfl⟩
  · rw [State.trigger_queued hs, State.noteTrigger_own hp hx]
    rfl
  · by_cases hs : (s.crane x).state = .queued
    · rw [State.trigger_queued hs, State.noteTrigger_other (hq hs)]
    · exact State.trigger_unreached hi hs
  · rw [State.engineRun_starts free hq (skipped hb) ((s.mayTake_iff e).2 (.inr held)) home hd]
    rfl
  · rw [State.engineRun_sendsHome free hq (skipped hb) ((s.mayTake_iff e).2 (.inl home)) home hd]
    rfl
  · rw [State.leaveEngine, if_pos ((underEvaluation_iff s x).2 ⟨p, hp, hx⟩)]
    rfl
  · rw [State.leaveEngine, if_neg fun h => ?_]
    · rfl
    · obtain ⟨p, h, hx⟩ := (underEvaluation_iff s x).1 h
      exact hp p h hx
  · rintro t rfl
    rfl

end Sys2Proof.Machine

namespace Sys2Proof.Machine

/-! ## Route spans, separation and the shrink of a span (R58, R59, R69, R71) -/

theorem le_foldl_max (l : List Nat) (b : Nat) : b ≤ l.foldl max b := by
  induction l generalizing b with
  | nil => exact le_rfl
  | cons a l ih => exact (le_max_left b a).trans (ih _)

theorem foldl_min_le_mem {l : List Nat} {a : Nat} (h : a ∈ l) (b : Nat) : l.foldl min b ≤ a := by
  induction l generalizing b with
  | nil => cases h
  | cons c l ih =>
    rcases List.mem_cons.1 h with rfl | h
    · exact (foldl_min_le l _).trans (min_le_right b a)
    · exact ih h _

theorem mem_le_foldl_max {l : List Nat} {a : Nat} (h : a ∈ l) (b : Nat) : a ≤ l.foldl max b := by
  induction l generalizing b with
  | nil => cases h
  | cons c l ih =>
    rcases List.mem_cons.1 h with rfl | h
    · exact (le_max_right b a).trans (le_foldl_max l _)
    · exact ih h _

theorem le_foldl_min {l : List Nat} {b e : Nat} (hb : e ≤ b) (hl : ∀ a ∈ l, e ≤ a) : e ≤ l.foldl min b := by
  induction l generalizing b with
  | nil => exact hb
  | cons a l ih => exact ih (le_min hb (hl a (by simp))) fun c hc => hl c (by simp [hc])

/-- The interval of a bay and some bays is the least that holds them (R58). -/
theorem interval_least (b : Nat) (bays : List Nat) :
    (interval b bays).1 ≤ b ∧ b ≤ (interval b bays).2
      ∧ (∀ c ∈ bays, (interval b bays).1 ≤ c ∧ c ≤ (interval b bays).2)
      ∧ ∀ l h, l ≤ b → b ≤ h → (∀ c ∈ bays, l ≤ c ∧ c ≤ h) → l ≤ (interval b bays).1 ∧ (interval b bays).2 ≤ h :=
  ⟨foldl_min_le .., le_foldl_max .., fun _ hc => ⟨foldl_min_le_mem hc b, mem_le_foldl_max hc b⟩,
    fun _ _ hl hh hc => ⟨le_foldl_min hl fun c m => (hc c m).1, foldl_max_le hh fun c m => (hc c m).2⟩⟩

theorem separated_bays_iff (g : Geometry) (a b c d : Nat) : separated g (.bays a b) (.bays c d) = true ↔ b + g.gap < c := by
  simp [separated, testedSpan]

/-- A span that keeps its ends in another is strictly narrower just when one end has moved (R71). -/
theorem narrower_bays_iff {a b c d : Nat} (h : a ≤ b) :
    narrower (.bays a b) (.bays c d) = true ↔ c ≤ a ∧ b ≤ d ∧ (c < a ∨ b < d) := by
  simp only [narrower, Bool.and_eq_true, decide_eq_true_eq]
  omega

theorem narrower_iff {sp old : Span} (h : ∀ a b, sp = .bays a b → a ≤ b) :
    narrower sp old = true ↔ ∃ c d, old = .bays c d
      ∧ (sp = .absent ∨ ∃ a b, sp = .bays a b ∧ c ≤ a ∧ b ≤ d ∧ (c < a ∨ b < d)) := by
  cases old with
  | bays c d =>
    cases sp with
    | bays a b => simp [narrower_bays_iff (h a b rfl)]
    | _ => simp [narrower]
  | _ => cases sp <;> simp [narrower]

namespace State

/-- A change of span triggers a starved sibling at a shrink, and else no crane (R71). -/
theorem changeSpan_eq (s : State) (x : Crane) (sp : Span) :
    s.changeSpan x sp = if narrower sp (s.spanOf x) = true ∧ (s.crane (sibling x)).starved = true
      then (s.setSpan x sp).trigger (sibling x) else s.setSpan x sp := by
  rw [changeSpan, shrunkFrom, spanOf_setSpan_self, crane_setSpan]
  exact if_congr (Bool.and_eq_true_iff ..) rfl rfl

theorem spanToPosition_known {s : State} {x : Crane} {p : Position} (h : (s.crane x).position = some p) :
    s.spanToPosition x = s.changeSpan x (.bays p.bay p.bay) := by
  simp only [spanToPosition, h]

theorem spanToPosition_unknown {s : State} {x : Crane} (h : (s.crane x).position = none) : s.spanToPosition x = s := by
  simp only [spanToPosition, h]

theorem narrowSpan_eq {s : State} {x : Crane} {o : Order} {p : Position} (ho : (s.crane x).order = some o)
    (hp : (s.crane x).position = some p) :
    s.narrowSpan x = s.changeSpan x (cutTo (s.spanOf x) (interval p.bay (s.targetBays o.targetsLeft))) := by
  simp only [narrowSpan, ho, hp]

theorem clear_near {s : State} {x : Crane} (h : endOf x = .near) (sp : Span) :
    s.clear x sp = separated (s.geometryOf (aisleOf x)) sp (s.spanOf (sibling x)) := by
  simp only [clear, h]

theorem clear_far {s : State} {x : Crane} (h : endOf x = .far) (sp : Span) :
    s.clear x sp = separated (s.geometryOf (aisleOf x)) (s.spanOf (sibling x)) sp := by
  simp only [clear, h]

end State

/-- Settles O38: the interval of a route is the least, and a change of span goes by `narrower`. -/
theorem spansAndSeparation : Obligations.SpansAndSeparation := by
  refine ⟨fun s bay ps => ?_, fun g sp a b c d => ⟨separated_bays_iff .., ?_, ?_, ?_, ?_, ?_⟩, fun s x sp shrink hsp hs => ?_,
    fun s x o p c d l h ho hp hs hr => ?_, fun s x sp => ⟨fun p => State.spanToPosition_known, State.spanToPosition_unknown, rfl,
      fun h => State.clear_near h sp, fun h => State.clear_far h sp, s.spanOf_setSpan_self x sp, fun y hy => ?_, rfl⟩⟩
  · obtain ⟨lo, hi, inside, least⟩ := interval_least bay (s.targetBays ps)
    simp only [State.targetBays, List.forall_mem_map] at inside least
    exact ⟨_, _, rfl, lo, hi, inside, least⟩
  · rfl
  · cases sp <;> rfl
  · simp [separated, testedSpan]
  · simp [separated, testedSpan]
  · simp [separated, testedSpan]
  · have shrinks : shrink ↔ narrower sp (s.spanOf x) = true := hs.trans (narrower_iff hsp).symm
    rw [shrinks, State.changeSpan_eq]
    exact ⟨fun narrow starved => if_pos ⟨narrow, starved⟩, fun h => if_neg h⟩
  · rw [State.narrowSpan_eq ho hp, hs]
    cases hr
    rfl
  · rw [State.spanOf_setSpan, if_neg hy.symm]

/-! ## The span answer and what a claim leaves (R60 to R63, R72) -/

namespace State

variable {s : State} {x : Crane} {q : Position} {ps : List Place}

/-- A route that is clear is ELIGIBLE (R60). -/
theorem spanAnswer_clear (h : s.clear x (s.routeSpan q.bay ps) = true) : s.spanAnswer x (some q) ps = .eligible :=
  if_pos h

/-- A route that is not clear is YIELD-ELIGIBLE when the IDLE sibling has a yield target, and else INELIGIBLE (R60, R61). -/
theorem spanAnswer_blocked (h : ¬s.clear x (s.routeSpan q.bay ps) = true) :
    (∃ y t, (s.crane (sibling x)).state = .idle ∧ (s.crane (sibling x)).position = some y
      ∧ s.yieldTarget x (interval q.bay (s.targetBays ps)).1 (interval q.bay (s.targetBays ps)).2 y.bay = some t
      ∧ s.spanAnswer x (some q) ps = .yieldEligible t)
    ∨ (∀ y t, (s.crane (sibling x)).state = .idle → (s.crane (sibling x)).position = some y →
        s.yieldTarget x (interval q.bay (s.targetBays ps)).1 (interval q.bay (s.targetBays ps)).2 y.bay ≠ some t)
      ∧ s.spanAnswer x (some q) ps = .ineligible := by
  have blocked : ¬s.clear x (.bays (interval q.bay (s.targetBays ps)).1 (interval q.bay (s.targetBays ps)).2) = true := h
  unfold spanAnswer
  dsimp only
  rw [if_neg blocked]
  split
  · rename_i y hs hp
    split
    · rename_i t ht
      exact .inl ⟨y, t, hs, hp, ht, rfl⟩
    · rename_i ht
      exact .inr ⟨fun y' t _ hp' => by cases hp.symm.trans hp'; simp [ht], rfl⟩
  · rename_i out
    exact .inr ⟨fun y t hs hp => absurd hp (out y hs), rfl⟩

theorem spanAnswer_eligible_iff : s.spanAnswer x (some q) ps = .eligible ↔ s.clear x (s.routeSpan q.bay ps) = true := by
  refine ⟨fun h => ?_, spanAnswer_clear⟩
  by_contra blocked
  obtain ⟨y, t, -, -, -, e⟩ | ⟨-, e⟩ := spanAnswer_blocked blocked <;> cases e.symm.trans h

theorem spanAnswer_yield_iff {t : Nat} : s.spanAnswer x (some q) ps = .yieldEligible t ↔
    ¬s.clear x (s.routeSpan q.bay ps) = true ∧ (s.crane (sibling x)).state = .idle
      ∧ ∃ y, (s.crane (sibling x)).position = some y
        ∧ s.yieldTarget x (interval q.bay (s.targetBays ps)).1 (interval q.bay (s.targetBays ps)).2 y.bay = some t := by
  by_cases free : s.clear x (s.routeSpan q.bay ps) = true
  · simp [spanAnswer_clear free, free]
  obtain ⟨y, u, hs, hp, ht, e⟩ | ⟨none, e⟩ := spanAnswer_blocked free
  · simp [free, hs, hp, ht, e]
  · refine iff_of_false (by simp [e]) ?_
    rintro ⟨-, hs, y, hp, ht⟩
    exact none y t hs hp ht

theorem yieldTarget_iff {lo hi b t : Nat} : s.yieldTarget x lo hi b = some t ↔
    (endOf x = .far ∧ t + (s.geometryOf (aisleOf x)).gap + 1 = lo ∧ t ≤ b)
      ∨ (endOf x = .near ∧ t = hi + (s.geometryOf (aisleOf x)).gap + 1 ∧ b ≤ t
        ∧ t ≤ (s.geometryOf (aisleOf x)).bays + 1) := by
  unfold yieldTarget
  cases endOf x
  · simp only [Option.ite_none_right_eq_some, Option.some.injEq, reduceCtorEq, false_and, false_or, true_and]
    constructor <;> intro h <;> omega
  · simp only [Option.ite_none_right_eq_some, Option.some.injEq, reduceCtorEq, false_and, or_false, true_and]
    constructor <;> intro h <;> omega

/-- The aisle of a crane is separated with two given intervals just when the near crane's ends before the far crane's (R59). -/
theorem separatedAt_two (s : State) (x : Crane) (a b c d : Nat) :
    ((s.setSpan x (.bays a b)).setSpan (sibling x) (.bays c d)).separatedAt (aisleOf x) ↔
      (endOf x = .near ∧ b + (s.geometryOf (aisleOf x)).gap < c) ∨ (endOf x = .far ∧ d + (s.geometryOf (aisleOf x)).gap < a) := by
  have other : ((s.setSpan x (.bays a b)).setSpan (sibling x) (.bays c d)).spanOf x = .bays a b := by
    rw [spanOf_setSpan, if_neg (sibling_ne x), spanOf_setSpan_self]
  rw [separatedAt_iff_clear, other]
  cases e : endOf x
  · rw [clear_near e, spanOf_setSpan_self, separated_bays_iff]
    simp
  · rw [clear_far e, spanOf_setSpan_self, separated_bays_iff]
    simp

end State

/-- Settles O40: each answer by the separation it tests, and the spans of a claim by the ends of their intervals. -/
theorem claimsKeepSeparation : Obligations.ClaimsKeepSeparation := by
  rintro s x q ps a rfl
  obtain ⟨low, high, -, -⟩ := interval_least q.bay (s.targetBays ps)
  refine ⟨?_, fun t lo hi gap hr hg => ?_, rfl, fun t ht => ?_, fun sep hq => ?_⟩
  · rw [State.spanAnswer_eligible_iff, separatedAt_setSpan]
  · cases hr
    subst hg
    simp only [State.spanAnswer_yield_iff, separatedAt_setSpan, State.yieldTarget_iff]
  · obtain ⟨-, idle, y, hy, target⟩ := State.spanAnswer_yield_iff.1 ht
    rw [State.yieldTarget_iff] at target
    refine ⟨(State.separatedAt_two ..).2 ?_, fun hq => ?_, y, idle, hy, fun sep => (State.separatedAt_two ..).2 ?_⟩
    · obtain ⟨e, h, -⟩ | ⟨e, h, -⟩ := target
      · exact .inr ⟨e, by omega⟩
      · exact .inl ⟨e, by omega⟩
    · obtain ⟨-, h, -⟩ | ⟨-, -, -, h⟩ := target <;> omega
    · rw [State.separatedAt_two] at sep
      simp only [State.targetBays, State.resolve, List.map_cons, List.map_nil, interval, List.foldl_cons, List.foldl_nil]
      obtain ⟨e, h, b⟩ | ⟨e, h, b, -⟩ := target <;> simp only [e, reduceCtorEq, false_and, or_false, false_or, true_and] at sep ⊢ <;>
        omega
  · rw [separatedAt_setSpan] at sep ⊢
    cases e : endOf x
    · rw [State.clear_near e] at sep ⊢
      refine separated_bays_left sep ?_
      simp [State.targetBays, State.resolve, interval, stationBay, stationOf, e]
    · rw [State.clear_far e] at sep ⊢
      refine separated_bays_right sep ?_
      simp [State.targetBays, State.resolve, interval, stationBay, stationOf, e, hq]

end Sys2Proof.Machine

namespace Sys2Proof.Machine

/-! ## New orders (R72, R130, R131) -/

/-! ### Their ids -/

/-- The counter goes through 1 to 65535 (R130). -/
theorem bumpId_toNat (n : Word16) : (bumpId n).toNat = n.toNat % 65535 + 1 := by
  unfold bumpId
  have := n.isLt
  split
  · rename_i h
    subst h
    rfl
  · rename_i h
    have : n.toNat ≠ 65535 := fun e => h (BitVec.eq_of_toNat_eq e)
    rw [BitVec.toNat_add]
    simp only [BitVec.toNat_ofNat]
    omega

theorem iterate_bumpId_toNat (n : Word16) (i : Nat) : (bumpId^[i + 1] n).toNat = (n.toNat + i) % 65535 + 1 := by
  induction i with
  | zero => simpa using bumpId_toNat n
  | succ i ih =>
    rw [Function.iterate_succ_apply', bumpId_toNat, ih]
    omega

/-- An id that is in use was met after every value before it was in use too. -/
theorem allocId_mem_used {used : List Word16} (k : Nat) (n : Word16) (h : allocId used (k + 1) n ∈ used) :
    ∀ i ≤ k, bumpId^[i + 1] n ∈ used := by
  induction k generalizing n with
  | zero =>
    intro i hi
    cases Nat.le_zero.1 hi
    unfold allocId at h
    split at h
    · assumption
    · exact h
  | succ k ih =>
    unfold allocId at h
    split at h
    · rename_i taken
      intro i hi
      cases i with
      | zero => exact taken
      | succ i => exact ih _ h i (by omega)
    · contradiction

/-- More values than there are orders find one that is free (R130). -/
theorem allocId_fresh {used : List Word16} {k : Nat} (hk : used.length ≤ k) (hb : k < 65535) (n : Word16) :
    allocId used (k + 1) n ∉ used := by
  intro h
  have inj : Function.Injective fun i : Fin (k + 1) => bumpId^[i.val + 1] n := by
    intro i j e
    have e := congrArg BitVec.toNat e
    simp only [iterate_bumpId_toNat] at e
    have := n.isLt
    omega
  have nodup := (List.nodup_finRange (k + 1)).map inj
  have sub : (List.finRange (k + 1)).map (fun i => bumpId^[i.val + 1] n) ⊆ used := by
    intro w hw
    obtain ⟨i, -, rfl⟩ := List.mem_map.1 hw
    exact allocId_mem_used k n h i (by omega)
  have := (nodup.subperm sub).length_le
  simp at this
  omega

theorem allocId_ne_zero (used : List Word16) (k : Nat) (n : Word16) : allocId used (k + 1) n ≠ 0 := by
  have bumped (m : Word16) : bumpId m ≠ 0 := fun e => by
    have := bumpId_toNat m
    rw [e] at this
    simp at this
  induction k generalizing n with
  | zero =>
    unfold allocId
    split <;> exact bumped n
  | succ k ih =>
    unfold allocId
    split
    · exact ih _
    · exact bumped n

namespace State

theorem orderIds_length (s : State) : s.orderIds.length ≤ 16 := List.length_filterMap_le ..

theorem id_mem_orderIds {s : State} {x : Crane} {o : Order} (h : (s.crane x).order = some o) : o.id ∈ s.orderIds :=
  List.mem_filterMap.2 ⟨x, by rw [allCranes_eq]; exact List.mem_finRange x, by rw [h]; rfl⟩

theorem nextId_fresh (s : State) {x : Crane} {o : Order} (h : (s.crane x).order = some o) : o.id ≠ s.nextId := fun e =>
  allocId_fresh s.orderIds_length (by decide) _ (show s.nextId ∈ s.orderIds from e ▸ id_mem_orderIds h)

/-! ### Their records and their spans -/

/-- A crane's context, its span and the id counter, as the creation of an order leaves them (R130). -/
def withOrder (s : State) (x : Crane) (c : CraneCtx) (sp : Span) (id : Word16) : State :=
  let t := (s.setCrane x c).setSpan x sp
  { t with orders := { t.orders with idCounter := id } }

/-- A crane given an order whose span is claimed from its position. -/
theorem claimSpan_placeOrder (s : State) (x : Crane) (o : Order) (p : Position) (ps : List Place) :
    (s.placeOrder x o).claimSpan x (some p) ps
      = s.withOrder x { s.crane x with order := some o, starved := false } (s.routeSpan p.bay ps) o.id := rfl

theorem setCrane_withOrder (s : State) (x : Crane) (c d : CraneCtx) (sp : Span) (id : Word16) :
    (s.withOrder x c sp id).setCrane x d = s.withOrder x d sp id := by
  simp only [withOrder, setCrane, setSpan, upd_upd]

theorem crane_withOrder_self (s : State) (x : Crane) (c : CraneCtx) (sp : Span) (id : Word16) :
    (s.withOrder x c sp id).crane x = c := s.crane_setCrane_self x c

/-- An order that is sent brings its crane to the state of its kind (R131). -/
theorem sendOrder_kind {s : State} {x : Crane} {o : Order} (ho : (s.crane x).order = some o) :
    s.sendOrder x = (s.setCrane x { s.crane x with
      order := some { o with state := .sent, acceptTimer := 0 }, state := stateOfKind o.kind .sent }).emit x (orderFrame o) := by
  rw [sendOrder_eq ho]
  cases o.kind <;> rfl

/-- An order created in SENT is sent as it is, its crane in the state of its kind (R131). -/
theorem sendOrder_withOrder {s : State} {x : Crane} {c : CraneCtx} {o : Order} (ho : c.order = some o) (hs : o.state = .sent)
    (ht : o.acceptTimer = 0) (sp : Span) (id : Word16) :
    (s.withOrder x c sp id).sendOrder x
      = (s.withOrder x { c with state := stateOfKind o.kind .sent } sp id).emit x (orderFrame o) := by
  have same : { o with state := .sent, acceptTimer := 0 } = o := by rw [← hs, ← ht]
  have order : ((s.withOrder x c sp id).crane x).order = some o := by rw [crane_withOrder_self, ho]
  rw [sendOrder_kind order, crane_withOrder_self, setCrane_withOrder, same, ← ho]

/-- A dispatch without a yield (R62, R118). -/
theorem dispatchSent_eq {s : State} {x : Crane} {p : Position} (hp : (s.crane x).position = some p) (r : PassResult) :
    s.dispatchSent x r
      = (s.withOrder x { s.crane x with state := .ordered, order := some (s.jobOrder .sent r), starved := false }
          (s.routeSpan p.bay r.places) s.nextId).emit x (orderFrame (s.jobOrder .sent r)) := by
  rw [dispatchSent, hp, claimSpan_placeOrder]
  exact sendOrder_withOrder rfl rfl rfl ..

/-- The HOME order of a crane at a known position (R72). -/
def homeOrder (s : State) (x : Crane) (p : Position) : Order :=
  Order.new s.nextId .home .sent
    [s.makeLeg (s.valuesNow x) (aisleOf x) (.position p) (.station (stationOf x)) .stay]

theorem createHome_eq {s : State} {x : Crane} {p : Position} (hp : (s.crane x).position = some p) :
    s.createHome x
      = (s.withOrder x
          { s.crane x with state := .homing, order := some (s.homeOrder x p), starved := false, homeRequest := false }
          (s.routeSpan p.bay [.station (stationOf x)]) s.nextId).emit x (orderFrame (s.homeOrder x p)) := by
  have claimed : ((s.placeOrder x (s.homeOrder x p)).modCrane x fun c => { c with homeRequest := false }).claimSpan x
      (some p) [.station (stationOf x)]
        = s.withOrder x { s.crane x with order := some (s.homeOrder x p), starved := false, homeRequest := false }
          (s.routeSpan p.bay [.station (stationOf x)]) s.nextId := by
    rw [modCrane, crane_placeOrder, if_pos rfl]
    simp only [placeOrder, modCrane, setCrane, claimSpan, setSpan, withOrder, upd_upd]
    rfl
  rw [createHome, hp]
  dsimp only [firstOrigin]
  refine (congrArg (fun t => t.sendOrder x) claimed).trans ?_
  exact sendOrder_withOrder rfl rfl rfl ..

/-- The YIELD order of the sibling y of a crane x, from its position to the target (R61, R63). -/
def yieldOrder (s : State) (p : Pass) (x y : Crane) (b : Position) (t : Nat) : Order :=
  { Order.new s.nextId .yield .sent
      [s.makeLeg { p.latch.values with trim := (s.trimOf y).trim } (aisleOf y) (.position b) (.rail (aisleOf y) t b.level)
        .stay] with
    yieldPartner := some x }

theorem sendYield_eq {s : State} {y : Crane} {b : Position} (hb : (s.crane y).position = some b) (p : Pass) (x : Crane)
    (t : Nat) :
    s.sendYield p x y t
      = ((s.withOrder y { s.crane y with state := .yielding, order := some (s.yieldOrder p x y b t), starved := false }
          (s.routeSpan b.bay [.rail (aisleOf y) t b.level]) s.nextId).setPair (aisleOf x)
          (some { waiting := x, yielding := y, target := t })).emit y (orderFrame (s.yieldOrder p x y b t)) := by
  have sent := sendOrder_withOrder (s := s.setPair (aisleOf x) (some { waiting := x, yielding := y, target := t })) (x := y)
    (c := { s.crane y with order := some (s.yieldOrder p x y b t), starved := false }) (o := s.yieldOrder p x y b t) rfl rfl rfl
    (s.routeSpan b.bay [.rail (aisleOf y) t b.level]) s.nextId
  unfold sendYield
  split
  · rename_i e
    cases hb.symm.trans e
  · rename_i e
    cases hb.symm.trans e
    exact sent

/-- A dispatch with a yield: the order waits, and the sibling yields (R63). -/
theorem dispatchWaiting_eq {s : State} {x y : Crane} {p b : Position} (hs : y = sibling x) (hp : (s.crane x).position = some p)
    (hb : (s.crane y).position = some b) (pass : Pass) (t : Nat) (r : PassResult) {v : State}
    (hv : v = s.withOrder x { s.crane x with state := .awaitYield, order := some (s.jobOrder .awaitYield r), starved := false }
      (s.routeSpan p.bay r.places) s.nextId) :
    s.dispatchWaiting pass x t r
      = ((v.withOrder y { s.crane y with state := .yielding, order := some (v.yieldOrder pass x y b t), starved := false }
          (s.routeSpan b.bay [.rail (aisleOf y) t b.level]) v.nextId).setPair (aisleOf x)
          (some { waiting := x, yielding := y, target := t })).emit y (orderFrame (v.yieldOrder pass x y b t)) := by
  have crane : v.crane y = s.crane y := by
    rw [hv]
    exact (s.crane_setCrane ..).trans (if_neg (hs ▸ (sibling_ne x).symm))
  have waiting : ((s.placeOrder x (s.jobOrder .awaitYield r)).claimSpan x (s.crane x).position r.places).setCraneState x
      .awaitYield = v := by
    rw [hp, claimSpan_placeOrder, setCraneState, modCrane, crane_withOrder_self, setCrane_withOrder, hv]
    rfl
  have span : v.routeSpan b.bay [.rail (aisleOf y) t b.level] = s.routeSpan b.bay [.rail (aisleOf y) t b.level] := by
    rw [hv]; rfl
  rw [dispatchWaiting, waiting, ← hs, sendYield_eq (by rw [crane, hb]), crane, span]

end State

/-- The body of an ORDER record (R194). -/
theorem orderFrame_eq (q : Order) : orderFrame q
    = frameOf 0x01#8
      (word16Bytes q.id ++ [match q.kind with | .job => 0#8 | .yield => 1#8 | .home => 2#8]
        ++ [BitVec.ofNat 8 q.legs.length]
        ++ q.legs.flatMap fun l => placeBytes l.target ++ [match l.action with | .stay => 0#8 | .pick => 1#8 | .drop => 2#8]) := by
  have kind : byte1 (orderKindCode q.kind) = [match q.kind with | .job => 0#8 | .yield => 1#8 | .home => 2#8] := by
    cases q.kind <;> rfl
  have action (a : Action) : byte1 (actionCode a) = [match a with | .stay => 0#8 | .pick => 1#8 | .drop => 2#8] := by
    cases a <;> rfl
  simp only [orderFrame, listBytes, kind, action, List.append_assoc]
  rfl

/-- Settles O54: ids by counting, and each new order as its creation leaves its crane's context and span. -/
theorem ordersAreCreated : Obligations.OrdersAreCreated := by
  intro s x p home leg o t
  refine ⟨allocId_ne_zero _ 16 _, fun y q => s.nextId_fresh, ?_, orderFrame_eq, fun r st job hp hjob => ⟨?_, ?_⟩⟩
  · rintro hp rfl rfl rfl rfl
    rw [State.createHome_eq hp, orderFrame_eq]
    simp [State.homeOrder, Order.new, placeBytes, stationOf, State.withOrder]
    rfl
  · rintro u rfl rfl
    subst hjob
    exact State.dispatchSent_eq hp r
  · rintro pass target y b place yielding u v w rfl rfl hb rfl rfl rfl rfl rfl
    subst hjob
    exact State.dispatchWaiting_eq rfl hp hb pass target r rfl

end Sys2Proof.Machine

namespace Sys2Proof.Machine

/-! ## What the laws of spans and orders do not speak of

Most operations on jobs, lanes, the table, notices and clocks leave the rail as it is: no crane changes its state, order,
position or span, and the queue and the crane under evaluation stay. `RailKept` says so once; both laws of the rail go
through it. -/

/-- The rail, the orders and the engine's queue are as they were. -/
structure RailKept (s t : State) : Prop where
  state : ∀ x, (t.crane x).state = (s.crane x).state
  order : ∀ x, (t.crane x).order = (s.crane x).order
  position : ∀ x, (t.crane x).position = (s.crane x).position
  spans : t.spans = s.spans
  queue : t.engine.queue = s.engine.queue
  pass : t.engine.pass.map (·.crane) = s.engine.pass.map (·.crane)
  geometry : t.cost.geometry = s.cost.geometry

namespace RailKept

variable {s t : State}

theorem refl (s : State) : RailKept s s := ⟨fun _ => rfl, fun _ => rfl, fun _ => rfl, rfl, rfl, rfl, rfl⟩

theorem trans {u : State} (h : RailKept s t) (k : RailKept t u) : RailKept s u where
  state x := (k.state x).trans (h.state x)
  order x := (k.order x).trans (h.order x)
  position x := (k.position x).trans (h.position x)
  spans := k.spans.trans h.spans
  queue := k.queue.trans h.queue
  pass := k.pass.trans h.pass
  geometry := k.geometry.trans h.geometry

/-! ### The single updates -/

/-- A state that differs only in parts that hold no crane. -/
theorem elsewhere (h : RailKept s t) (u : State) (hc : u.orders.cranes = t.orders.cranes := by rfl)
    (hs : u.spans = t.spans := by rfl) (he : u.engine = t.engine := by rfl)
    (hg : u.cost.geometry = t.cost.geometry := by rfl) : RailKept s u := by
  have crane (x : Crane) : u.crane x = t.crane x := congrArg (Vector.get · x) hc
  exact h.trans ⟨fun x => by rw [crane], fun x => by rw [crane], fun x => by rw [crane], hs, by rw [he], by rw [he], hg⟩

/-- A crane's context changed in other fields than its state, order and position. -/
theorem modCrane (h : RailKept s t) {x : Crane} {f : CraneCtx → CraneCtx}
    (hs : (f (t.crane x)).state = (t.crane x).state := by rfl) (ho : (f (t.crane x)).order = (t.crane x).order := by rfl)
    (hp : (f (t.crane x)).position = (t.crane x).position := by rfl) : RailKept s (t.modCrane x f) := by
  refine h.trans ⟨fun y => ?_, fun y => ?_, fun y => ?_, rfl, rfl, rfl, rfl⟩ <;> rw [State.crane_modCrane] <;> split
  case isTrue e => exact e ▸ hs
  case isTrue e => exact e ▸ ho
  case isTrue e => exact e ▸ hp
  all_goals rfl

theorem setTable (h : RailKept s t) {u : List Entry} : RailKept s (t.setTable u) := h.elsewhere _
theorem setJobs (h : RailKept s t) {js : List Job} : RailKept s (t.setJobs js) := h.elsewhere _
theorem modJobOf (h : RailKept s t) {tag : Word32} {f : Job → Job} : RailKept s (t.modJobOf tag f) := h.elsewhere _
theorem setLane (h : RailKept s t) {l : LaneNo} {r : Lane} : RailKept s (t.setLane l r) := h.elsewhere _
theorem setTrimOf (h : RailKept s t) {x : Crane} {r : Trim} : RailKept s (t.setTrimOf x r) := h.elsewhere _
theorem setSilence (h : RailKept s t) {x : Crane} {n : Nat} : RailKept s (t.setSilence x n) := h.elsewhere _
theorem emit (h : RailKept s t) {x : Crane} {f : List Byte} : RailKept s (t.emit x f) := h.elsewhere _
theorem raise (h : RailKept s t) {e : Event} : RailKept s (t.raise e) := h.elsewhere _
theorem pushReply (h : RailKept s t) {r : Reply} : RailKept s (t.pushReply r) := h.elsewhere _
theorem setSup (h : RailKept s t) {u : Supervision} : RailKept s { t with sup := u } := h.elsewhere _
theorem anomaly (h : RailKept s t) {x : Crane} : RailKept s (t.anomaly x) := h.modCrane
theorem takeAboard (h : RailKept s t) {x : Crane} {b : Bool} : RailKept s (t.takeAboard x b) := h.modCrane
theorem craneStateEvent (h : RailKept s t) {x : Crane} {c : StateCause} : RailKept s (t.craneStateEvent x c) :=
  raise h.modCrane

/-- The pass in flight goes on for the same crane. -/
theorem setPass (h : RailKept s t) {p q : Pass} (hp : t.engine.pass = some p) (hq : q.crane = p.crane) :
    RailKept s (t.setPass (some q)) :=
  h.trans ⟨fun _ => rfl, fun _ => rfl, fun _ => rfl, rfl, rfl, by simp [State.setPass, hp, hq], rfl⟩

theorem ite {c : Prop} [Decidable c] {u : State} (ht : RailKept s t) (hu : RailKept s u) :
    RailKept s (if c then t else u) := by
  split
  · exact ht
  · exact hu

theorem foldl {α : Type} {f : State → α → State} {l : List α} (h : RailKept s t)
    (hf : ∀ u a, RailKept s u → RailKept s (f u a)) : RailKept s (l.foldl f t) := by
  induction l generalizing t with
  | nil => exact h
  | cons a l ih => exact ih (hf t a h)

/-! ### Jobs, the table and the lanes -/

theorem watch (h : RailKept s t) {old new : Nat} : RailKept s (t.watch old new) := by
  unfold State.watch
  split
  · exact ite h.raise h
  · exact h

theorem lowerLane (h : RailKept s t) {l : Option (LaneNo × Word16)} : RailKept s (t.lowerLane l) := by
  unfold State.lowerLane
  split
  · exact h.setLane
  · exact h

theorem raiseLane (h : RailKept s t) {l : Option (LaneNo × Word16)} : RailKept s (t.raiseLane l) := by
  unfold State.raiseLane
  split
  · exact h.setLane
  · exact h

theorem deliverOnly (h : RailKept s t) {l : LaneNo} {d : Word16} : RailKept s (t.deliverOnly l d) :=
  ite (raise h.setLane) h.setLane

theorem removeJob (h : RailKept s t) {tag : Word32} {clears : Bool} : RailKept s (t.removeJob tag clears) := by
  unfold State.removeJob
  split
  · exact h
  · exact watch (lowerLane (setTable h.setJobs))

theorem addJob (h : RailKept s t) {j : Job} : RailKept s (t.addJob j) := by
  unfold State.addJob
  exact watch (h.elsewhere _)

theorem returnJob (h : RailKept s t) {tag : Word32} : RailKept s (t.returnJob tag) := h.modJobOf

theorem completeStore (h : RailKept s t) {tag : Word32} : RailKept s (t.completeStore tag) := by
  unfold State.completeStore
  split
  · exact h.removeJob.raise
  · exact h.removeJob

theorem strandJob (h : RailKept s t) {tag : Word32} {x : Crane} : RailKept s (t.strandJob tag x) := h.removeJob.raise

theorem relocationDone (h : RailKept s t) {tag : Word32} {r : Relocation} : RailKept s (t.relocationDone tag r) :=
  raise h.setTable

theorem relocationUndone (h : RailKept s t) {tag : Word32} : RailKept s (t.relocationUndone tag) := h.setTable

theorem declineJob (h : RailKept s t) {tag : Word32} {reason : Byte} : RailKept s (t.declineJob tag reason) := by
  unfold State.declineJob
  split
  · exact h
  · exact ite h.modJobOf h.removeJob.raise

theorem revertEntries (h : RailKept s t) {o : Order} : RailKept s (t.revertEntries o) := h.setTable
theorem returnJobs (h : RailKept s t) {o : Order} : RailKept s (t.returnJobs o) := h.foldl fun _ _ k => k.returnJob
theorem activateJobs (h : RailKept s t) {o : Order} : RailKept s (t.activateJobs o) := h.foldl fun _ _ k => k.modJobOf

theorem declineJobs (h : RailKept s t) {o : Order} {reason : Byte} : RailKept s (t.declineJobs o reason) := by
  unfold State.declineJobs
  split
  · exact h.revertEntries.foldl fun _ _ k => k.declineJob
  · exact h

theorem endStore (h : RailKept s t) {o : Order} : RailKept s (t.endStore o) := by
  unfold State.endStore
  split
  · exact h.completeStore
  · exact h

theorem abandonStore (h : RailKept s t) {o : Order} {x : Crane} : RailKept s (t.abandonStore o x) := by
  unfold State.abandonStore
  split
  · exact h
  · exact ite (setTable h.returnJob) (ite h.strandJob h.completeStore)

theorem accumulate (h : RailKept s t) {x : Crane} {m n : Nat} : RailKept s (t.accumulate x m n) :=
  ite (raise h.setTrimOf) h.setTrimOf

theorem orderJobs (h : RailKept s t) {r : PassResult} : RailKept s (t.orderJobs r) := by
  unfold State.orderJobs
  dsimp only
  split <;> split
  · exact modJobOf h.modJobOf
  · exact h.modJobOf
  · exact h.modJobOf
  · exact h

/-! ### Records that say nothing of the rail -/

theorem reportRange (h : RailKept s t) {x : Crane} {b l : Nat} : RailKept s (t.reportRange x b l) := ite h h.anomaly

theorem countAnomaly (h : RailKept s t) {x : Crane} {id : Word16} {n : Nat} : RailKept s (t.countAnomaly x id n) := by
  unfold State.countAnomaly
  split
  · exact ite h h.anomaly
  · exact h

theorem nameAnomaly (h : RailKept s t) {x : Crane} {id : Word16} : RailKept s (t.nameAnomaly x id) := ite h h.anomaly

theorem statusAnomalies (h : RailKept s t) {x : Crane} {mode : StatusMode} {id : Word16} {n : Nat} :
    RailKept s (t.statusAnomalies x mode id n) := by
  cases mode
  · exact h.countAnomaly.nameAnomaly
  · exact h.countAnomaly
  · exact h.countAnomaly.nameAnomaly

theorem dropCraneFrame (h : RailKept s t) {x : Crane} : RailKept s (t.dropCraneFrame x) :=
  (h.modCrane (x := x) (f := fun c => { c with lineErrors := satAdd Config.countLimit c.lineErrors 1 })).elsewhere _

/-! ### The engine's pass -/

theorem noteTrigger (h : RailKept s t) {x : Crane} : RailKept s (t.noteTrigger x) := by
  unfold State.noteTrigger
  split
  · rename_i p e
    exact ite (h.setPass e rfl) h
  · exact h

/-- The stage of a pass in flight, whatever happened to jobs and notices before it. -/
theorem setStage {p q : Pass} {u : State} {st : Stage} (k : RailKept s u) (hp : u.engine.pass = some p) (hq : q.crane = p.crane) :
    RailKept s (u.setStage q st) := k.setPass hp hq

theorem stallHead (h : RailKept s t) {p : Pass} {tag serial : Word32} :
    RailKept s (t.stallHead p tag serial) ∧ (t.stallHead p tag serial).engine = t.engine := by
  unfold State.stallHead
  split
  · exact ⟨h, rfl⟩
  · dsimp only
    split
    · exact ⟨h.modJobOf, rfl⟩
    · exact ⟨h.modJobOf.raise, rfl⟩

theorem endStoreStage (h : RailKept s t) {p : Pass} (hp : t.engine.pass = some p) {tag serial : Word32}
    {best : Option StorePick} : RailKept s (t.endStoreStage p tag serial best) := by
  unfold State.endStoreStage
  split
  · obtain ⟨k, e⟩ := h.stallHead (p := p) (tag := tag) (serial := serial)
    exact k.setStage (e ▸ hp) rfl
  · exact setStage h.modJobOf hp rfl

theorem considerRetrieve (h : RailKept s t) {p : Pass} (hp : t.engine.pass = some p) {j : Job} {a : Slot}
    {store : Option StorePick} {best : Option RetrievePick} : RailKept s (t.considerRetrieve p j a store best) := by
  unfold State.considerRetrieve
  refine ite (h.setStage hp rfl) ?_
  split
  · unfold State.noSpares
    split
    · exact h.setStage hp rfl
    · exact setStage h.raise hp rfl
  · exact ite (h.setStage hp rfl) (h.setStage hp rfl)
  · exact ite (h.setStage hp rfl) (h.setStage hp rfl)

theorem passItem (h : RailKept s t) {p : Pass} (hp : t.engine.pass = some p) {u : State} (e : t.passItem p = some u) :
    RailKept s u := by
  unfold State.passItem at e
  split at e
  · split at e <;> cases e <;> exact h.setStage hp rfl
  · split at e <;> cases e
    · exact h.setStage hp rfl
    · exact h.endStoreStage hp
  · split at e
    · cases e
    · split at e <;> cases e
      exact h.considerRetrieve hp
  · cases e

theorem passItems (n : Nat) {t : State} (h : RailKept s t) : RailKept s (State.passItems n t) := by
  induction n generalizing t with
  | zero => exact h
  | succ n ih =>
    unfold State.passItems
    split
    · exact h
    · rename_i p hp
      split
      · rename_i u e
        exact ih (h.passItem hp e)
      · exact h

/-! ### Requests -/

theorem setPolicy (h : RailKept s t) {r : PolicyRequest} : RailKept s (t.setPolicy r).1 := by
  unfold State.setPolicy
  repeat' split
  all_goals exact h.elsewhere _

theorem setProfile (h : RailKept s t) {r : Byte × Profile} : RailKept s (t.setProfile r).1 := by
  unfold State.setProfile
  repeat' split
  all_goals exact h.elsewhere _

theorem queryJob (h : RailKept s t) {tag : Word32} : RailKept s (t.queryJob tag).1 := by
  unfold State.queryJob
  split <;> exact h

theorem queryStatus (h : RailKept s t) {fields : List Byte} : RailKept s (t.queryStatus fields).1 := by
  unfold State.queryStatus
  split <;> exact h

theorem removeSpare (h : RailKept s t) {p : Place} : RailKept s (t.removeSpare p).1 := by
  unfold State.removeSpare
  repeat' split
  all_goals first | exact h | exact h.setTable

theorem setCause (h : RailKept s t) {sc : HoldScope} : RailKept s (t.setCause sc) := by
  cases sc <;> exact h.elsewhere _

theorem clearCauses (h : RailKept s t) {sc : HoldScope} : RailKept s (t.clearCauses sc) := by
  cases sc <;> exact h.elsewhere _

/-! ### The lines and the clocks -/

theorem transmitted (h : RailKept s t) : RailKept s t.transmitted := by
  unfold State.transmitted
  split
  · exact h
  · exact h.elsewhere _

theorem serviceHost (h : RailKept s t) : RailKept s t.serviceHost := ite (raise h.setSup) h

theorem countSilence (h : RailKept s t) {x : Crane} : RailKept s (t.countSilence x) := ite h.setSilence h

theorem poll (h : RailKept s t) {before : Crane → Nat} : RailKept s (t.poll before) := by
  unfold State.poll
  split
  · exact emit h.setSup
  · exact h

theorem append (h : RailKept s t) {cs : List Instr} : RailKept s (t.append cs) := h.elsewhere _

theorem withLines (h : RailKept s t) {p : Port} {l : Lines} : RailKept s { t with port := p, lines := l } := h.elsewhere _

theorem receiveHost (h : RailKept s t) {b : LineByte} {rest : List LineByte} : RailKept s (t.receiveHost b rest) := by
  unfold State.receiveHost
  exact append h.withLines

theorem receiveCrane (h : RailKept s t) {x : Crane} {b : LineByte} {rest : List LineByte} :
    RailKept s (t.receiveCrane x b rest) := by
  unfold State.receiveCrane
  exact append h.withLines

theorem tick (h : RailKept s t) : RailKept s t.tick := by
  have ran : RailKept s t.runClocks := h.setSup
  unfold State.tick State.waitLines
  exact append ran.withLines

end RailKept
end Sys2Proof.Machine

namespace Sys2Proof.Machine

/-! ## What a law of the rail has to show

Every command comes down to operations that leave the rail as it is, to triggers and turns of the engine, and to a few
operations on a crane. A predicate that these keep is kept by every step. The guard `clears` bounds the states in which a
FAULT CLEAR is looked at. -/

/-- A predicate that the operations on the rail keep. -/
structure RailInvariant (clears : CraneState → Prop) (P : State → Prop) : Prop where
  kept : ∀ {s t : State}, P s → RailKept s t → P t
  trigger : ∀ {s : State} {x : Crane}, P s → P (s.trigger x)
  engineRun : ∀ {s : State}, P s → P s.engineRun
  completePass : ∀ {s : State} {p : Pass}, P s → s.engine.pass = some p → P (s.completePass p)
  unsettled : ∀ {s : State} {x : Crane}, P s → (s.crane x).state = .lost → P (s.unsettled x)
  takeAccept : ∀ {s : State} {x : Crane} {id : Word16}, P s → P (s.takeAccept x id)
  takeDecline : ∀ {s : State} {x : Crane} {id : Word16} {reason : Byte}, P s → P (s.takeDecline x id reason)
  takeRevoked : ∀ {s : State} {x : Crane} {id : Word16} {started : Bool}, P s → P (s.takeRevoked x id started)
  takeLegDone : ∀ {s : State} {x : Crane} {id : Word16} {i : Nat} {bay level : Byte}, P s → P (s.takeLegDone x id i bay level)
  takeOrderDone : ∀ {s : State} {x : Crane} {id : Word16} {bay level : Byte}, P s → P (s.takeOrderDone x id bay level)
  takeFault : ∀ {s : State} {x : Crane} {code bay level : Byte} {id : Word16} {n : Nat}, P s → P (s.takeFault x code bay level id n)
  takeFaultClear : ∀ {s : State} {x : Crane} {bay level : Byte}, P s → clears (s.crane x).state → P (s.takeFaultClear x bay level)
  takeStatus : ∀ {s : State} {x : Crane} {mode : StatusMode} {id : Word16} {n : Nat} {bay level : Byte} {aboard : Bool},
    P s → P (s.takeStatus x mode id n bay level aboard)
  takeEnrol : ∀ {s : State} {x : Crane}, P s → (s.crane x).state = .offline → P (s.takeEnrol x)
  takeWithdraw : ∀ {s : State} {x : Crane}, P s → s.withdrawBusy x = false → P (s.takeWithdraw x)
  giveUp : ∀ {s : State} {x : Crane}, P s → (s.crane x).state = .faulted ∨ (s.crane x).state = .lost → P (s.giveUp x)
  loseCrane : ∀ {s : State} {x : Crane}, P s → P (s.loseCrane x)
  expireAccept : ∀ {s : State} {x : Crane}, P s → P (s.expireAccept x)
  countAccept : ∀ {s : State} {x : Crane}, P s → P (s.countAccept x)
  setGeometryOf : ∀ {s : State} {a : Aisle} {g : Geometry}, P s → ¬s.aisleInUse a = true → P (s.setGeometryOf a g)
  resetJobs : ∀ {s : State}, P s → P s.resetJobs
  powerOn : ∀ {t : State}, t.orders = .powerOn → t.spans = .powerOn → t.engine = .powerOn → P t

namespace RailInvariant

variable {clears : CraneState → Prop} {P : State → Prop} (inv : RailInvariant clears P)
variable {s : State}

include inv

/-! ### Triggers -/

theorem triggerAll (h : P s) (xs : List Crane) : P (s.triggerAll xs) := by
  unfold State.triggerAll
  induction xs generalizing s with
  | nil => exact h
  | cons x xs ih => exact ih (inv.trigger h)

theorem triggerAisle (h : P s) {a : Aisle} : P (s.triggerAisle a) := inv.trigger (inv.trigger h)

theorem afterRelease (h : P s) {xs : List Crane} : P (s.afterRelease xs) := inv.triggerAll (inv.engineRun h) xs

theorem deliver (h : P s) {l : LaneNo} {d : Word16} : P (s.deliver l d) := by
  have delivered : P (s.deliverOnly l d) := inv.kept h (RailKept.refl s).deliverOnly
  unfold State.deliver
  split
  · exact inv.triggerAll delivered _
  · exact delivered

/-! ### Requests -/

theorem hearHost (h : P s) : P s.hearHost := by
  unfold State.hearHost State.autoRelease
  split
  · exact inv.afterRelease (inv.kept h ((RailKept.refl s).elsewhere _))
  · exact inv.kept h ((RailKept.refl s).elsewhere _)

theorem takeRequest (h : P s) {kind : Byte} {body : List Byte} {owner : State → List Byte → Answer}
    (ho : ∀ t fields, P t → P (owner t fields).1) : P (s.takeRequest kind body owner) := by
  unfold State.takeRequest
  split
  · exact inv.kept h ((RailKept.refl s).elsewhere _)
  · split
    · exact inv.kept (ho _ _ (inv.hearHost h)) (RailKept.refl _).pushReply
    · exact inv.kept (inv.hearHost h) (RailKept.refl _).pushReply

/-- A request whose fields are read and whose owner keeps the predicate. -/
theorem readRequest (h : P s) {α : Type} {kind : Byte} {body : List Byte} {read : List Byte → Option α}
    {act : State → α → Answer} (ha : ∀ t r, P t → P (act t r).1) :
    P (s.takeRequest kind body (State.reading read act)) :=
  inv.takeRequest h fun t fields k => by
    unfold State.reading
    split
    · exact ha t _ k
    · exact k

/-- A request that leaves the rail as it is. -/
theorem keptRequest (h : P s) {α : Type} {kind : Byte} {body : List Byte} {read : List Byte → Option α}
    {act : State → α → Answer} (ha : ∀ t r, RailKept t (act t r).1) :
    P (s.takeRequest kind body (State.reading read act)) :=
  inv.readRequest h fun t r k => inv.kept k (ha t r)

omit inv in
theorem ranged {α : Type} (h : P s) {n : Option α} {act : State → α → Answer} (ha : ∀ a, P (act s a).1) :
    P (s.ranged n act).1 := by
  unfold State.ranged
  split
  · exact ha _
  · exact h

omit inv in
/-- A request that is taken with data. -/
theorem okWith (h : P s) {d : ReplyData} : P (s.okWith d).1 := h

omit inv in
/-- A check of a request. -/
theorem check {c : Prop} [Decidable c] {a b : Answer} (ha : c → P a.1) (hb : ¬c → P b.1) : P (if c then a else b).1 := by
  split
  · rename_i k; exact ha k
  · rename_i k; exact hb k

theorem admitStore (h : P s) {r : StoreRequest} : P (s.admitStore r).1 := by
  unfold State.admitStore
  split
  · exact check (fun _ => h) fun _ => check (fun _ => h) fun _ => check (fun _ => h) fun _ => check (fun _ => h) fun _ =>
      check (fun _ => h) fun _ => check (fun _ => h) fun _ => inv.trigger (inv.kept h (RailKept.refl s).addJob)
  · exact h

theorem admitRetrieve (h : P s) {r : RetrieveRequest} : P (s.admitRetrieve r).1 := by
  unfold State.admitRetrieve
  split
  · refine check (fun _ => h) fun _ => check (fun _ => h) fun _ => check (fun _ => h) fun _ => check (fun _ => h) fun _ =>
      check (fun _ => h) fun _ => ?_
    split
    · exact h
    · exact check (fun _ => h) fun _ => inv.triggerAisle (inv.kept h (RailKept.refl s).setTable.raiseLane.addJob)
  · exact h

theorem amendStore (h : P s) {r : Word32 × List Place} : P (s.amendStore r).1 := by
  unfold State.amendStore
  split
  · exact h
  · split
    · exact h
    · exact check (fun _ => h) fun _ => check (fun _ => h) fun _ => inv.trigger (inv.kept h (RailKept.refl s).modJobOf)

theorem cancelJob (h : P s) {r : Word32 × Bool} : P (s.cancelJob r).1 := by
  unfold State.cancelJob
  split
  · exact h
  · rename_i j _
    refine check (fun _ => h) fun _ => ?_
    have skipped : P ((s.removeJob r.1 false).skipDelivery j r.2) := by
      have removed := inv.kept h ((RailKept.refl s).removeJob (tag := r.1) (clears := false))
      unfold State.skipDelivery
      split
      · exact inv.deliver removed
      · exact removed
    dsimp only [State.ok, State.cancelTriggers]
    split
    · split
      · exact inv.trigger skipped
      · exact skipped
    · exact inv.triggerAisle skipped

theorem addSpare (h : P s) {p : Place} : P (s.addSpare p).1 := by
  unfold State.addSpare
  split
  · exact check (fun _ => h) fun _ => check (fun _ => h) fun _ => check (fun _ => h) fun _ =>
      inv.triggerAisle (inv.kept h (RailKept.refl s).setTable)
  · exact h

theorem laneOpen (h : P s) {r : Byte × Word16 × Nat} : P (s.laneOpen r).1 :=
  ranged h fun _ => check (fun _ => h) fun _ =>
    okWith (inv.triggerAll (inv.kept h (RailKept.refl s).setLane) _)

theorem laneClose (h : P s) {b : Byte} : P (s.laneClose b).1 :=
  ranged h fun _ => check (fun _ => h) fun _ => check (fun _ => h) fun _ => inv.kept h (RailKept.refl s).setLane

theorem skipSequence (h : P s) {r : Byte × Word16} : P (s.skipSequence r).1 := by
  refine ranged h fun _ => check (fun _ => h) fun _ => check (fun _ => h) fun _ => check (fun _ => h) fun _ =>
    check (fun _ => h) fun _ => ?_
  unfold State.takeSkip
  exact okWith (inv.triggerAll (inv.kept h (RailKept.refl s).deliverOnly) _)

theorem holdRequest (h : P s) {b : Byte} : P (s.holdRequest b).1 :=
  ranged h fun _ => check (fun _ => h) fun _ => inv.kept h (RailKept.refl s).setCause.raise

theorem resumeRequest (h : P s) {b : Byte} : P (s.resumeRequest b).1 :=
  ranged h fun _ => check (fun _ => inv.afterRelease (inv.kept h (RailKept.refl s).clearCauses.raise)) fun _ => h

theorem setGeometry (h : P s) {r : GeometryRequest} : P (s.setGeometry r).1 := by
  have replaced (a : Aisle) (g : Geometry) : P (s.replaceGeometry a g).1 :=
    check (fun _ => h) fun k => inv.setGeometryOf h k
  unfold State.setGeometry
  split
  · exact h
  · refine check (fun _ => ?_) fun _ => replaced _ _
    split
    · exact h
    · exact check (fun _ => h) fun _ => replaced _ _

theorem enrol (h : P s) {b : Byte} : P (s.enrol b).1 :=
  ranged h fun x => check (fun _ => h) fun k => check (fun _ => h) fun _ =>
    inv.takeEnrol h (by simpa [State.enrolled] using k)

theorem withdraw (h : P s) {b : Byte} : P (s.withdraw b).1 :=
  ranged h fun _ => check (fun _ => h) fun _ => check (fun _ => h) fun k => inv.takeWithdraw h (by simpa using k)

theorem homeCrane (h : P s) {b : Byte} : P (s.homeCrane b).1 := by
  refine ranged h fun x => check (fun _ => h) fun _ => check (fun _ => h) fun _ => ?_
  have requested : P (s.modCrane x fun c => { c with homeRequest := true }) := inv.kept h (RailKept.refl s).modCrane
  dsimp only [State.ok, State.takeHome]
  split
  · exact inv.trigger requested
  · exact inv.engineRun requested
  · exact requested

theorem abandonOrder (h : P s) {b : Byte} : P (s.abandonOrder b).1 :=
  ranged h fun _ => check (fun k => inv.giveUp (inv.kept h (RailKept.refl s).emit) k.1) fun _ => h

theorem resetRequest (h : P s) {b : Byte} : P (s.resetRequest b).1 :=
  ranged h fun sc => by
    cases sc
    · exact inv.powerOn rfl rfl rfl
    · exact inv.resetJobs h

/-! ### Crane records and the clocks -/

theorem hearCrane (h : P s) {x : Crane} {record : State → State}
    (hr : ∀ t, P t → (t.crane x).state = (s.crane x).state → P (record t)) : P (s.hearCrane x record) := by
  unfold State.hearCrane
  split
  · exact hr _ (inv.kept h (RailKept.refl s).setSilence) rfl
  · exact h

theorem notTaken (h : P s) {x : Crane} : P (s.notTaken x) := by
  unfold State.notTaken
  split
  · rename_i k; exact inv.unsettled h k
  · exact inv.kept h (RailKept.refl s).anomaly

theorem serviceSilence (h : P s) {x : Crane} : P (s.serviceSilence x) := by
  unfold State.serviceSilence
  split
  · exact inv.loseCrane h
  · exact h

theorem serviceAccept (h : P s) {x : Crane} : P (s.serviceAccept x) := by
  unfold State.serviceAccept
  split
  · exact inv.expireAccept h
  · exact h

omit inv in
theorem foldl {α : Type} {f : State → α → State} {l : List α} (h : P s) (hf : ∀ u a, P u → P (f u a)) : P (l.foldl f s) := by
  induction l generalizing s with
  | nil => exact h
  | cons a l ih => exact ih (hf s a h)

theorem paceExpires (h : P s) : P s.paceExpires := by
  have ticked : P s.tickPace := inv.kept h (RailKept.refl s).setSup
  have silent : P (allCranes.foldl State.countSilence s.tickPace) :=
    foldl ticked fun u _ k => inv.kept k (RailKept.refl u).countSilence
  have counted : P (allCranes.foldl State.countAccept (allCranes.foldl State.countSilence s.tickPace)).countHost :=
    inv.kept (foldl silent fun _ _ k => inv.countAccept k) (RailKept.refl _).setSup
  have served : P (allCranes.foldl State.serviceSilence
      (allCranes.foldl State.countAccept (allCranes.foldl State.countSilence s.tickPace)).countHost) :=
    foldl counted fun _ _ k => inv.serviceSilence k
  exact foldl (inv.kept served (RailKept.refl _).poll.serviceHost) fun _ _ k => inv.serviceAccept k

theorem passCompletes (h : P s) : P s.passCompletes := by
  have items := inv.kept h (RailKept.passItems s.itemBound (RailKept.refl s))
  unfold State.passCompletes
  dsimp only
  split
  · rename_i hp
    exact inv.completePass items hp
  · exact items

/-! ### Every command and every step -/

theorem exec (h : P s) {c : Instr} {t : State} (hc : ∀ x bay level, c = .faultClear x bay level → clears (s.crane x).state)
    (e : exec c s = .next t) : P t := by
  cases c <;> have e := Host.Outcome.next.inj e <;> subst e
  case powerOn strap => exact inv.powerOn rfl rfl rfl
  case setAisleGeometry => exact inv.readRequest h fun _ _ k => inv.setGeometry k
  case reset => exact inv.readRequest h fun _ _ k => inv.resetRequest k
  case admitStore => exact inv.readRequest h fun _ _ k => inv.admitStore k
  case admitRetrieve => exact inv.readRequest h fun _ _ k => inv.admitRetrieve k
  case amendStore => exact inv.readRequest h fun _ _ k => inv.amendStore k
  case cancelJob => exact inv.readRequest h fun _ _ k => inv.cancelJob k
  case enrolCrane => exact inv.readRequest h fun _ _ k => inv.enrol k
  case withdrawCrane => exact inv.readRequest h fun _ _ k => inv.withdraw k
  case homeCrane => exact inv.readRequest h fun _ _ k => inv.homeCrane k
  case abandonOrder => exact inv.readRequest h fun _ _ k => inv.abandonOrder k
  case addSpare => exact inv.readRequest h fun _ _ k => inv.addSpare k
  case laneOpen => exact inv.readRequest h fun _ _ k => inv.laneOpen k
  case laneClose => exact inv.readRequest h fun _ _ k => inv.laneClose k
  case skipSequence => exact inv.readRequest h fun _ _ k => inv.skipSequence k
  case hold => exact inv.readRequest h fun _ _ k => inv.holdRequest k
  case resume => exact inv.readRequest h fun _ _ k => inv.resumeRequest k
  case removeSpare => exact inv.keptRequest h fun t _ => (RailKept.refl t).removeSpare
  case queryJob => exact inv.keptRequest h fun t _ => (RailKept.refl t).queryJob
  case setAislePolicy => exact inv.keptRequest h fun t _ => (RailKept.refl t).setPolicy
  case setProfile => exact inv.keptRequest h fun t _ => (RailKept.refl t).setProfile
  case setScoring | clearFlags => exact inv.keptRequest h fun t _ => (RailKept.refl t).elsewhere _
  case queryCrane | queryAisle | queryLane | setTrim | setTiming | setWatch =>
    exact inv.keptRequest h fun t _ => ranged (.refl t) fun _ => (RailKept.refl t).elsewhere _
  case loadWeights =>
    exact inv.keptRequest h fun t _ => check (fun _ => .refl t) fun _ => check (fun _ => .refl t) fun _ =>
      (RailKept.refl t).elsewhere _
  case setNotices => exact inv.keptRequest h fun t _ => check (fun _ => .refl t) fun _ => (RailKept.refl t).elsewhere _
  case queryStatus => exact inv.takeRequest h fun t _ k => inv.kept k (RailKept.refl t).queryStatus
  case unknownRequest => exact inv.takeRequest h fun _ _ k => k
  case managementFrameDropped | frameGapAbandon => exact inv.kept h ((RailKept.refl s).elsewhere _)
  case craneFrameDropped => exact inv.kept h (RailKept.refl s).dropCraneFrame
  case unknownCraneRecord => exact inv.hearCrane h fun _ k _ => inv.notTaken k
  case accept => exact inv.hearCrane h fun _ k _ => inv.takeAccept k
  case decline => exact inv.hearCrane h fun _ k _ => inv.takeDecline k
  case legDone => exact inv.hearCrane h fun _ k _ => inv.takeLegDone k
  case orderDone => exact inv.hearCrane h fun _ k _ => inv.takeOrderDone k
  case revoked => exact inv.hearCrane h fun _ k _ => inv.takeRevoked k
  case fault => exact inv.hearCrane h fun _ k _ => inv.takeFault k
  case faultClear x bay level => exact inv.hearCrane h fun _ k e => inv.takeFaultClear k (e ▸ hc x bay level rfl)
  case status => exact inv.hearCrane h fun _ k _ => inv.takeStatus k
  case passCompletion => exact inv.passCompletes h
  case paceIntervalExpiry => exact inv.paceExpires h
  case silenceLimitReached => exact inv.serviceSilence h
  case hostLimitReached => exact inv.kept h (RailKept.refl s).serviceHost
  case acceptTimerExpiry => exact inv.serviceAccept h
  case frameTransmitComplete => exact inv.kept h (RailKept.refl s).transmitted

/-- The part's own time leaves the rail as it is. -/
theorem idle (h : P s) : P s.idle := by
  refine inv.kept h ?_
  unfold State.idle
  split
  · exact (RailKept.refl s).receiveHost
  · exact (RailKept.refl s).receiveCrane
  · rename_i p _ _ hp
    unfold State.workPass
    split
    · rename_i e
      exact (RailKept.refl s).passItem hp e
    · exact (RailKept.refl s).append
  · exact (RailKept.refl s).tick

/-- Every step keeps the predicate. -/
theorem step (h : P s) {t : State}
    (hc : ∀ x bay level rest, s.pending = .faultClear x bay level :: rest → clears (s.crane x).state)
    (e : step s = .next t) : P t := by
  unfold Machine.step at e
  split at e
  · rename_i c rest hp
    exact inv.exec (inv.kept h ((RailKept.refl s).elsewhere { s with pending := rest }))
      (fun x bay level k => hc x bay level rest (k ▸ hp)) e
  · cases e
    exact inv.idle h

end RailInvariant
end Sys2Proof.Machine

namespace Sys2Proof.Machine

/-! ## Positions within spans (R57, R58, R68)

The law of the spans goes by one crane at a time, and needs nothing of the other laws: every claim starts at the position
as it stands, and every other interval is cut from one that holds the position, or is widened to hold it. -/

/-- A span is no interval, or an interval that holds the position where one is known. -/
def InSpan (p : Option Position) (sp : Span) : Prop :=
  ∀ lo hi, sp = .bays lo hi → lo ≤ hi ∧ ∀ q, p = some q → lo ≤ q.bay ∧ q.bay ≤ hi

theorem InSpan.bays {p : Option Position} {lo hi : Nat} (h : lo ≤ hi) (hp : ∀ q, p = some q → lo ≤ q.bay ∧ q.bay ≤ hi) :
    InSpan p (.bays lo hi) := fun _ _ e => by
  cases e
  exact ⟨h, hp⟩

/-- The single bay of a position. -/
theorem InSpan.bay {p : Option Position} {q : Position} (h : p = some q) : InSpan p (.bays q.bay q.bay) :=
  .bays (Nat.le_refl _) fun r e => by
    cases h.symm.trans e
    exact ⟨Nat.le_refl _, Nat.le_refl _⟩

theorem InSpan.unknown {p : Option Position} : InSpan p .unknown := fun _ _ => nofun

theorem InSpan.absent {p : Option Position} : InSpan p .absent := fun _ _ => nofun

theorem InSpan.forgotten {p : Option Position} {sp : Span} (h : InSpan p sp) : InSpan none sp :=
  fun lo hi e => ⟨(h lo hi e).1, nofun⟩

/-- The least interval around a position's bay holds the position. -/
theorem InSpan.interval {p : Option Position} {q : Position} (h : p = some q) (bays : List Nat) :
    InSpan p (.bays (interval q.bay bays).1 (interval q.bay bays).2) := by
  have lo := foldl_min_le bays q.bay
  have hi := le_foldl_max bays q.bay
  refine .bays (lo.trans hi) fun r e => ?_
  cases h.symm.trans e
  exact ⟨lo, hi⟩

/-- An interval that holds the position, cut to another that does (R69). -/
theorem InSpan.cutTo {p : Option Position} {q : Position} {sp : Span} (h : p = some q) (k : InSpan p sp) {i : Nat × Nat}
    (hi : i.1 ≤ q.bay ∧ q.bay ≤ i.2) : InSpan p (cutTo sp i) := by
  have hold : ∀ {a b : Nat}, a ≤ q.bay → q.bay ≤ b → InSpan p (.bays a b) := fun ha hb =>
    .bays (ha.trans hb) fun r e => by
      cases h.symm.trans e
      exact ⟨ha, hb⟩
  cases sp with
  | bays a b =>
    obtain ⟨ha, hb⟩ := (k a b rfl).2 q h
    exact hold (max_le ha hi.1) (le_min hb hi.2)
  | absent | unknown => exact hold hi.1 hi.2

namespace State.spansInLaw

variable {s : State}

theorem inSpan (h : s.spansInLaw) (x : Crane) : InSpan (s.crane x).position (s.spanOf x) := h x

/-! ### The single updates -/

theorem kept {t : State} (h : s.spansInLaw) (k : RailKept s t) : t.spansInLaw := by
  intro x lo hi e
  rw [k.position]
  rw [State.spanOf, k.spans] at e
  exact h x lo hi e

theorem setCrane (h : s.spansInLaw) {x : Crane} {c : CraneCtx} (hp : InSpan c.position (s.spanOf x)) :
    (s.setCrane x c).spansInLaw := fun y => by
  rw [State.crane_setCrane, State.spanOf_setCrane]
  split
  · rename_i e; exact e ▸ hp
  · exact h y

/-- A crane's context changed in other fields than its position. -/
theorem modCrane (h : s.spansInLaw) {x : Crane} {f : CraneCtx → CraneCtx}
    (hp : (f (s.crane x)).position = (s.crane x).position := by rfl) : (s.modCrane x f).spansInLaw :=
  h.setCrane (hp ▸ h.inSpan x)

/-- A crane's position forgotten. -/
theorem forgetPosition (h : s.spansInLaw) {x : Crane} {f : CraneCtx → CraneCtx}
    (hp : (f (s.crane x)).position = none := by rfl) : (s.modCrane x f).spansInLaw :=
  h.setCrane (hp ▸ (h.inSpan x).forgotten)

theorem modOrder (h : s.spansInLaw) {x : Crane} {f : Order → Order} : (s.modOrder x f).spansInLaw := h.modCrane

theorem setCraneState (h : s.spansInLaw) {x : Crane} {st : CraneState} : (s.setCraneState x st).spansInLaw := h.modCrane

theorem anomaly (h : s.spansInLaw) {x : Crane} : (s.anomaly x).spansInLaw := h.modCrane

theorem craneStateEvent (h : s.spansInLaw) {x : Crane} {c : StateCause} : (s.craneStateEvent x c).spansInLaw :=
  h.kept (RailKept.refl s).craneStateEvent

theorem emit (h : s.spansInLaw) {x : Crane} {frame : List Byte} : (s.emit x frame).spansInLaw :=
  h.kept (RailKept.refl s).emit

theorem setPair (h : s.spansInLaw) {a : Aisle} {p : Option YieldPair} : (s.setPair a p).spansInLaw := h

theorem dropOrder (h : s.spansInLaw) {x : Crane} : (s.dropOrder x).spansInLaw := h.modCrane

theorem setSpan (h : s.spansInLaw) {x : Crane} {sp : Span} (hs : InSpan (s.crane x).position sp) :
    (s.setSpan x sp).spansInLaw := fun y => by
  rw [State.spanOf_setSpan, State.crane_setSpan]
  split
  · rename_i e; exact e ▸ hs
  · exact h y

/-- A position is set, and the span to one that holds it. -/
theorem setPosition_setSpan (h : s.spansInLaw) {x : Crane} {b l : Nat} {sp : Span} (hs : InSpan (some ⟨b, l⟩) sp) :
    ((s.setPosition x b l).setSpan x sp).spansInLaw := fun y => by
  rw [State.crane_setSpan, State.setPosition, State.crane_modCrane, State.spanOf_setSpan]
  split
  · exact hs
  · exact h y

theorem setPosition (h : s.spansInLaw) {x : Crane} {b l : Nat} (hs : InSpan (some ⟨b, l⟩) (s.spanOf x)) :
    (s.setPosition x b l).spansInLaw := h.setCrane hs

theorem ite {c : Prop} [Decidable c] {t u : State} (ht : t.spansInLaw) (hu : u.spansInLaw) :
    (if c then t else u).spansInLaw := by
  split
  · exact ht
  · exact hu

/-! ### Positions (R68) -/

theorem restSpan (h : s.spansInLaw) {x : Crane} : (s.restSpan x).spansInLaw := by
  obtain e | ⟨p, lo, hi, hp, -, e⟩ := restSpan_cases s x <;> rw [e]
  · exact h
  · exact h.setSpan (.bay hp)

/-- The table of R68. -/
theorem takeInRange (h : s.spansInLaw) {x : Crane} {b l : Nat} : (s.takeInRange x b l).spansInLaw := by
  have hold {c lo hi : Nat} (hlo : lo ≤ c) (hhi : c ≤ hi) : InSpan (some ⟨c, l⟩) (.bays lo hi) :=
    .bays (hlo.trans hhi) fun q e => by
      cases e
      exact ⟨hlo, hhi⟩
  obtain ⟨e, -⟩ | ⟨-, -, e⟩ | ⟨lo, hi, hs, ⟨hlo, hhi, e⟩ | ⟨-, -, e⟩ | ⟨-, -, e⟩⟩ := takeInRange_cases s x b l <;> rw [e]
  · exact h
  · exact h.setPosition_setSpan (hold (Nat.le_refl b) (Nat.le_refl b))
  · exact h.setPosition (hs ▸ hold hlo hhi)
  · exact anomaly (h.setPosition_setSpan (hold (Nat.min_le_right ..) (Nat.le_max_right ..)))
  · have := (h x lo hi hs).1
    exact anomaly (h.setPosition (hs ▸ hold (by split <;> omega) (by split <;> omega)))

theorem takePosition (h : s.spansInLaw) {x : Crane} {b l : Nat} : (s.takePosition x b l).spansInLaw :=
  restSpan (takeInRange (h.kept (RailKept.refl s).reportRange))

theorem loseSight (h : s.spansInLaw) {x : Crane} : (s.loseSight x).spansInLaw := setSpan h.forgetPosition .unknown

/-! ### Claims, orders and the engine -/

/-- A claim starts at the position as it stands (R62, R72). -/
theorem claimSpan (h : s.spansInLaw) {x : Crane} {p : Option Position} {ps : List Place} (hp : (s.crane x).position = p) :
    (s.claimSpan x p ps).spansInLaw := by
  unfold State.claimSpan
  split
  · exact h.setSpan (.interval hp _)
  · exact h

theorem placeOrder (h : s.spansInLaw) {x : Crane} {o : Order} : (s.placeOrder x o).spansInLaw :=
  kept (h.modCrane (x := x) (f := fun c => { c with order := some o, starved := false })) ((RailKept.refl _).elsewhere _)

theorem position_placeOrder (s : State) (x : Crane) (o : Order) :
    ((s.placeOrder x o).crane x).position = (s.crane x).position := by
  simp

theorem sendOrder (h : s.spansInLaw) {x : Crane} : (s.sendOrder x).spansInLaw := by
  unfold State.sendOrder
  split
  · exact h
  · exact emit (setCraneState h.modOrder)

theorem createHome (h : s.spansInLaw) {x : Crane} : (s.createHome x).spansInLaw :=
  sendOrder (claimSpan (modCrane h.placeOrder) (by simp))

theorem engineTake (n : Nat) {s : State} (h : s.spansInLaw) : (State.engineTake n s).spansInLaw := by
  induction n generalizing s with
  | zero => exact h
  | succ n ih =>
    unfold State.engineTake
    split
    · rename_i e _ _
      have dequeued : (s.dequeue e.crane).spansInLaw := h
      exact ite (ih dequeued.createHome) dequeued
    · exact h

theorem engineRun (h : s.spansInLaw) : s.engineRun.spansInLaw := engineTake _ h

theorem enqueue (h : s.spansInLaw) {x : Crane} : (s.enqueue x).spansInLaw :=
  engineRun (s := (s.setCraneState x .queued).setEngine _) h.setCraneState

theorem trigger (h : s.spansInLaw) {x : Crane} : (s.trigger x).spansInLaw := by
  unfold State.trigger
  split
  · exact ite h.createHome h.enqueue
  · exact h.kept (RailKept.refl s).noteTrigger
  · exact h

theorem idleTriggers (h : s.spansInLaw) {x : Crane} : (s.idleTriggers x).spansInLaw := trigger h.trigger

theorem triggerAll (h : s.spansInLaw) (xs : List Crane) : (s.triggerAll xs).spansInLaw := by
  unfold State.triggerAll
  induction xs generalizing s with
  | nil => exact h
  | cons x xs ih => exact ih h.trigger

theorem shrunkFrom (h : s.spansInLaw) {x : Crane} {old : Span} : (s.shrunkFrom x old).spansInLaw := ite h.trigger h

theorem changeSpan (h : s.spansInLaw) {x : Crane} {sp : Span} (hs : InSpan (s.crane x).position sp) :
    (s.changeSpan x sp).spansInLaw := shrunkFrom (h.setSpan hs)

theorem reportPosition (h : s.spansInLaw) {x : Crane} {b l : Nat} : (s.reportPosition x b l).spansInLaw :=
  shrunkFrom h.takePosition

theorem spanToPosition (h : s.spansInLaw) {x : Crane} : (s.spanToPosition x).spansInLaw := by
  unfold State.spanToPosition
  split
  · rename_i p e
    exact h.changeSpan (.bay e)
  · exact h

theorem setIdle (h : s.spansInLaw) {x : Crane} : (s.setIdle x).spansInLaw :=
  ite (craneStateEvent h.setCraneState) h.setCraneState

theorem leaveEngine (h : s.spansInLaw) {x : Crane} : (s.leaveEngine x).spansInLaw :=
  ite (engineRun (s := s.setPass none) h) h

/-! ### The life of an order -/

theorem deliver (h : s.spansInLaw) {l : LaneNo} {d : Word16} : (s.deliver l d).spansInLaw := by
  have delivered := h.kept ((RailKept.refl s).deliverOnly (l := l) (d := d))
  exact ite (delivered.triggerAll _) delivered

theorem completeRetrieve (h : s.spansInLaw) {tag : Word32} : (s.completeRetrieve tag).spansInLaw := by
  have removed := (RailKept.refl s).removeJob (tag := tag) (clears := true)
  unfold State.completeRetrieve
  dsimp only
  split
  · exact h
  · split <;> split
    · exact (h.kept removed.raise).deliver
    · exact (h.kept removed).deliver
    · exact h.kept removed.raise
    · exact h.kept removed

theorem endRetrieve (h : s.spansInLaw) {o : Order} : (s.endRetrieve o).spansInLaw := by
  unfold State.endRetrieve
  split
  · exact h
  · split
    · exact (h.kept (RailKept.refl s).relocationDone).completeRetrieve
    · exact h.completeRetrieve

theorem abandonRetrieve (h : s.spansInLaw) {o : Order} {x : Crane} : (s.abandonRetrieve o x).spansInLaw := by
  have same := RailKept.refl s
  unfold State.abandonRetrieve
  dsimp only
  split
  · exact h
  · exact ite (h.kept same.returnJob) (ite (h.kept same.strandJob) h.completeRetrieve)
  · exact ite (h.kept same.relocationUndone.returnJob) (ite (h.kept same.relocationUndone.strandJob)
      (ite (h.kept same.relocationDone.returnJob) (ite (h.kept same.relocationDone.strandJob)
        (h.kept same.relocationDone).completeRetrieve)))

theorem capture (h : s.spansInLaw) {x : Crane} : (s.capture x).spansInLaw := h.modOrder

theorem markLegs (h : s.spansInLaw) {x : Crane} {k : Nat} : (s.markLegs x k).spansInLaw := by
  refine h.modCrane ?_
  split <;> rfl

theorem measureLeg (h : s.spansInLaw) {x : Crane} : (s.measureLeg x).spansInLaw := by
  unfold State.measureLeg
  split
  · exact h
  · split
    · exact ite (kept h.markLegs.modOrder.capture (RailKept.refl _).accumulate) h.markLegs.modOrder.capture
    · exact h.markLegs.capture
    · exact h

theorem narrowSpan (h : s.spansInLaw) {x : Crane} : (s.narrowSpan x).spansInLaw := by
  unfold State.narrowSpan
  split
  · rename_i o p _ hp
    exact h.changeSpan ((h.inSpan x).cutTo hp ⟨foldl_min_le .., le_foldl_max ..⟩)
  · exact h

theorem takeKindState (h : s.spansInLaw) {x : Crane} : (s.takeKindState x).spansInLaw := by
  unfold State.takeKindState
  split
  · exact h
  · exact ite (craneStateEvent h.setCraneState) h.setCraneState

theorem enterFaulted (h : s.spansInLaw) {x : Crane} {c : StateCause} : (s.enterFaulted x c).spansInLaw :=
  craneStateEvent h.setCraneState

theorem startOrder (h : s.spansInLaw) {x : Crane} {proved : Bool} : (s.startOrder x proved).spansInLaw := by
  unfold State.startOrder
  split
  · exact h
  · rename_i o _
    have started {f : Order → Order} : ((((s.activateJobs o).modCrane x fun c => { c with timeouts := 0 }).modOrder x f).capture
        x).spansInLaw := capture (modOrder (modCrane (h.kept (RailKept.refl s).activateJobs)))
    exact ite started started.takeKindState

theorem startIfSent (h : s.spansInLaw) {x : Crane} : (s.startIfSent x).spansInLaw := by
  unfold State.startIfSent
  split
  · exact ite h.startOrder h
  · exact h

theorem suspendOrder (h : s.spansInLaw) {x : Crane} : (s.suspendOrder x).spansInLaw := h.modOrder

theorem discardWaiting (h : s.spansInLaw) {x : Crane} : (s.discardWaiting x).spansInLaw := by
  unfold State.discardWaiting
  split
  · exact h
  · exact spanToPosition (dropOrder (modOrder (setPair (h.kept (RailKept.refl s).returnJobs.revertEntries))))

theorem releaseWaiting (h : s.spansInLaw) {w : Option Crane} : (s.releaseWaiting w).spansInLaw := by
  cases w
  · exact h
  · exact h.discardWaiting.setIdle

theorem releasedTriggers (h : s.spansInLaw) {w : Option Crane} : (s.releasedTriggers w).spansInLaw := by
  cases w
  · exact h
  · exact h.idleTriggers

theorem failYield (h : s.spansInLaw) {y : Crane} : (s.failYield y).spansInLaw := releasedTriggers h.releaseWaiting

theorem idleAfter (h : s.spansInLaw) {w : Option Crane} {y : Crane} : (s.idleAfter w y).spansInLaw :=
  idleTriggers h.setIdle.releasedTriggers

theorem giveUp (h : s.spansInLaw) {x : Crane} : (s.giveUp x).spansInLaw := by
  unfold State.giveUp
  split
  · exact h
  · dsimp only
    split
    · exact (h.kept (RailKept.refl s).abandonStore).abandonRetrieve.dropOrder.spanToPosition
    · exact h.dropOrder.spanToPosition

theorem orderLostIdle (h : s.spansInLaw) {x : Crane} : (s.orderLostIdle x).spansInLaw :=
  idleTriggers (releasedTriggers (craneStateEvent h.releaseWaiting.giveUp.setCraneState))

theorem orderLostSyncing (h : s.spansInLaw) {x : Crane} : (s.orderLostSyncing x).spansInLaw :=
  releasedTriggers (craneStateEvent h.releaseWaiting.giveUp.loseSight.setCraneState)

theorem endDone (h : s.spansInLaw) {x : Crane} {w : Option Crane} : (s.endDone x w).spansInLaw :=
  h.dropOrder.spanToPosition.idleAfter

theorem sendWaiting (h : s.spansInLaw) {w : Crane} : (s.sendWaiting w).spansInLaw := h.setPair.sendOrder

theorem endYield (h : s.spansInLaw) {y : Crane} : (s.endYield y).spansInLaw := by
  unfold State.endYield
  split
  · exact h.endDone
  · exact ite h.dropOrder.spanToPosition.setIdle.sendWaiting.idleTriggers
      h.dropOrder.spanToPosition.releaseWaiting.idleAfter

theorem endDeclined (h : s.spansInLaw) {x : Crane} {w : Option Crane} : (s.endDeclined x w).spansInLaw :=
  have left := spanToPosition (dropOrder (modCrane h))
  ite left.releasedTriggers left.idleAfter

theorem endRevoked (h : s.spansInLaw) {x : Crane} : (s.endRevoked x).spansInLaw :=
  have left := h.dropOrder.spanToPosition
  ite (ite left.modCrane left.modCrane.setIdle.idleTriggers) (ite left.modCrane (enterFaulted left.modCrane))

theorem clearFault (h : s.spansInLaw) {x : Crane} {c : StateCause} : (s.clearFault x c).spansInLaw := by
  unfold State.clearFault
  split
  · exact craneStateEvent (setCraneState h.modOrder)
  · exact ite (craneStateEvent h.setCraneState) (idleTriggers (craneStateEvent (setCraneState h.spanToPosition)))

theorem expireAccept (h : s.spansInLaw) {x : Crane} : (s.expireAccept x).spansInLaw := by
  unfold State.expireAccept
  split
  · exact h
  · split
    · exact failYield (emit h.modOrder)
    · exact emit h.modOrder
    · exact h

theorem loseCrane (h : s.spansInLaw) {x : Crane} : (s.loseCrane x).spansInLaw := by
  have lost {t : State} (k : t.spansInLaw) : ((t.setCraneState x .lost).craneStateEvent x .silence).spansInLaw :=
    craneStateEvent k.setCraneState
  unfold State.loseCrane
  dsimp only
  split
  case h_1 | h_2 => exact h
  case h_3 | h_4 => exact lost h
  case h_5 => exact (lost h).leaveEngine
  case h_6 => exact lost h.discardWaiting
  all_goals
    split
    · exact lost h
    · exact ite (lost h.suspendOrder).failYield (lost h).failYield

/-! ### Crane records -/

theorem unsettled (h : s.spansInLaw) {x : Crane} : (s.unsettled x).spansInLaw := by
  refine emit ?_
  split
  · exact craneStateEvent h.anomaly.setCraneState
  · exact h.anomaly.enterFaulted

theorem notTaken (h : s.spansInLaw) {x : Crane} : (s.notTaken x).spansInLaw := ite h.unsettled h.anomaly

theorem takeAccept (h : s.spansInLaw) {x : Crane} {id : Word16} : (s.takeAccept x id).spansInLaw := by
  unfold State.takeAccept
  split
  · exact h.notTaken
  · split
    · exact h.startOrder
    · exact ite h.unsettled h.modOrder
    all_goals exact h.notTaken

theorem takeDecline (h : s.spansInLaw) {x : Crane} {id : Word16} {reason : Byte} :
    (s.takeDecline x id reason).spansInLaw := by
  have declined (o : Order) : (s.declineOrder x o reason).spansInLaw :=
    (h.releaseWaiting.kept (RailKept.refl _).declineJobs).endDeclined
  refine ite h.notTaken ?_
  split
  · exact h.notTaken
  · split
    case h_1 | h_2 => exact declined _
    all_goals exact h.notTaken

theorem revokeOrder (h : s.spansInLaw) {x : Crane} {o : Order} : (s.revokeOrder x o).spansInLaw :=
  endRevoked ((ite h.anomaly h).kept (RailKept.refl _).returnJobs.revertEntries)

theorem takeRevoked (h : s.spansInLaw) {x : Crane} {id : Word16} {started : Bool} :
    (s.takeRevoked x id started).spansInLaw := by
  unfold State.takeRevoked
  split
  · exact h.notTaken
  · split
    · exact ite h.startOrder h.revokeOrder
    all_goals exact h.notTaken

theorem resumeLost (h : s.spansInLaw) {x : Crane} : (s.resumeLost x).spansInLaw := by
  unfold State.resumeLost
  split
  · exact h
  · exact ite (takeKindState h.modOrder) h.startIfSent

theorem markLegDone (h : s.spansInLaw) {x : Crane} {o : Order} {i : Nat} {bay level : Byte} :
    (s.markLegDone x o i bay level).spansInLaw :=
  ite h.anomaly (narrowSpan (ite h.reportPosition.measureLeg h.reportPosition.markLegs.capture))

theorem takeLegDone (h : s.spansInLaw) {x : Crane} {id : Word16} {i : Nat} {bay level : Byte} :
    (s.takeLegDone x id i bay level).spansInLaw := by
  unfold State.takeLegDone
  split
  · exact ite h.reportPosition.unsettled h.anomaly
  · refine ite h.resumeLost.markLegDone ?_
    split
    · exact h.markLegDone
    · exact h.startOrder.markLegDone
    · exact h.startOrder.markLegDone
    all_goals exact h.anomaly

theorem finishOrder (h : s.spansInLaw) {x : Crane} {o : Order} {bay level : Byte} :
    (s.finishOrder x o bay level).spansInLaw := by
  have marked := h.reportPosition (x := x) (b := bay.toNat) (l := level.toNat) |>.markLegs (x := x) (k := o.legs.length)
  unfold State.finishOrder
  dsimp only
  split
  · exact (marked.kept (RailKept.refl _).endStore).endRetrieve.endDone
  · exact marked.endYield
  · exact marked.endDone

theorem takeOrderDone (h : s.spansInLaw) {x : Crane} {id : Word16} {bay level : Byte} :
    (s.takeOrderDone x id bay level).spansInLaw := by
  unfold State.takeOrderDone
  split
  · exact ite h.reportPosition.unsettled h.anomaly
  · refine ite h.resumeLost.finishOrder ?_
    split
    · exact h.finishOrder
    · exact h.startOrder.finishOrder
    · exact h.startOrder.finishOrder
    all_goals exact h.anomaly

theorem faultWaiting (h : s.spansInLaw) {x : Crane} {bay level : Byte} : (s.faultWaiting x bay level).spansInLaw :=
  craneStateEvent (reportPosition h.discardWaiting.setCraneState)

theorem applyFault (h : s.spansInLaw) {x : Crane} {n : Nat} : (s.applyFault x n).spansInLaw := by
  unfold State.applyFault
  split
  case h_1 | h_2 | h_3 => exact h
  case h_4 | h_5 => exact h.enterFaulted
  case h_6 => exact h.spanToPosition.enterFaulted
  case h_7 => exact h.enterFaulted.leaveEngine
  all_goals
    split
    · exact h.enterFaulted
    · exact ite h.startIfSent.markLegs.suspendOrder.enterFaulted.failYield h.enterFaulted.failYield

theorem takeFault (h : s.spansInLaw) {x : Crane} {code bay level : Byte} {id : Word16} {n : Nat} :
    (s.takeFault x code bay level id n).spansInLaw :=
  have coded := modCrane (h.kept (RailKept.refl s).countAnomaly.nameAnomaly)
  ite h.notTaken (ite (faultWaiting coded) (applyFault coded.reportPosition))

theorem takeAboard (h : s.spansInLaw) {x : Crane} {aboard : Bool} : (s.takeAboard x aboard).spansInLaw := h.modCrane

theorem settleIdle (h : s.spansInLaw) {x : Crane} : (s.settleIdle x).spansInLaw :=
  ite (ite (craneStateEvent h.setCraneState) h) h.spanToPosition.setIdle.idleTriggers

theorem loadAboard (h : s.spansInLaw) {x : Crane} : (s.loadAboard x).spansInLaw := by
  unfold State.loadAboard
  split
  · exact h.enterFaulted.leaveEngine
  · exact h.spanToPosition.enterFaulted
  · exact h.enterFaulted

theorem markCount (h : s.spansInLaw) {x : Crane} {n : Nat} : (s.markCount x n).spansInLaw := by
  unfold State.markCount
  split
  · exact h
  · exact ite h.markLegs h

theorem busyUnknown (h : s.spansInLaw) {x : Crane} : (s.busyUnknown x).spansInLaw := by
  unfold State.busyUnknown
  split
  · exact craneStateEvent h.loseSight.setCraneState
  · exact h.loseSight.setCraneState.leaveEngine
  · exact h.loseSight.setCraneState

theorem statusSyncing (h : s.spansInLaw) {x : Crane} {mode : StatusMode} {aboard : Bool} :
    (s.statusSyncing x mode aboard).spansInLaw := by
  unfold State.statusSyncing
  split
  · exact h.settleIdle
  · exact h.loadAboard
  · exact h
  · exact h.applyFault

theorem statusFree (h : s.spansInLaw) {x : Crane} {mode : StatusMode} {aboard : Bool} :
    (s.statusFree x mode aboard).spansInLaw := by
  unfold State.statusFree
  split
  · exact h
  · exact h.loadAboard
  · exact h.anomaly.busyUnknown
  · exact h.applyFault

theorem statusOrder (h : s.spansInLaw) {x : Crane} {o : Order} {mode : StatusMode} {named : Bool} {n : Nat} :
    (s.statusOrder x o mode named n).spansInLaw := by
  unfold State.statusOrder
  split
  · exact ite h.orderLostIdle h
  · exact h.startIfSent.markCount.narrowSpan
  · exact h.anomaly.orderLostSyncing
  · exact h.applyFault

theorem statusFaultedOrder (h : s.spansInLaw) {x : Crane} {o : Order} {mode : StatusMode} {named : Bool} {n : Nat} :
    (s.statusFaultedOrder x o mode named n).spansInLaw := by
  unfold State.statusFaultedOrder
  split
  · exact ite h.orderLostIdle h
  · exact h.startIfSent.clearFault.markCount
  · exact h.anomaly.orderLostSyncing
  · exact h

theorem statusFaultedFree (h : s.spansInLaw) {x : Crane} {mode : StatusMode} {aboard : Bool} :
    (s.statusFaultedFree x mode aboard).spansInLaw := by
  unfold State.statusFaultedFree
  split
  · exact h.clearFault
  · exact h
  · exact h.anomaly
  · exact h

theorem statusLost (h : s.spansInLaw) {x : Crane} {mode : StatusMode} {named : Bool} {n : Nat} {aboard : Bool} :
    (s.statusLost x mode named n aboard).spansInLaw := by
  unfold State.statusLost
  split
  · exact h.orderLostIdle
  · exact h.settleIdle
  · exact h.loadAboard
  · exact h.resumeLost.markCount.narrowSpan
  · exact h.anomaly.orderLostSyncing
  · exact h.anomaly.busyUnknown
  · exact h.applyFault

theorem statusPosition (h : s.spansInLaw) {x : Crane} {mode : StatusMode} {bay level : Byte} :
    (s.statusPosition x mode bay level).spansInLaw :=
  ite (h.kept (RailKept.refl s).reportRange) h.reportPosition

theorem statusWaiting (h : s.spansInLaw) {x : Crane} {mode : StatusMode} {bay level : Byte} {aboard : Bool} :
    (s.statusWaiting x mode bay level aboard).spansInLaw := by
  cases mode
  · exact h
  · exact h.anomaly
  · exact h.faultWaiting.takeAboard

theorem takeStatus (h : s.spansInLaw) {x : Crane} {mode : StatusMode} {id : Word16} {n : Nat} {bay level : Byte}
    {aboard : Bool} : (s.takeStatus x mode id n bay level aboard).spansInLaw := by
  have counted : (s.statusAnomalies x mode id n).spansInLaw := h.kept (RailKept.refl s).statusAnomalies
  have taken := (counted.statusPosition (x := x) (mode := mode) (bay := bay) (level := level)).takeAboard (x := x)
    (aboard := aboard)
  unfold State.takeStatus
  dsimp only
  split
  · exact h
  · exact counted.statusWaiting
  · exact taken.statusSyncing
  · exact taken.statusLost
  · exact taken.statusFaultedOrder
  · exact taken.statusFaultedFree
  · exact taken.statusOrder
  · exact taken.statusFree

theorem takeFaultClear (h : s.spansInLaw) {x : Crane} {bay level : Byte} : (s.takeFaultClear x bay level).spansInLaw := by
  unfold State.takeFaultClear
  dsimp only
  split
  · exact h.reportPosition.takeAboard.settleIdle
  · exact h.reportPosition.clearFault
  · exact h.reportPosition.clearFault
  · exact h.reportPosition.anomaly

/-! ### Cranes enrolled and withdrawn, and the part reset -/

theorem takeEnrol (h : s.spansInLaw) {x : Crane} : (s.takeEnrol x).spansInLaw :=
  kept (setSpan h.forgetPosition .unknown) (RailKept.refl _).setSilence.emit

theorem takeWithdraw (h : s.spansInLaw) {x : Crane} : (s.takeWithdraw x).spansInLaw := by
  have forgotten := kept (h.forgetPosition (x := x) (f := fun c =>
    { c with state := .offline, position := none, aboard := .unknown, homeRequest := false, starved := false }))
    ((RailKept.refl _).setSilence (x := x) (n := 0))
  unfold State.takeWithdraw
  exact changeSpan (ite forgotten.craneStateEvent forgotten) .absent

theorem resetSpan (h : s.spansInLaw) {x : Crane} : (s.resetSpan x).spansInLaw := by
  unfold State.resetSpan
  split
  · exact h.setSpan (.bay (by assumption))
  · exact h

theorem resetCrane (h : s.spansInLaw) {x : Crane} : (s.resetCrane x).spansInLaw := by
  have aborted : (s.abortSent x).spansInLaw := by
    unfold State.abortSent
    split
    · exact ite h.emit h
    · exact h
  have polled : (((s.abortSent x).resetSpan x).pollEnrolled x).spansInLaw :=
    ite (aborted.resetSpan.kept (RailKept.refl _).setSilence.emit) aborted.resetSpan
  refine kept (polled.modCrane ?_) (RailKept.refl _).setTrimOf
  unfold CraneCtx.resetJobs
  split <;> rfl

theorem resetJobs (h : s.spansInLaw) : s.resetJobs.spansInLaw := by
  have each : (allCranes.foldl State.resetCrane s).spansInLaw :=
    RailInvariant.foldl (P := State.spansInLaw) h fun _ _ k => k.resetCrane
  unfold State.resetJobs
  generalize allCranes.foldl State.resetCrane s = t at each
  exact each

theorem powerOn {t : State} (hs : t.spans = .powerOn) : t.spansInLaw := fun x lo hi e => by
  rw [State.spanOf, hs, SpanUnit.powerOn] at e
  simp [Vector.get_eq_getElem] at e

/-! ### The completion of a pass -/

theorem dispatchSent (h : s.spansInLaw) {x : Crane} {r : PassResult} : (s.dispatchSent x r).spansInLaw :=
  sendOrder (claimSpan h.placeOrder (position_placeOrder ..))

theorem sendYield (h : s.spansInLaw) {p : Pass} {x y : Crane} {t : Nat} : (s.sendYield p x y t).spansInLaw := by
  unfold State.sendYield
  split
  · exact h
  · rename_i hq
    exact sendOrder (setPair (claimSpan h.placeOrder ((position_placeOrder ..).trans hq)))

theorem dispatchWaiting (h : s.spansInLaw) {p : Pass} {x : Crane} {t : Nat} {r : PassResult} :
    (s.dispatchWaiting p x t r).spansInLaw :=
  sendYield (setCraneState (claimSpan h.placeOrder (position_placeOrder ..)))

theorem endStarved (h : s.spansInLaw) {p : Pass} : (s.endStarved p).spansInLaw := by
  have starved : ((s.setPass none).modCrane p.crane fun c => { c with state := .idle, starved := true }).spansInLaw :=
    modCrane (s := s.setPass none) h
  exact engineRun (ite starved.trigger starved)

theorem completePass (h : s.spansInLaw) {p : Pass} : (s.completePass p).spansInLaw := by
  unfold State.completePass
  split
  · exact h.endStarved
  · rename_i r _
    refine ite (engineRun (s := { s with engine := _ }) h) ?_
    split
    · exact ite h h.endStarved
    · have ordered : ((s.setTable (State.convertRetrieve (State.convertStore s.table r) r)).orderJobs r).spansInLaw :=
        h.kept (RailKept.refl s).setTable.orderJobs
      unfold State.dispatch
      dsimp only
      split
      · exact engineRun (s := State.setPass _ none) ordered.dispatchWaiting
      · exact engineRun (s := State.setPass _ none) ordered.dispatchSent

/-! ### Every step -/

theorem railInvariant : RailInvariant (fun _ => True) State.spansInLaw where
  kept h k := h.kept k
  trigger h := h.trigger
  engineRun h := h.engineRun
  completePass h _ := h.completePass
  unsettled h _ := h.unsettled
  takeAccept h := h.takeAccept
  takeDecline h := h.takeDecline
  takeRevoked h := h.takeRevoked
  takeLegDone h := h.takeLegDone
  takeOrderDone h := h.takeOrderDone
  takeFault h := h.takeFault
  takeFaultClear h _ := h.takeFaultClear
  takeStatus h := h.takeStatus
  takeEnrol h _ := h.takeEnrol
  takeWithdraw h _ := h.takeWithdraw
  giveUp h _ := h.giveUp
  loseCrane h := h.loseCrane
  expireAccept h := h.expireAccept
  countAccept h := h.modOrder
  setGeometryOf h _ := h
  resetJobs h := h.resetJobs
  powerOn _ hs _ := powerOn hs

end State.spansInLaw

/-- Settles O6: one lemma for each operation on a crane, from the tables of positions and claims up to the step. -/
theorem positionsStayInSpans : Obligations.PositionsStayInSpans :=
  fun _ _ h e => State.spansInLaw.railInvariant.step h (fun _ _ _ _ _ => trivial) e

end Sys2Proof.Machine

namespace Sys2Proof.Machine

/-! ## What triggers and records leave of the store

`StoreKept jobs s t` says that the settings, the lanes and the clocks are as they were, and with `jobs` also the job pool, the
reservation table and the yield pairs, which only a discard or a dispatch changes. -/

/-- The parts of the store that hold no crane are as they were. -/
structure StoreKept (jobs : Prop) (s t : State) : Prop where
  cost : t.cost = s.cost
  lanes : t.lanes = s.lanes
  sup : t.sup = s.sup
  jobs : jobs → t.pool = s.pool ∧ t.table = s.table ∧ t.spans.pair = s.spans.pair

namespace StoreKept

variable {jobs : Prop} {s t : State}

theorem refl (s : State) : StoreKept jobs s s := ⟨rfl, rfl, rfl, fun _ => ⟨rfl, rfl, rfl⟩⟩

/-- A state that differs only in parts that the relation does not speak of. -/
theorem elsewhere (h : StoreKept jobs s t) (u : State) (hc : u.cost = t.cost := by rfl) (hl : u.lanes = t.lanes := by rfl)
    (hs : u.sup = t.sup := by rfl)
    (hj : jobs → u.pool = t.pool ∧ u.table = t.table ∧ u.spans.pair = t.spans.pair := by exact fun _ => ⟨rfl, rfl, rfl⟩) :
    StoreKept jobs s u := by
  refine ⟨hc.trans h.cost, hl.trans h.lanes, hs.trans h.sup, fun k => ?_⟩
  obtain ⟨pool, table, pair⟩ := h.jobs k
  obtain ⟨pool', table', pair'⟩ := hj k
  exact ⟨pool'.trans pool, table'.trans table, pair'.trans pair⟩

theorem ite {c : Prop} [Decidable c] {u : State} (ht : StoreKept jobs s t) (hu : StoreKept jobs s u) :
    StoreKept jobs s (if c then t else u) := by
  split
  · exact ht
  · exact hu

theorem setCrane (h : StoreKept jobs s t) {x : Crane} {c : CraneCtx} : StoreKept jobs s (t.setCrane x c) := h.elsewhere _
theorem modCrane (h : StoreKept jobs s t) {x : Crane} {f : CraneCtx → CraneCtx} : StoreKept jobs s (t.modCrane x f) :=
  h.setCrane
theorem modOrder (h : StoreKept jobs s t) {x : Crane} {f : Order → Order} : StoreKept jobs s (t.modOrder x f) := h.setCrane
theorem setCraneState (h : StoreKept jobs s t) {x : Crane} {st : CraneState} : StoreKept jobs s (t.setCraneState x st) :=
  h.setCrane
theorem setSpan (h : StoreKept jobs s t) {x : Crane} {sp : Span} : StoreKept jobs s (t.setSpan x sp) := h.elsewhere _
theorem setPass (h : StoreKept jobs s t) {p : Option Pass} : StoreKept jobs s (t.setPass p) := h.elsewhere _
theorem emit (h : StoreKept jobs s t) {x : Crane} {f : List Byte} : StoreKept jobs s (t.emit x f) := h.elsewhere _
theorem raise (h : StoreKept jobs s t) {e : Event} : StoreKept jobs s (t.raise e) := h.elsewhere _
theorem anomaly (h : StoreKept jobs s t) {x : Crane} : StoreKept jobs s (t.anomaly x) := h.setCrane
theorem craneStateEvent (h : StoreKept jobs s t) {x : Crane} {c : StateCause} : StoreKept jobs s (t.craneStateEvent x c) :=
  raise h.setCrane

theorem restSpan (h : StoreKept jobs s t) {x : Crane} : StoreKept jobs s (t.restSpan x) := by
  obtain e | ⟨_, _, _, _, _, e⟩ := restSpan_cases t x <;> rw [e]
  · exact h
  · exact h.setSpan

theorem takeInRange (h : StoreKept jobs s t) {x : Crane} {b l : Nat} : StoreKept jobs s (t.takeInRange x b l) := by
  obtain ⟨e, -⟩ | ⟨-, -, e⟩ | ⟨_, _, -, ⟨-, -, e⟩ | ⟨-, -, e⟩ | ⟨-, -, e⟩⟩ := takeInRange_cases t x b l <;> rw [e]
  · exact h
  · exact setSpan h.modCrane
  · exact h.modCrane
  · exact anomaly (setSpan h.modCrane)
  · exact anomaly h.modCrane

theorem takePosition (h : StoreKept jobs s t) {x : Crane} {b l : Nat} : StoreKept jobs s (t.takePosition x b l) :=
  restSpan (takeInRange (ite h h.anomaly))

/-! ### The engine and its triggers -/

theorem placeOrder (h : StoreKept jobs s t) {x : Crane} {o : Order} : StoreKept jobs s (t.placeOrder x o) :=
  elsewhere (h.modCrane (x := x) (f := fun c => { c with order := some o, starved := false })) _

theorem claimSpan (h : StoreKept jobs s t) {x : Crane} {p : Option Position} {ps : List Place} :
    StoreKept jobs s (t.claimSpan x p ps) := by
  unfold State.claimSpan
  split
  · exact h.setSpan
  · exact h

theorem sendOrder (h : StoreKept jobs s t) {x : Crane} : StoreKept jobs s (t.sendOrder x) := by
  unfold State.sendOrder
  split
  · exact h
  · exact emit (setCraneState h.modOrder)

theorem createHome (h : StoreKept jobs s t) {x : Crane} : StoreKept jobs s (t.createHome x) :=
  sendOrder (claimSpan (modCrane h.placeOrder))

theorem engineTake (n : Nat) {t : State} (h : StoreKept jobs s t) : StoreKept jobs s (State.engineTake n t) := by
  induction n generalizing t with
  | zero => exact h
  | succ n ih =>
    unfold State.engineTake
    split
    · rename_i e _ _
      have dequeued : StoreKept jobs s (t.dequeue e.crane) := h.elsewhere _
      exact ite (ih dequeued.createHome) dequeued.setPass
    · exact h

theorem engineRun (h : StoreKept jobs s t) : StoreKept jobs s t.engineRun := engineTake _ h

theorem trigger (h : StoreKept jobs s t) {x : Crane} : StoreKept jobs s (t.trigger x) := by
  unfold State.trigger
  split
  · exact ite h.createHome (engineRun (h.elsewhere _))
  · unfold State.noteTrigger
    split
    · exact ite h.setPass h
    · exact h
  · exact h

theorem shrunkFrom (h : StoreKept jobs s t) {x : Crane} {old : Span} : StoreKept jobs s (t.shrunkFrom x old) :=
  ite h.trigger h

theorem changeSpan (h : StoreKept jobs s t) {x : Crane} {sp : Span} : StoreKept jobs s (t.changeSpan x sp) :=
  shrunkFrom h.setSpan

theorem reportPosition (h : StoreKept jobs s t) {x : Crane} {b l : Nat} : StoreKept jobs s (t.reportPosition x b l) :=
  shrunkFrom h.takePosition

theorem spanToPosition (h : StoreKept jobs s t) {x : Crane} : StoreKept jobs s (t.spanToPosition x) := by
  unfold State.spanToPosition
  split
  · exact h.changeSpan
  · exact h

theorem narrowSpan (h : StoreKept jobs s t) {x : Crane} : StoreKept jobs s (t.narrowSpan x) := by
  unfold State.narrowSpan
  split
  · exact h.changeSpan
  · exact h

end StoreKept

/-! ## A LEG DONE (R69, R93, R137, R138) -/

/-- The legs of an order up to leg `i` marked done at a clock, the one that was next measured from the last capture. -/
def Order.legDone (o : Order) (i : Nat) (clock : Word32) : Order :=
  { o with
    legs := o.legs.mapIdx fun k l =>
      if k ≤ i then
        { l with
          done := true
          measured := if k = o.nextLeg ∧ i = o.nextLeg then
            (match o.lastCapture with | some c => some (clock - c) | none => l.measured) else l.measured }
      else l
    nextLeg := i + 1, lastCapture := some clock }

/-- A crane whose order has its legs up to leg `i` marked done, with the load aboard that their actions leave (R123). -/
def State.withLegDone (s : State) (x : Crane) (o : Order) (i : Nat) : State :=
  s.setCrane x { s.crane x with
    aboard := ((o.legs.take (i + 1)).drop o.nextLeg).foldl
      (fun b l => match l.action with | .pick => .yes | .drop => .no | .stay => b) (s.crane x).aboard
    order := some (o.legDone i s.sup.durationClock) }

section

variable {s : State} {x : Crane} {o : Order} {i : Nat} (ho : (s.crane x).order = some o)

theorem legDone_legs_length (o : Order) (i : Nat) (clock : Word32) : (o.legDone i clock).legs.length = o.legs.length := by
  simp [Order.legDone]

/-- What a leg of the marked order is. -/
theorem legDone_leg {o : Order} {i k : Nat} {clock : Word32} {l : Leg} (h : (o.legDone i clock).legs[k]? = some l) :
    ∃ m, o.legs[k]? = some m ∧ l = if k ≤ i then
        { m with
          done := true
          measured := if k = o.nextLeg ∧ i = o.nextLeg then
            (match o.lastCapture with | some c => some (clock - c) | none => m.measured) else m.measured }
      else m := by
  rw [Order.legDone, List.getElem?_mapIdx] at h
  obtain ⟨m, hm, rfl⟩ := Option.map_eq_some_iff.1 h
  exact ⟨m, hm, rfl⟩

include ho

/-- Legs beyond the next one are marked without a measurement (R137). -/
theorem capture_markLegs (hn : o.nextLeg ≤ i) (hi : i ≠ o.nextLeg) :
    (s.markLegs x (i + 1)).capture x = s.withLegDone x o i := by
  have next : max o.nextLeg (i + 1) = i + 1 := by omega
  rw [markLegs_eq ho, State.capture, modOrder_eq (by rw [State.crane_setCrane_self]), setCrane_setCrane,
    State.crane_setCrane_self, State.setCrane_sup, next]
  unfold State.withLegDone Order.legDone
  simp only [hi, and_false, if_false, Nat.lt_succ_iff] <;> rfl

omit ho in
/-- The next leg measured from a capture is the only leg that the marking changes and that carries a measurement. -/
theorem measured_legs {c clock : Word32} (hc : o.lastCapture = some c) :
    (o.legs.mapIdx fun k l => if k < o.nextLeg + 1 then { l with done := true } else l).modify o.nextLeg
        (fun m => { m with measured := some (clock - c) })
      = (o.legDone o.nextLeg clock).legs := by
  refine List.ext_getElem (by simp [Order.legDone]) fun k hk _ => ?_
  simp only [Order.legDone, List.getElem_modify, List.getElem_mapIdx, hc, and_true, Nat.lt_succ_iff]
  by_cases hn : k = o.nextLeg
  · simp [hn]
  · simp [hn, Ne.symm hn]

theorem measureLeg_eq {l : Leg} (hl : o.legs[o.nextLeg]? = some l) :
    (∀ c, o.lastCapture = some c → s.measureLeg x =
      if o.kind = .job ∧ l.valid then
        (s.withLegDone x o o.nextLeg).accumulate x l.untrimmed (s.sup.durationClock - c).toNat
      else s.withLegDone x o o.nextLeg)
    ∧ (o.lastCapture = none → s.measureLeg x = s.withLegDone x o o.nextLeg) := by
  have next : max o.nextLeg (o.nextLeg + 1) = o.nextLeg + 1 := by omega
  refine ⟨fun c hc => ?_, fun hc => ?_⟩
  · have marked : (((s.markLegs x (o.nextLeg + 1)).modOrder x fun q =>
        { q with legs := q.legs.modify o.nextLeg fun m => { m with measured := some (s.sup.durationClock - c) } }).capture x)
          = s.withLegDone x o o.nextLeg := by
      rw [markLegs_eq ho, modOrder_eq (by rw [State.crane_setCrane_self]), State.capture,
        modOrder_eq (by rw [State.crane_setCrane_self]), setCrane_setCrane, setCrane_setCrane, State.crane_setCrane_self,
        State.crane_setCrane_self, State.setCrane_sup, State.setCrane_sup, next, measured_legs hc]
      rfl
    simp only [State.measureLeg, ho, hl, hc]
    rw [marked]
  · simp only [State.measureLeg, ho, hl, hc]
    rw [markLegs_eq ho, State.capture, modOrder_eq (by rw [State.crane_setCrane_self]), setCrane_setCrane,
      State.crane_setCrane_self, State.setCrane_sup, next]
    unfold State.withLegDone Order.legDone
    simp only [hc, Nat.lt_succ_iff, ite_self] <;> rfl

end

/-- A LEG DONE within the legs not done marks them, measures the leg that was next, and narrows the span. -/
theorem markLegDone_eq {r u : State} {x : Crane} {o q : Order} {i : Nat} {bay level : Byte} (hn : o.nextLeg ≤ i) (hi : i < o.legs.length)
    (hu : u = r.reportPosition x bay.toNat level.toNat) (hq : (u.crane x).order = some q) (next : q.nextLeg = o.nextLeg)
    (length : q.legs.length = o.legs.length) :
    (∀ c l, i = q.nextLeg → q.kind = .job → q.lastCapture = some c → q.legs[q.nextLeg]? = some l → l.valid = true →
      r.markLegDone x o i bay level
        = ((u.withLegDone x q i).accumulate x l.untrimmed (u.sup.durationClock - c).toNat).narrowSpan x)
    ∧ (i ≠ q.nextLeg ∨ q.kind ≠ .job ∨ q.lastCapture = none ∨ (∀ l, q.legs[q.nextLeg]? = some l → l.valid = false) →
      r.markLegDone x o i bay level = (u.withLegDone x q i).narrowSpan x) := by
  have taken : r.markLegDone x o i bay level
      = (if i = o.nextLeg then u.measureLeg x else (u.markLegs x (i + 1)).capture x).narrowSpan x := by
    rw [hu]
    exact if_neg (by omega)
  rw [taken, ← next]
  refine ⟨fun c l hx hk hc hl hv => ?_, fun h => congrArg (State.narrowSpan · x) ?_⟩
  · subst hx
    rw [if_pos rfl, (measureLeg_eq hq hl).1 c hc, if_pos ⟨hk, hv⟩]
  · by_cases hx : i = q.nextLeg
    · subst hx
      obtain ⟨l, hl⟩ : ∃ l, q.legs[q.nextLeg]? = some l := ⟨_, List.getElem?_eq_getElem (by omega)⟩
      rw [if_pos rfl]
      cases hc : q.lastCapture with
      | none => exact (measureLeg_eq hq hl).2 hc
      | some c =>
        rw [(measureLeg_eq hq hl).1 c hc]
        refine if_neg fun ⟨hk, hv⟩ => ?_
        rcases h with h | h | h | h
        · exact h rfl
        · exact h hk
        · exact absurd (hc.symm.trans h) (Option.some_ne_none c)
        · exact absurd (h l hl) (by simp [hv])
    · rw [if_neg hx, capture_markLegs hq (next ▸ hn) hx]

theorem crane_narrowSpan {s : State} {x : Crane} (hq : ∀ e ∈ s.engine.queue, e.crane ≠ x) : (s.narrowSpan x).crane x = s.crane x := by
  unfold State.narrowSpan
  split
  · unfold State.changeSpan State.shrunkFrom
    split
    · exact State.crane_trigger_other (sibling_ne x) hq
    · rfl
  · rfl

/-- Handing a leg to the cost unit changes the crane's own trim, and may raise a notice. -/
theorem accumulate_eq (s : State) (x : Crane) (m n : Nat) :
    ∃ r, s.accumulate x m n = s.setTrimOf x r ∨ ∃ e, s.accumulate x m n = (s.setTrimOf x r).raise e := by
  unfold State.accumulate
  dsimp only
  split
  · exact ⟨_, .inr ⟨_, rfl⟩⟩
  · exact ⟨_, .inl rfl⟩

/-- The measured legs as the obligation writes them. -/
theorem legDone_legs (o : Order) (i : Nat) (clock : Word32) :
    (o.legDone i clock).legs = o.legs.mapIdx fun k l =>
      if k ≤ i then
        { l with
          done := true
          measured :=
            match o.lastCapture with
            | some c => if k = o.nextLeg ∧ i = o.nextLeg then some (clock - c) else l.measured
            | none => l.measured }
      else l := by
  unfold Order.legDone
  cases o.lastCapture with
  | none => simp only [ite_self]
  | some c => rfl

/-- What a LEG DONE within the legs not done leaves of the store: the state that the crane's own trim apart has all but the
crane and its span as they were. -/
theorem legDone_kept {s u v : State} {x : Crane} {o : Order} {i : Nat} (hu : StoreKept True s u)
    (hv : v = u.withLegDone x o i ∨ ∃ m n, v = (u.withLegDone x o i).accumulate x m n) :
    (v.narrowSpan x).pool = s.pool ∧ (v.narrowSpan x).table = s.table ∧ (v.narrowSpan x).lanes = s.lanes
      ∧ (v.narrowSpan x).spans.pair = s.spans.pair ∧ (v.narrowSpan x).sup = s.sup
      ∧ ∀ y, y ≠ x → (v.narrowSpan x).trimOf y = s.trimOf y := by
  have marked : StoreKept True s (u.withLegDone x o i) := hu.setCrane
  obtain ⟨pool, table, pair⟩ := marked.jobs trivial
  have narrowed : StoreKept True v (v.narrowSpan x) := (StoreKept.refl v).narrowSpan
  obtain ⟨pool', table', pair'⟩ := narrowed.jobs trivial
  have trims (y : Crane) : (v.narrowSpan x).trimOf y = v.trimOf y := by rw [State.trimOf, narrowed.cost]; rfl
  have trims' (y : Crane) : (u.withLegDone x o i).trimOf y = s.trimOf y := by rw [State.trimOf, marked.cost]; rfl
  rw [pool', table', pair', narrowed.lanes, narrowed.sup]
  obtain rfl | ⟨m, n, rfl⟩ := hv
  · exact ⟨pool, table, marked.lanes, pair, marked.sup, fun y _ => (trims y).trans (trims' y)⟩
  · obtain ⟨r, e | ⟨ev, e⟩⟩ := accumulate_eq (u.withLegDone x o i) x m n
    all_goals
      rw [e] at trims ⊢
      refine ⟨pool, table, marked.lanes, pair, marked.sup, fun y hy => (trims y).trans ?_⟩
      refine Eq.trans ?_ (trims' y)
      exact (State.trimOf_setTrimOf ..).trans (if_neg hy.symm)

/-- The crane that a LEG DONE leaves is the one with its legs marked: a crane with an order does not stand in the queue. -/
theorem crane_legDone {u v : State} {x : Crane} {o : Order} {i : Nat} (hq : ∀ e ∈ u.engine.queue, e.crane ≠ x)
    (hv : v = u.withLegDone x o i ∨ ∃ m n, v = (u.withLegDone x o i).accumulate x m n) :
    (v.narrowSpan x).crane x = (u.withLegDone x o i).crane x := by
  obtain rfl | ⟨m, n, rfl⟩ := hv
  · exact crane_narrowSpan hq
  · obtain ⟨r, e | ⟨ev, e⟩⟩ := accumulate_eq (u.withLegDone x o i) x m n <;> rw [e] <;> exact crane_narrowSpan hq

end Sys2Proof.Machine

namespace Sys2Proof.Machine

/-- What a LEG DONE leaves: the crane with its legs marked and its span narrowed, and at most its own trim changed. -/
theorem markLegDone_cases {r u : State} {x : Crane} {o : Order} {i : Nat} {bay level : Byte} (hn : o.nextLeg ≤ i)
    (hi : i < o.legs.length) (hu : u = r.reportPosition x bay.toNat level.toNat) (ho : (u.crane x).order = some o) :
    ∃ v, (v = u.withLegDone x o i ∨ ∃ m n, v = (u.withLegDone x o i).accumulate x m n)
      ∧ r.markLegDone x o i bay level = v.narrowSpan x
      ∧ ((i ≠ o.nextLeg ∨ o.kind ≠ .job ∨ ∀ l, o.legs[o.nextLeg]? = some l → l.valid = false) → v = u.withLegDone x o i) := by
  obtain ⟨handed, kept⟩ := markLegDone_eq hn hi hu ho rfl rfl
  by_cases k : i ≠ o.nextLeg ∨ o.kind ≠ .job ∨ o.lastCapture = none ∨ ∀ l, o.legs[o.nextLeg]? = some l → l.valid = false
  · exact ⟨_, .inl rfl, kept k, fun _ => rfl⟩
  · push Not at k
    obtain ⟨hx, hk, hc, l, hl, hv⟩ := k
    obtain ⟨c, hc⟩ := Option.ne_none_iff_exists'.1 hc
    refine ⟨_, .inr ⟨_, _, rfl⟩, handed c l hx hk hc hl (by simpa using hv), fun h => ?_⟩
    rcases h with h | h | h
    · exact absurd hx h
    · exact absurd hk h
    · exact absurd (h l hl) hv

/-- A crane with an order in hand does not stand in the queue (R98). -/
theorem not_queued_of_state {s : State} (h : s.queueInLaw) {x : Crane} (hx : (s.crane x).state ≠ .queued) :
    ∀ e ∈ s.engine.queue, e.crane ≠ x := fun e he k => hx (k ▸ (h.1 e he).1)

theorem execLegDone_running {x : Crane} {index bay level : Byte} {s : State} {o : Order} (ho : (s.crane x).order = some o)
    (hr : o.state = .running) (hst : (s.crane x).state ∈ [.running, .yielding, .homing]) :
    exec (.legDone x o.id index bay level) s = .next ((s.setSilence x 0).markLegDone x o index.toNat bay level) := by
  have enrolled : (s.crane x).state ≠ .offline := fun e => by simp [e] at hst
  have seen : ((s.setSilence x 0).crane x).state ≠ .lost := fun e => by
    rw [State.crane_setSilence] at e
    simp [e] at hst
  have named : (s.setSilence x 0).namedOrder x o.id = some o := namedOrder_eq_some.2 ⟨ho, rfl⟩
  refine congrArg Host.Outcome.next ((hearCrane_enrolled enrolled _).trans ?_)
  simp only [State.takeLegDone, named, if_neg seen, hr]

/-- Settles O48: the marking of legs as one change of the crane's context, then the frame of a narrowing, whose trigger
reaches the sibling only. -/
theorem legsAreMarked : Obligations.LegsAreMarked := by
  refine ⟨fun x index bay level s o ho hr hst => ?_, fun x i bay level r u v o q => ⟨fun out => if_pos out,
    fun hn hi hu hq next length hv => ?_⟩⟩
  · have taken := execLegDone_running (index := index) (bay := bay) (level := level) ho hr hst
    refine ⟨taken, fun out => taken.trans (congrArg _ (if_pos out)), fun law hn hi => ?_⟩
    have bound := reportPosition_bound (s := s.setSilence x 0) (x := x) (.inl (by simp [ho])) bay.toNat level.toNat
    obtain ⟨u, hu⟩ : ∃ u, u = (s.setSilence x 0).reportPosition x bay.toNat level.toNat := ⟨_, rfl⟩
    rw [← hu] at bound
    have kept : StoreKept True (s.setSilence x 0) u := hu ▸ (StoreKept.refl _).reportPosition
    have same : (u.crane x).SameButPlace (s.crane x) := bound ▸ sameButPlace_takePosition (s.setSilence x 0) x _ _
    have order : (u.crane x).order = some o := same.order.trans ho
    have clock : u.sup.durationClock = s.sup.durationClock := by rw [kept.sup]; rfl
    have queue : ∀ e ∈ u.engine.queue, e.crane ≠ x := by
      rw [bound, engine_takePosition]
      exact not_queued_of_state law.1 fun e => by simp [e] at hst
    refine ⟨?_, fun u' v marked aboard hu' hmarked haboard hv => ?_⟩
    · obtain ⟨v, hv, e, plain⟩ := markLegDone_cases hn hi hu order
      have crane := crane_legDone queue hv
      obtain ⟨pool, table, lanes, pair, sup, trims⟩ := legDone_kept kept hv
      rw [State.withLegDone, State.crane_setCrane_self, clock] at crane
      refine ⟨_, o.legDone index.toNat s.sup.durationClock, taken.trans (congrArg _ e), pool, table, lanes, pair,
        sup.trans (by rw [sup]; rfl), fun y hy => ?_, trims, congrArg CraneCtx.order crane, rfl, legDone_legs_length .., hr, rfl,
        (congrArg CraneCtx.state crane).trans same.state, fun k l hk hl => ?_, fun k hk => ?_, fun hx c l hc hl => ?_,
        fun h => ?_⟩
      · exact (congrArg (fun n : Supervision => n.silence.get y) sup).trans
          ((State.silenceOf_setSilence ..).trans (if_neg hy.symm))
      · obtain ⟨m, -, rfl⟩ := legDone_leg hl
        rw [if_pos hk]
      · rw [Order.legDone, List.getElem?_mapIdx]
        simp only [if_neg (Nat.not_le.2 hk), Option.map_id_fun', id]
      · obtain ⟨m, -, rfl⟩ := legDone_leg hl
        simp only [hx, le_refl, if_true, and_self, hc]
      · have narrowed : StoreKept True u (v.narrowSpan x) := plain h ▸ StoreKept.narrowSpan (StoreKept.refl u).setCrane
        rw [State.trimOf, narrowed.cost, kept.cost]
        rfl
    · cases hu'.trans hu.symm
      have legs : marked = (o.legDone index.toNat s.sup.durationClock).legs := hmarked.trans (legDone_legs ..).symm
      have before : (u.crane x).aboard = (s.crane x).aboard := by
        obtain ⟨p, n, e⟩ := same
        rw [e]
      have shape : v = u.withLegDone x o index.toNat := by
        rw [hv, legs, haboard, State.withLegDone, clock, before]
        rfl
      obtain ⟨handed, plain⟩ := markLegDone_eq hn hi hu order rfl rfl
      rw [shape, taken]
      rw [clock] at handed
      exact ⟨fun c l hx hk hc hl hv => congrArg _ (handed c l hx hk hc hl hv), fun h => congrArg _ (plain h)⟩
  · have sup : u.sup = r.sup := by rw [hu]; exact (StoreKept.refl (jobs := True) r).reportPosition.sup
    have shape : v = u.withLegDone x q i := by
      rw [hv, State.withLegDone, sup]
      rfl
    rw [shape, ← sup]
    exact markLegDone_eq hn hi hu hq next length

end Sys2Proof.Machine

namespace Sys2Proof.Machine

/-! ## A crane that no trigger reaches

A crane that does not stand in the queue keeps its context and its span through the triggers of the others and the turns of
the engine; and its own triggers do nothing unless it is IDLE. -/

/-- A crane has its context and its span as they were, and does not stand in the queue. -/
structure Unreached (x : Crane) (s t : State) : Prop where
  crane : t.crane x = s.crane x
  span : t.spanOf x = s.spanOf x
  queue : ∀ e ∈ t.engine.queue, e.crane ≠ x

namespace Unreached

variable {x y : Crane} {s t : State}

theorem refl (hq : ∀ e ∈ s.engine.queue, e.crane ≠ x) : Unreached x s s := ⟨rfl, rfl, hq⟩

theorem elsewhere (h : Unreached x s t) (u : State) (hc : u.crane x = t.crane x := by rfl)
    (hs : u.spanOf x = t.spanOf x := by rfl) (hq : u.engine.queue = t.engine.queue := by rfl) : Unreached x s u :=
  ⟨hc.trans h.crane, hs.trans h.span, hq ▸ h.queue⟩

theorem trans {u : State} (h : Unreached x s t) (k : Unreached x t u) : Unreached x s u :=
  ⟨k.crane.trans h.crane, k.span.trans h.span, k.queue⟩

theorem modCrane (h : Unreached x s t) (hy : y ≠ x) {f : CraneCtx → CraneCtx} : Unreached x s (t.modCrane y f) :=
  h.elsewhere _ ((State.crane_modCrane ..).trans (if_neg hy))

theorem setSpan (h : Unreached x s t) (hy : y ≠ x) {sp : Span} : Unreached x s (t.setSpan y sp) :=
  h.elsewhere _ rfl ((State.spanOf_setSpan ..).trans (if_neg hy))

theorem createHome (h : Unreached x s t) (hy : y ≠ x) : Unreached x s (t.createHome y) :=
  h.elsewhere _ (State.crane_createHome_other _ hy) (State.spanOf_createHome_other _ hy) (by rw [State.engine_createHome])

theorem engineTake (n : Nat) {t : State} (h : Unreached x s t) : Unreached x s (State.engineTake n t) := by
  induction n generalizing t with
  | zero => exact h
  | succ n ih =>
    unfold State.engineTake
    split
    · rename_i e _ he
      have other := h.queue e (List.mem_of_find?_eq_some he)
      have dequeued : Unreached x s (t.dequeue e.crane) := ⟨h.crane, h.span, fun d hd => h.queue d (State.mem_dequeue hd).1⟩
      split
      · exact ih (dequeued.createHome other)
      · exact dequeued.elsewhere _
    · exact h

theorem engineRun (h : Unreached x s t) : Unreached x s t.engineRun := engineTake _ h

/-- A trigger of another crane, or of this one while it is not IDLE. -/
theorem trigger (h : Unreached x s t) (hy : y ≠ x ∨ (t.crane x).state ≠ .idle) : Unreached x s (t.trigger y) := by
  unfold State.trigger
  split
  · rename_i hs
    have other : y ≠ x := hy.elim id fun k e => k (e ▸ hs)
    split
    · exact h.createHome other
    · have queued : Unreached x s (t.setCraneState y .queued) := h.modCrane other
      refine engineRun ⟨queued.crane, queued.span, fun e he => ?_⟩
      rcases List.mem_append.1 he with he | he
      · exact h.queue e he
      · exact List.mem_singleton.1 he ▸ other
  · unfold State.noteTrigger
    split
    · split
      · exact h.elsewhere _
      · exact h
    · exact h
  · exact h

theorem shrunkFrom (h : Unreached x s t) {old : Span} (hy : sibling y ≠ x ∨ (t.crane x).state ≠ .idle) :
    Unreached x s (t.shrunkFrom y old) := by
  unfold State.shrunkFrom
  split
  · exact h.trigger hy
  · exact h

theorem spanToPosition (h : Unreached x s t) (hy : y ≠ x) (hi : (t.crane x).state ≠ .idle) :
    Unreached x s (t.spanToPosition y) := by
  unfold State.spanToPosition
  split
  · exact shrunkFrom (h.setSpan hy) (.inr hi)
  · exact h

theorem setIdle (h : Unreached x s t) (hy : y ≠ x) : Unreached x s (t.setIdle y) := by
  have idle : Unreached x s (t.setCraneState y .idle) := h.modCrane hy
  unfold State.setIdle
  dsimp only
  split
  · exact idle.elsewhere _ (crane_craneStateEvent_other hy.symm _)
  · exact idle

theorem idleTriggers (h : Unreached x s t) (hi : (t.crane x).state ≠ .idle) : Unreached x s (t.idleTriggers y) := by
  have first : Unreached x t (t.trigger y) := (refl h.queue).trigger (.inr hi)
  exact h.trans (first.trigger (.inr (first.crane ▸ hi)))

end Unreached

/-- The crane's own span set to its position, and what follows for its sibling, leaves its context. -/
theorem crane_spanToPosition {s : State} {x : Crane} (hq : ∀ e ∈ s.engine.queue, e.crane ≠ x) :
    (s.spanToPosition x).crane x = s.crane x ∧ ∀ e ∈ (s.spanToPosition x).engine.queue, e.crane ≠ x := by
  unfold State.spanToPosition
  split
  · rename_i p _
    have kept := (Unreached.refl (s := s.setSpan x (.bays p.bay p.bay)) hq).shrunkFrom (y := x) (old := s.spanOf x)
      (.inl (sibling_ne x))
    exact ⟨kept.crane, kept.queue⟩
  · exact ⟨rfl, hq⟩

/-- A report from a crane that does not stand in the queue: what follows for its sibling does not reach it. -/
theorem unreached_reportPosition {s : State} {x : Crane} (hq : ∀ e ∈ s.engine.queue, e.crane ≠ x) (b l : Nat) :
    Unreached x (s.takePosition x b l) (s.reportPosition x b l) :=
  (Unreached.refl (by rw [engine_takePosition]; exact hq)).shrunkFrom (.inl (sibling_ne x))

/-- The release of a waiting crane takes at most the partner from its sibling's order (R65). -/
theorem crane_releaseWaiting {s : State} {y : Crane} (hi : (s.crane y).state ≠ .idle) (hq : ∀ e ∈ s.engine.queue, e.crane ≠ y) :
    ((s.releaseWaiting (some (sibling y))).crane y = s.crane y ∨ (s.releaseWaiting (some (sibling y))).crane y
        = { s.crane y with order := (s.crane y).order.map fun o => { o with yieldPartner := none } })
      ∧ (s.releaseWaiting (some (sibling y))).spanOf y = s.spanOf y
      ∧ ∀ e ∈ (s.releaseWaiting (some (sibling y))).engine.queue, e.crane ≠ y := by
  have other := sibling_ne y
  unfold State.releaseWaiting
  dsimp only
  cases hx : (s.crane (sibling y)).order with
  | none =>
    have same : s.discardWaiting (sibling y) = s := by simp only [State.discardWaiting, hx]
    rw [same]
    have kept := (Unreached.refl hq).setIdle other
    exact ⟨.inl kept.crane, kept.span, kept.queue⟩
  | some q =>
    rw [discardWaiting_eq hx, sibling_sibling]
    generalize hb : (((s.returnJobs q).revertEntries q).setPair (aisleOf (sibling y)) none) = b
    have crane : b.crane y = s.crane y := by rw [← hb, returnJobs_eq]; rfl
    have span : b.spanOf y = s.spanOf y := by rw [← hb, returnJobs_eq]; rfl
    have queue : b.engine.queue = s.engine.queue := by rw [← hb, returnJobs_eq]; rfl
    have left : (b.modOrder y fun o => { o with yieldPartner := none }).crane y
        = { s.crane y with order := (s.crane y).order.map fun o => { o with yieldPartner := none } } :=
      (State.crane_modCrane_self ..).trans (by rw [crane])
    have dropped := (Unreached.refl (s := b.modOrder y fun o => { o with yieldPartner := none })
      (x := y) (queue ▸ hq)).modCrane (y := sibling y) (f := fun c => { c with order := none }) other
    have kept := (dropped.spanToPosition other (by rw [dropped.crane, left]; exact hi)).setIdle other
    exact ⟨.inr (kept.crane.trans left), kept.span.trans span, kept.queue⟩

/-- The yield of a crane that fails: its partner is released and triggered, and its own order loses the partner (R65). -/
theorem crane_failYield {s : State} {y : Crane} {o : Order} (ho : (s.crane y).order = some o)
    (hw : ∀ w, o.yieldPartner = some w → w = sibling y) (hi : (s.crane y).state ≠ .idle)
    (hq : ∀ e ∈ s.engine.queue, e.crane ≠ y) :
    ∃ p, (s.failYield y).crane y = { s.crane y with order := some { o with yieldPartner := p } }
      ∧ (s.failYield y).spanOf y = s.spanOf y := by
  cases hp : o.yieldPartner with
  | none =>
    rw [failYield_none ho hp]
    refine ⟨o.yieldPartner, ?_, rfl⟩
    rw [show ({ o with yieldPartner := o.yieldPartner } : Order) = o from rfl, ← ho]
  | some w =>
    obtain rfl := hw w hp
    obtain ⟨crane, span, queue⟩ := crane_releaseWaiting hi hq
    have state : ((s.releaseWaiting (some (sibling y))).crane y).state = (s.crane y).state := by
      obtain e | e := crane <;> rw [e]
    have kept := (Unreached.refl queue).idleTriggers (y := sibling y) (by rw [state]; exact hi)
    rw [failYield_some ho hp]
    change ∃ p, ((s.releaseWaiting (some (sibling y))).idleTriggers (sibling y)).crane y = _ ∧ _
    obtain e | e := crane
    · refine ⟨o.yieldPartner, ?_, kept.span.trans span⟩
      rw [kept.crane, e, show ({ o with yieldPartner := o.yieldPartner } : Order) = o from rfl, ← ho]
    · refine ⟨none, ?_, kept.span.trans span⟩
      rw [kept.crane, e, ho]
      rfl

end Sys2Proof.Machine

namespace Sys2Proof.Machine

/-! ## What the rows of a FAULT leave (R66, R141)

The settings, the lanes, the clocks and every count of anomalies are as the report left them. -/

/-- The settings and the anomaly counts are as they were. -/
structure FaultKept (s t : State) : Prop where
  store : StoreKept False s t
  anomalies : ∀ y, (t.crane y).anomalies = (s.crane y).anomalies

namespace FaultKept

variable {s t : State}

theorem refl (s : State) : FaultKept s s := ⟨.refl s, fun _ => rfl⟩

theorem ite {c : Prop} [Decidable c] {u : State} (ht : FaultKept s t) (hu : FaultKept s u) :
    FaultKept s (if c then t else u) := by
  split
  · exact ht
  · exact hu

/-- A state that differs only in parts that hold neither settings nor cranes. -/
theorem elsewhere (h : FaultKept s t) (u : State) (hc : u.cost = t.cost := by rfl) (hl : u.lanes = t.lanes := by rfl)
    (hs : u.sup = t.sup := by rfl) (ho : u.orders.cranes = t.orders.cranes := by rfl) : FaultKept s u :=
  ⟨h.store.elsewhere _ hc hl hs (fun k => k.elim),
    fun y => (congrArg (fun v => (Vector.get v y).anomalies) ho).trans (h.anomalies y)⟩

theorem modCrane (h : FaultKept s t) {x : Crane} {f : CraneCtx → CraneCtx}
    (hf : (f (t.crane x)).anomalies = (t.crane x).anomalies := by rfl) : FaultKept s (t.modCrane x f) := by
  refine ⟨h.store.modCrane, fun y => ?_⟩
  rw [State.crane_modCrane]
  split
  · rename_i e
    exact hf.trans (e ▸ h.anomalies x)
  · exact h.anomalies y

theorem modOrder (h : FaultKept s t) {x : Crane} {f : Order → Order} : FaultKept s (t.modOrder x f) := h.modCrane
theorem setCraneState (h : FaultKept s t) {x : Crane} {st : CraneState} : FaultKept s (t.setCraneState x st) := h.modCrane
theorem emit (h : FaultKept s t) {x : Crane} {f : List Byte} : FaultKept s (t.emit x f) := h.elsewhere _
theorem setSpan (h : FaultKept s t) {x : Crane} {sp : Span} : FaultKept s (t.setSpan x sp) := h.elsewhere _
theorem setPass (h : FaultKept s t) {p : Option Pass} : FaultKept s (t.setPass p) := h.elsewhere _

theorem craneStateEvent (h : FaultKept s t) {x : Crane} {c : StateCause} : FaultKept s (t.craneStateEvent x c) :=
  elsewhere (h.modCrane (x := x) (f := fun k => { k with stateCause := some c })) _

theorem enterFaulted (h : FaultKept s t) {x : Crane} {c : StateCause} : FaultKept s (t.enterFaulted x c) :=
  craneStateEvent h.setCraneState

theorem placeOrder (h : FaultKept s t) {x : Crane} {o : Order} : FaultKept s (t.placeOrder x o) :=
  elsewhere (h.modCrane (x := x) (f := fun c => { c with order := some o, starved := false })) _

theorem claimSpan (h : FaultKept s t) {x : Crane} {p : Option Position} {ps : List Place} :
    FaultKept s (t.claimSpan x p ps) := by
  unfold State.claimSpan
  split
  · exact h.setSpan
  · exact h

theorem sendOrder (h : FaultKept s t) {x : Crane} : FaultKept s (t.sendOrder x) := by
  unfold State.sendOrder
  split
  · exact h
  · exact emit (setCraneState h.modOrder)

theorem createHome (h : FaultKept s t) {x : Crane} : FaultKept s (t.createHome x) :=
  sendOrder (claimSpan (modCrane h.placeOrder))

theorem engineTake (n : Nat) {t : State} (h : FaultKept s t) : FaultKept s (State.engineTake n t) := by
  induction n generalizing t with
  | zero => exact h
  | succ n ih =>
    unfold State.engineTake
    split
    · rename_i e _ _
      have dequeued : FaultKept s (t.dequeue e.crane) := h.elsewhere _
      exact ite (ih dequeued.createHome) dequeued.setPass
    · exact h

theorem engineRun (h : FaultKept s t) : FaultKept s t.engineRun := engineTake _ h

theorem trigger (h : FaultKept s t) {x : Crane} : FaultKept s (t.trigger x) := by
  unfold State.trigger
  split
  · have queued : FaultKept s (t.setCraneState x .queued) := h.setCraneState
    exact ite h.createHome (engineRun (queued.elsewhere _))
  · unfold State.noteTrigger
    split
    · exact ite h.setPass h
    · exact h
  · exact h

theorem spanToPosition (h : FaultKept s t) {x : Crane} : FaultKept s (t.spanToPosition x) := by
  unfold State.spanToPosition
  split
  · exact ite h.setSpan.trigger h.setSpan
  · exact h

theorem setIdle (h : FaultKept s t) {x : Crane} : FaultKept s (t.setIdle x) :=
  ite (craneStateEvent h.setCraneState) h.setCraneState

theorem leaveEngine (h : FaultKept s t) {x : Crane} : FaultKept s (t.leaveEngine x) :=
  ite h.setPass.engineRun (h.elsewhere _)

theorem discardWaiting (h : FaultKept s t) {x : Crane} : FaultKept s (t.discardWaiting x) := by
  unfold State.discardWaiting
  split
  · exact h
  · rename_i o _
    have returned : FaultKept s (((t.returnJobs o).revertEntries o).setPair (aisleOf x) none) := by
      rw [returnJobs_eq]
      exact h.elsewhere _
    exact spanToPosition (modCrane returned.modOrder)

theorem failYield (h : FaultKept s t) {x : Crane} : FaultKept s (t.failYield x) := by
  unfold State.failYield
  cases t.partnerOf x with
  | none => exact h
  | some w => exact trigger (trigger h.discardWaiting.setIdle)

theorem startIfSent (h : FaultKept s t) {x : Crane} : FaultKept s (t.startIfSent x) := by
  have started (p : Bool) : FaultKept s (t.startOrder x p) := by
    unfold State.startOrder
    split
    · exact h
    · rename_i o _
      have captured {f g : Order → Order} : FaultKept s
          ((((t.activateJobs o).modCrane x fun c => { c with timeouts := 0 }).modOrder x f).modOrder x g) := by
        rw [activateJobs_eq]
        exact modOrder (modOrder (modCrane (h.elsewhere _)))
      refine ite captured ?_
      unfold State.takeKindState
      split
      · exact captured
      · exact ite (craneStateEvent (setCraneState captured)) (setCraneState captured)
  unfold State.startIfSent
  split
  · exact ite (started true) h
  · exact h

theorem markLegs (h : FaultKept s t) {x : Crane} {k : Nat} : FaultKept s (t.markLegs x k) := by
  refine h.modCrane ?_
  split <;> rfl

theorem applyFault (h : FaultKept s t) {x : Crane} {n : Nat} : FaultKept s (t.applyFault x n) := by
  unfold State.applyFault
  split
  case h_1 | h_2 | h_3 => exact h
  case h_4 | h_5 => exact h.enterFaulted
  case h_6 => exact h.spanToPosition.enterFaulted
  case h_7 => exact h.enterFaulted.leaveEngine
  all_goals
    split
    · exact h.enterFaulted
    · exact ite (failYield (enterFaulted (modOrder h.startIfSent.markLegs))) (failYield h.enterFaulted)

end FaultKept

/-- A report leaves the anomaly counts as the table of R68 leaves them. -/
theorem faultKept_reportPosition (s : State) (x : Crane) (b l : Nat) :
    FaultKept (s.takePosition x b l) (s.reportPosition x b l) :=
  FaultKept.ite (FaultKept.refl _).trigger (.refl _)

/-- A crane with another fault code. -/
def State.withFaultCode (s : State) (x : Crane) (code : Byte) : State := s.modCrane x fun c => { c with faultCode := some code }

section

variable (s : State) (x : Crane) (code : Byte)

theorem anomaly_withFaultCode : (s.withFaultCode x code).anomaly x = (s.anomaly x).withFaultCode x code := by
  simp only [State.withFaultCode, State.anomaly, State.modCrane, State.crane_setCrane_self, setCrane_setCrane]

theorem setPosition_withFaultCode (b l : Nat) :
    (s.withFaultCode x code).setPosition x b l = (s.setPosition x b l).withFaultCode x code := by
  simp only [State.withFaultCode, State.setPosition, State.modCrane, State.crane_setCrane_self, setCrane_setCrane]

theorem reportRange_withFaultCode (b l : Nat) :
    (s.withFaultCode x code).reportRange x b l = (s.reportRange x b l).withFaultCode x code := by
  refine Eq.trans ?_ (apply_ite (State.withFaultCode · x code) _ _ _).symm
  rw [← anomaly_withFaultCode]
  rfl

theorem takeInRange_withFaultCode (b l : Nat) :
    (s.withFaultCode x code).takeInRange x b l = (s.takeInRange x b l).withFaultCode x code := by
  have span (t : State) (sp : Span) : (t.withFaultCode x code).setSpan x sp = (t.setSpan x sp).withFaultCode x code := rfl
  have held : (s.withFaultCode x code).spanOf x = s.spanOf x := rfl
  have clear (sp : Span) : (s.withFaultCode x code).clear x sp = s.clear x sp := rfl
  unfold State.takeInRange
  rw [held]
  cases s.spanOf x
  · rfl
  · simp only [clear, setPosition_withFaultCode, span, apply_ite (State.withFaultCode · x code)]
  · simp only [clear, setPosition_withFaultCode, anomaly_withFaultCode, span, apply_ite (State.withFaultCode · x code)]

theorem restSpan_withFaultCode : (s.withFaultCode x code).restSpan x = (s.restSpan x).withFaultCode x code := by
  have crane : (s.withFaultCode x code).crane x = { s.crane x with faultCode := some code } := State.crane_modCrane_self ..
  have held : (s.withFaultCode x code).spanOf x = s.spanOf x := rfl
  unfold State.restSpan
  rw [crane, held]
  dsimp only
  split <;> rfl

/-- A position is taken whatever fault code the crane has. -/
theorem takePosition_withFaultCode (b l : Nat) :
    (s.withFaultCode x code).takePosition x b l = (s.takePosition x b l).withFaultCode x code := by
  unfold State.takePosition
  dsimp only
  rw [reportRange_withFaultCode, takeInRange_withFaultCode, restSpan_withFaultCode]
  rfl

end

end Sys2Proof.Machine

namespace Sys2Proof.Machine

/-! ## A FAULT (R66, R70, R126, R141) -/

/-- The crane as a fault with a code leaves it: FAULTED, and by cause FAULT unless it was FAULTED before. -/
structure CraneCtx.FaultedBy (c : CraneCtx) (code : Byte) (entered : Prop) : Prop where
  state : c.state = .faulted
  code : c.faultCode = some code
  cause : entered → c.stateCause = some .fault

theorem crane_enterFaulted (s : State) (x : Crane) (c : StateCause) :
    (s.enterFaulted x c).crane x = { s.crane x with state := .faulted, stateCause := some c } := by
  have entered : ((s.setCraneState x .faulted).craneStateEvent x c).crane x
      = { (s.setCraneState x .faulted).crane x with stateCause := some c } :=
    State.crane_modCrane_self (s.setCraneState x .faulted) x fun k => { k with stateCause := some c }
  rw [State.enterFaulted, entered, State.setCraneState, State.crane_modCrane_self]

theorem faultedBy_enterFaulted {s : State} {x : Crane} {code : Byte} {entered : Prop}
    (h : (s.crane x).faultCode = some code) : ((s.enterFaulted x .fault).crane x).FaultedBy code entered := by
  rw [crane_enterFaulted]
  exact ⟨rfl, h, fun _ => rfl⟩

theorem CraneCtx.SameButPlace.faultCode {c d : CraneCtx} (h : c.SameButPlace d) : c.faultCode = d.faultCode := by
  obtain ⟨p, n, rfl⟩ := h
  rfl

theorem CraneCtx.SameButPlace.stateCause {c d : CraneCtx} (h : c.SameButPlace d) : c.stateCause = d.stateCause := by
  obtain ⟨p, n, rfl⟩ := h
  rfl

/-- The legs-done count of a FAULT for a crane's order (R141). -/
theorem faultCount_eq {s : State} {x : Crane} {o : Order} (ho : (s.crane x).order = some o) (id : Word16) (n : Nat) :
    s.faultCount x id n = if o.id = id then (if o.nextLeg ≤ n ∧ n ≤ o.legs.length then n else o.nextLeg) else 0 := by
  have named : s.namedOrder x id = if o.id = id then some o else none := by simp only [State.namedOrder, ho]
  unfold State.faultCount
  rw [named]
  by_cases e : o.id = id
  · rw [if_pos e, if_pos e]
    exact if_congr (countFits_iff o n) rfl rfl
  · rw [if_neg e, if_neg e]

theorem faultCount_free {s : State} {x : Crane} (ho : (s.crane x).order = none) (id : Word16) (n : Nat) :
    s.faultCount x id n = 0 := by
  simp only [State.faultCount, State.namedOrder, ho]

/-- The state with the anomalies of a FAULT counted and its code in the crane's context. -/
def State.faultCoded (s : State) (x : Crane) (code : Byte) (id : Word16) (n : Nat) : State :=
  ((s.countAnomaly x id n).nameAnomaly x id).withFaultCode x code

theorem takeFault_eq {s : State} {x : Crane} {code : Byte} (hc : code ≠ 0) (bay level : Byte) (id : Word16) (n : Nat) :
    s.takeFault x code bay level id n = if (s.crane x).state = .awaitYield
      then (s.faultCoded x code id n).faultWaiting x bay level
      else ((s.faultCoded x code id n).reportPosition x bay.toNat level.toNat).applyFault x (s.faultCount x id n) :=
  if_neg hc

theorem exec_fault_enrolled {s : State} {x : Crane} (h : (s.crane x).state ≠ .offline) (code bay level n : Byte) (id : Word16) :
    exec (.fault x code bay level id n) s = .next ((s.setSilence x 0).takeFault x code bay level id n.toNat) :=
  congrArg Host.Outcome.next (hearCrane_enrolled h _)

section

variable {s : State} {x : Crane} {code : Byte} {id : Word16} {n : Nat}

/-- The anomalies of a FAULT touch their count only. -/
theorem anomalies_faulted (s : State) (x : Crane) (id : Word16) (n : Nat) :
    ∃ t, (s.countAnomaly x id n).nameAnomaly x id = t ∧ (t.crane x).SameButPlace (s.crane x)
      ∧ (t.crane x).position = (s.crane x).position ∧ t.spans = s.spans ∧ t.engine = s.engine ∧ StoreKept True s t := by
  have one (u : State) (h : u = s ∨ u = s.anomaly x) : (u.crane x).SameButPlace (s.crane x)
      ∧ (u.crane x).position = (s.crane x).position ∧ u.spans = s.spans ∧ u.engine = s.engine ∧ StoreKept True s u := by
    obtain rfl | rfl := h
    · exact ⟨.refl _, rfl, rfl, rfl, .refl _⟩
    · exact ⟨sameButPlace_anomaly s x, position_anomaly s x, rfl, rfl, (StoreKept.refl s).anomaly⟩
  have counted : s.countAnomaly x id n = s ∨ s.countAnomaly x id n = s.anomaly x := by
    unfold State.countAnomaly
    split
    · exact ite_eq_or_eq ..
    · exact .inl rfl
  obtain ⟨same, place, spans, engine, kept⟩ := one _ counted
  refine ⟨_, rfl, ?_⟩
  obtain e | e : (s.countAnomaly x id n).nameAnomaly x id = s.countAnomaly x id n
      ∨ (s.countAnomaly x id n).nameAnomaly x id = (s.countAnomaly x id n).anomaly x := ite_eq_or_eq ..
  all_goals rw [e]
  · exact ⟨same, place, spans, engine, kept⟩
  · exact ⟨(sameButPlace_anomaly _ x).trans same, (position_anomaly _ x).trans place, spans, engine, kept.anomaly⟩

/-- What a FAULT's anomalies and its code leave of the crane and of the rest. -/
theorem faultCoded_facts (s : State) (x : Crane) (code : Byte) (id : Word16) (n : Nat) :
    ((s.faultCoded x code id n).crane x).state = (s.crane x).state
      ∧ ((s.faultCoded x code id n).crane x).order = (s.crane x).order
      ∧ ((s.faultCoded x code id n).crane x).faultCode = some code
      ∧ (s.faultCoded x code id n).spans = s.spans ∧ (s.faultCoded x code id n).engine = s.engine
      ∧ StoreKept True s (s.faultCoded x code id n) := by
  obtain ⟨t, e, same, -, spans, engine, kept⟩ := anomalies_faulted s x id n
  rw [State.faultCoded, e]
  have crane : (t.withFaultCode x code).crane x = { t.crane x with faultCode := some code } := State.crane_modCrane_self ..
  rw [crane]
  exact ⟨same.state, same.order, rfl, spans, engine, kept.modCrane⟩

end

/-! ### A crane without an order -/

/-- A FAULT from a crane that no trigger reaches and that holds no order. -/
theorem applyFault_free {u : State} {x : Crane} {code : Byte} {k : Nat} (hq : ∀ e ∈ u.engine.queue, e.crane ≠ x)
    (hst : (u.crane x).state ∈ [.idle, .lost, .syncing, .faulted]) (hc : (u.crane x).faultCode = some code) :
    ((u.applyFault x k).crane x).FaultedBy code ((u.crane x).state ≠ .faulted) := by
  simp only [List.mem_cons, List.not_mem_nil, or_false] at hst
  obtain h | h | h | h := hst
  · simp only [State.applyFault, h]
    exact faultedBy_enterFaulted hc
  · simp only [State.applyFault, h]
    exact faultedBy_enterFaulted hc
  · rw [applyFault_syncing h, h]
    exact faultedBy_enterFaulted (by rw [(crane_spanToPosition hq).1, hc])
  · simp only [State.applyFault, h]
    exact ⟨h, hc, fun k => absurd rfl k⟩

/-! ### A QUEUED crane -/

/-- A crane is under evaluation or in the queue, not both (R98, R99). -/
def State.QueuedOnce (s : State) (x : Crane) : Prop := s.underEvaluation x = true → ∀ e ∈ s.engine.queue, e.crane ≠ x

/-- A HOME order that a turn of the engine has created for a crane. -/
structure SentHome (x : Crane) (s t : State) : Prop where
  state : (t.crane x).state = .homing
  order : ∃ o, (t.crane x).order = some o ∧ o.yieldPartner = none
  code : (t.crane x).faultCode = (s.crane x).faultCode
  queue : ∀ e ∈ t.engine.queue, e.crane ≠ x

/-- A HOME order as the engine or a trigger creates it. -/
theorem crane_createHome (s : State) (x : Crane) :
    ∃ leg, (s.createHome x).crane x = { s.crane x with
      order := some (Order.new s.nextId .home .sent [leg]), starved := false, homeRequest := false, state := .homing } := by
  have sent (t : State) (o : Order) (ho : (t.crane x).order = some o) : (t.sendOrder x).crane x
      = { t.crane x with order := some { o with state := .sent, acceptTimer := 0 }, state := stateOfKind o.kind .sent } := by
    simp only [State.sendOrder, ho, State.crane_emit, State.setCraneState, State.crane_modCrane_self, State.modOrder,
      Option.map_some]
  refine ⟨s.makeLeg (s.valuesNow x) (aisleOf x) (State.firstOrigin (s.crane x).position (.station (stationOf x)))
    (.station (stationOf x)) .stay, ?_⟩
  unfold State.createHome
  rw [sent _ (Order.new s.nextId .home .sent [s.makeLeg (s.valuesNow x) (aisleOf x)
    (State.firstOrigin (s.crane x).position (.station (stationOf x))) (.station (stationOf x)) .stay]) (by simp)]
  simp [Order.new, stateOfKind]

theorem sentHome_createHome {s : State} {x : Crane} (hq : ∀ e ∈ s.engine.queue, e.crane ≠ x) :
    SentHome x s (s.createHome x) := by
  obtain ⟨leg, home⟩ := crane_createHome s x
  refine ⟨by rw [home], ⟨_, by rw [home], rfl⟩, by rw [home], ?_⟩
  rw [State.engine_createHome]
  exact hq

/-- A QUEUED crane waits on, or the engine has sent it home. -/
theorem queued_engineTake {s : State} {x : Crane} (n : Nat) {t : State} (hc : t.crane x = s.crane x) (ho : t.QueuedOnce x) :
    ((State.engineTake n t).crane x = s.crane x ∧ (State.engineTake n t).QueuedOnce x)
      ∨ SentHome x s (State.engineTake n t) := by
  induction n generalizing t with
  | zero => exact .inl ⟨hc, ho⟩
  | succ n ih =>
    unfold State.engineTake
    split
    · rename_i e hp he
      by_cases ex : e.crane = x
      · have out : ∀ d ∈ (t.dequeue e.crane).engine.queue, d.crane ≠ x := fun d hd => ex ▸ (State.mem_dequeue hd).2
        split
        · rw [ex] at out ⊢
          have home := sentHome_createHome out
          have kept := Unreached.engineTake n (Unreached.refl home.queue)
          refine .inr ⟨by rw [kept.crane, home.state], by rw [kept.crane]; exact home.order, ?_, kept.queue⟩
          rw [kept.crane, home.code, State.crane_dequeue, hc]
        · exact .inl ⟨hc, fun _ => out⟩
      · split
        · refine ih ((State.crane_createHome_other _ ex).trans hc) fun k d hd => ?_
          simp [State.underEvaluation, hp] at k
        · refine .inl ⟨hc, fun k => absurd ?_ ex⟩
          simpa [State.underEvaluation, State.startPass, State.setPass] using k
    · exact .inl ⟨hc, ho⟩

theorem queued_trigger {s : State} {x y : Crane} (hy : y ≠ x) (ho : s.QueuedOnce x) :
    ((s.trigger y).crane x = s.crane x ∧ (s.trigger y).QueuedOnce x) ∨ SentHome x s (s.trigger y) := by
  unfold State.trigger
  split
  · split
    · exact .inl ⟨State.crane_createHome_other _ hy, by
        unfold State.QueuedOnce State.underEvaluation
        rw [State.engine_createHome]
        exact ho⟩
    · have same : (s.setCraneState y .queued).crane x = s.crane x := (State.crane_modCrane ..).trans (if_neg hy)
      refine queued_engineTake _ same fun k e he => ?_
      rcases List.mem_append.1 he with he | he
      · exact ho k e he
      · exact List.mem_singleton.1 he ▸ hy
  · refine .inl ?_
    unfold State.noteTrigger
    split
    · rename_i p hp
      split
      · rename_i e
        refine ⟨rfl, fun k => ?_⟩
        exact ho (by simpa [State.underEvaluation, State.setPass, hp] using k)
      · exact ⟨rfl, ho⟩
    · exact ⟨rfl, ho⟩
  · exact .inl ⟨rfl, ho⟩

/-- A FAULT from a QUEUED crane: where the report has let the engine send it home, its HOME order stays with it. -/
theorem applyFault_queued {u v : State} {x : Crane} {code : Byte} (hst : (u.crane x).state = .queued)
    (hc : (u.crane x).faultCode = some code) (hv : (v.crane x = u.crane x ∧ v.QueuedOnce x) ∨ SentHome x u v) (entered : Prop) :
    ((v.applyFault x 0).crane x).FaultedBy code entered := by
  obtain ⟨crane, once⟩ | home := hv
  · have queued : (v.crane x).state = .queued := by rw [crane, hst]
    have entered : ((v.enterFaulted x .fault).crane x).FaultedBy code entered :=
      faultedBy_enterFaulted (by rw [crane, hc])
    simp only [State.applyFault, queued]
    unfold State.leaveEngine
    split
    · rename_i k
      have left : Unreached x (v.enterFaulted x .fault) ((v.enterFaulted x .fault).setPass none).engineRun :=
        Unreached.engineRun ((Unreached.refl (s := v.enterFaulted x .fault) (once k)).elsewhere _)
      rw [left.crane]
      exact entered
    · exact entered
  · obtain ⟨o, ho, partner⟩ := home.order
    have state : (v.crane x).state ∈ [.ordered, .running, .yielding, .homing] := by rw [home.state]; decide
    rw [applyFault_order ho state]
    generalize hw : (if o.state = .running then v.suspendOrder x else v) = w
    have crane : ∃ q, (w.crane x).order = some q ∧ q.yieldPartner = none ∧ (w.crane x).faultCode = some code := by
      rw [← hw]
      split
      · rw [suspendOrder_eq ho, State.crane_setCrane_self]
        exact ⟨_, rfl, partner, home.code.trans hc⟩
      · exact ⟨o, ho, partner, home.code.trans hc⟩
    obtain ⟨q, hq, partner, coded⟩ := crane
    have faulted := faultedBy_enterFaulted (entered := entered) coded
    have order : ((w.enterFaulted x .fault).crane x).order = some q := by rw [crane_enterFaulted]; exact hq
    rw [show (w.setCraneState x .faulted).craneStateEvent x .fault = w.enterFaulted x .fault from rfl,
      failYield_none order partner]
    exact faulted

end Sys2Proof.Machine

namespace Sys2Proof.Machine

/-! ### A crane in AWAIT YIELD -/

/-- A FAULT from a crane in AWAIT YIELD discards its order and clears the pair (R66). -/
theorem faultWaiting_facts {u : State} {x : Crane} {o : Order} {code : Byte} (ho : (u.crane x).order = some o)
    (hq : ∀ e ∈ u.engine.queue, e.crane ≠ x) (hc : (u.crane x).faultCode = some code) (bay level : Byte) :
    ((u.faultWaiting x bay level).crane x).FaultedBy code True ∧ ((u.faultWaiting x bay level).crane x).order = none
      ∧ (u.faultWaiting x bay level).pairOf (aisleOf x) = none := by
  unfold State.faultWaiting
  rw [discardWaiting_eq ho, returnJobs_eq]
  generalize hd : (State.dropOrder _ x) = d
  have crane : (d.crane x).order = none ∧ (d.crane x).faultCode = some code := by
    rw [← hd, State.dropOrder, State.crane_modCrane_self, State.modOrder, State.crane_modCrane, if_neg (sibling_ne x)]
    exact ⟨rfl, hc⟩
  have queue : ∀ e ∈ d.engine.queue, e.crane ≠ x := by rw [← hd]; exact hq
  have pair : d.pairOf (aisleOf x) = none := by rw [← hd]; exact (State.pairOf_setPair ..).trans (if_pos rfl)
  obtain ⟨order, coded⟩ := crane
  obtain ⟨span, out⟩ := crane_spanToPosition queue
  have faulted : ((d.spanToPosition x).setCraneState x .faulted).crane x = { d.crane x with state := .faulted } := by
    rw [State.setCraneState, State.crane_modCrane_self, span]
  have report := (unreached_reportPosition (s := (d.spanToPosition x).setCraneState x .faulted) out bay.toNat level.toNat).crane
  have same := sameButPlace_takePosition ((d.spanToPosition x).setCraneState x .faulted) x bay.toNat level.toNat
  rw [← report, faulted] at same
  generalize hv : ((d.spanToPosition x).setCraneState x .faulted).reportPosition x bay.toNat level.toNat = v at same
  have event : (v.craneStateEvent x .fault).crane x = { v.crane x with stateCause := some .fault } :=
    State.crane_modCrane_self v x fun c => { c with stateCause := some .fault }
  have kept : StoreKept True d (v.craneStateEvent x .fault) :=
    hv ▸ ((StoreKept.refl d).spanToPosition.setCraneState.reportPosition).craneStateEvent
  obtain ⟨-, -, pairs⟩ := kept.jobs trivial
  rw [event]
  refine ⟨⟨same.state, same.faultCode.trans coded, fun _ => rfl⟩, same.order.trans order, ?_⟩
  rw [State.pairOf, pairs]
  exact pair

/-! ### A crane with an order in hand -/

/-- The legs of an order marked up to a count and its leg in progress made measure-invalid (R138, R141). -/
theorem suspended_legs (legs : List Leg) {k m : Nat} :
    (∀ i l, i < k → ((legs.mapIdx fun i l => if i < k then { l with done := true } else l).modify m
        fun l => { l with valid := false })[i]? = some l → l.done = true)
      ∧ (∀ l, ((legs.mapIdx fun i l => if i < k then { l with done := true } else l).modify m
        fun l => { l with valid := false })[m]? = some l → l.valid = false)
      ∧ ∀ i, k ≤ i → i ≠ m → ((legs.mapIdx fun i l => if i < k then { l with done := true } else l).modify m
        fun l => { l with valid := false })[i]? = legs[i]? := by
  refine ⟨fun i l hi e => ?_, fun l e => ?_, fun i hi hm => ?_⟩
  · rw [List.getElem?_modify, List.getElem?_mapIdx] at e
    cases hl : legs[i]? with
    | none => simp [hl] at e
    | some n =>
      simp only [hl, Option.map_some, if_pos hi] at e
      obtain ⟨n', rfl, rfl⟩ := e
      split <;> rfl
  · rw [List.getElem?_modify] at e
    obtain ⟨n, -, rfl⟩ := Option.map_eq_some_iff.1 e
    rw [if_pos rfl]
  · rw [List.getElem?_modify, List.getElem?_mapIdx]
    cases legs[i]? <;> simp [hm.symm, Nat.not_lt.2 hi]

/-- A start that a record shows keeps the order but for its state, its clock and the measure of its first leg (R135). -/
theorem startIfSent_order {u : State} {x : Crane} {o : Order} (ho : (u.crane x).order = some o)
    (hst : (u.crane x).state ∈ [.ordered, .running, .yielding, .homing]) :
    ∃ q, ((u.startIfSent x).crane x).order = some q ∧ q.id = o.id ∧ q.yieldPartner = o.yieldPartner
      ∧ q.nextLeg = o.nextLeg ∧ q.legs.length = o.legs.length
      ∧ (∀ i, o.state = .running ∨ i ≠ 0 → q.legs[i]? = o.legs[i]?)
      ∧ ((u.startIfSent x).crane x).faultCode = (u.crane x).faultCode
      ∧ (u.startIfSent x).spans = u.spans ∧ (u.startIfSent x).engine = u.engine := by
  by_cases h : o.state = .sent ∨ o.state = .revoking
  · have notFaulted : (u.crane x).state ≠ .faulted := fun e => by simp [e] at hst
    have notLost : (u.crane x).state ≠ .lost := fun e => by simp [e] at hst
    have notRunning : o.state ≠ .running := fun e => by simp [e] at h
    rw [startIfSent_start ho h, startOrder_other ho notFaulted notLost, activateJobs_eq, State.crane_setCrane_self]
    refine ⟨_, rfl, rfl, rfl, rfl, by simp, fun i hi => ?_, rfl, rfl, rfl⟩
    have notFirst : ¬ 0 = i := (hi.resolve_left notRunning).symm
    rw [if_pos rfl, List.getElem?_modify]
    cases o.legs[i]? <;> simp [notFirst]
  · rw [not_or] at h
    rw [startIfSent_eq_self ho h.1 h.2]
    exact ⟨o, ho, rfl, rfl, rfl, rfl, fun _ _ => rfl, rfl, rfl, rfl⟩

/-- What a FAULT makes of an order: SUSPENDED with its legs marked where it runs or its count shows a start, and else as it
was (R141). -/
structure Order.FaultedTo (o q : Order) (k : Nat) : Prop where
  id : q.id = o.id
  suspended : o.state = .running ∨ (1 ≤ k ∧ o.state ∈ [.sent, .revoking]) →
    q.state = .suspended ∧ q.nextLeg = max o.nextLeg k ∧ q.legs.length = o.legs.length
      ∧ (∀ i l, i < k → q.legs[i]? = some l → l.done = true)
      ∧ (∀ l, q.legs[max o.nextLeg k]? = some l → l.valid = false)
      ∧ ∀ i, k ≤ i → i ≠ max o.nextLeg k → q.legs[i]? = o.legs[i]?
  waiting : o.state ∈ [.sent, .revoking] → k = 0 → q.state = o.state ∧ q.legs = o.legs

/-- A crane enters FAULTED with its order, and its yield fails. -/
theorem crane_faultedYield {w : State} {x : Crane} {q : Order} {code : Byte} (hq : (w.crane x).order = some q)
    (hp : ∀ y, q.yieldPartner = some y → y = sibling x) (hc : (w.crane x).faultCode = some code)
    (out : ∀ e ∈ w.engine.queue, e.crane ≠ x) :
    (((w.enterFaulted x .fault).failYield x).crane x).FaultedBy code True
      ∧ ((w.enterFaulted x .fault).failYield x).spanOf x = w.spanOf x
      ∧ ∃ p, (((w.enterFaulted x .fault).failYield x).crane x).order = some { q with yieldPartner := p } := by
  have entered := crane_enterFaulted w x .fault
  obtain ⟨p, crane, span⟩ := crane_failYield (s := w.enterFaulted x .fault) (y := x) (o := q) (by rw [entered]; exact hq) hp
    (by rw [entered]; nofun) out
  rw [entered] at crane
  rw [crane, span]
  exact ⟨⟨rfl, hc, fun _ => rfl⟩, rfl, p, rfl⟩

/-- An order marked up to a count and suspended is as it was but for its legs, its next leg and its state (R138, R141). -/
theorem markLegs_suspendOrder {t : State} {x : Crane} {a : Order} (ha : (t.crane x).order = some a) (k : Nat) :
    ∃ c, (t.markLegs x k).suspendOrder x = t.setCrane x c ∧ c.faultCode = (t.crane x).faultCode
      ∧ c.order = some { a with
        legs := (a.legs.mapIdx fun i l => if i < k then { l with done := true } else l).modify (max a.nextLeg k)
          fun l => { l with valid := false }
        nextLeg := max a.nextLeg k
        state := .suspended } := by
  rw [markLegs_eq ha, suspendOrder_eq (by rw [State.crane_setCrane_self]), State.crane_setCrane_self, setCrane_setCrane]
  exact ⟨_, rfl, rfl, rfl⟩

theorem applyFault_bound {u : State} {x : Crane} {o : Order} {code : Byte} (k : Nat) (ho : (u.crane x).order = some o)
    (hst : (u.crane x).state ∈ [.ordered, .running, .yielding, .homing])
    (hp : ∀ y, o.yieldPartner = some y → y = sibling x) (hc : (u.crane x).faultCode = some code)
    (out : ∀ e ∈ u.engine.queue, e.crane ≠ x) :
    ((u.applyFault x k).crane x).FaultedBy code True ∧ (u.applyFault x k).spanOf x = u.spanOf x
      ∧ ∃ q, ((u.applyFault x k).crane x).order = some q ∧ o.FaultedTo q k := by
  have row : u.applyFault x k = if o.state = .running ∨ 1 ≤ k then
        ((((u.startIfSent x).markLegs x k).suspendOrder x).enterFaulted x .fault).failYield x
      else (u.enterFaulted x .fault).failYield x := by
    simp only [List.mem_cons, List.not_mem_nil, or_false] at hst
    obtain h | h | h | h := hst <;> simp only [State.applyFault, h, ho]
  rw [row]
  split
  · rename_i started
    obtain ⟨a, ha, id, partner, next, length, legs, coded, spans, engine⟩ := startIfSent_order ho hst
    obtain ⟨c, eq, code', order'⟩ := markLegs_suspendOrder ha k
    obtain ⟨faulted, span, p, order⟩ := crane_faultedYield (w := (u.startIfSent x).setCrane x c) (code := code)
      ((congrArg CraneCtx.order (State.crane_setCrane_self ..)).trans order') (fun y e => hp y (partner ▸ e))
      (by rw [State.crane_setCrane_self]; exact code'.trans (coded.trans hc)) (by rw [State.setCrane_engine, engine]; exact out)
    rw [eq]
    refine ⟨faulted, span.trans (by rw [State.spanOf_setCrane, State.spanOf, spans]; rfl), _, order, id, fun _ => ?_,
      fun waits zero => ?_⟩
    · obtain ⟨done, invalid, rest⟩ := suspended_legs a.legs (k := k) (m := max o.nextLeg k)
      rw [← next] at done invalid rest ⊢
      refine ⟨rfl, rfl, by simpa using length, done, invalid, fun i hi hm => (rest i hi hm).trans (legs i ?_)⟩
      exact started.imp_right fun _ => by omega
    · have notRunning : o.state ≠ .running := fun e => by simp [e] at waits
      exact absurd (started.resolve_left notRunning) (by omega)
  · rename_i notStarted
    obtain ⟨faulted, span, p, order⟩ := crane_faultedYield ho hp hc out
    refine ⟨faulted, span, _, order, rfl, fun h => ?_, fun _ _ => ⟨rfl, rfl⟩⟩
    exact absurd (h.imp_right And.left) notStarted

end Sys2Proof.Machine

namespace Sys2Proof.Machine

/-! ### The count of a FAULT's anomalies, and a crane that is FAULTED or LOST already (R129, R141) -/

section

variable {s g : State} {x : Crane} {code bay level : Byte} {id : Word16} {k : Nat} {misfit misnamed : Bool}

/-- A FAULT counts one anomaly where its count misfits the order it names or it names another. -/
theorem faultCoded_eq (hfit : misfit = true ↔ ∃ o, (s.crane x).order = some o ∧ o.id = id ∧ (k < o.nextLeg ∨ o.legs.length < k))
    (hname : misnamed = true ↔ id ≠ 0 ∧ ∀ o, (s.crane x).order = some o → o.id ≠ id) (hst : (s.crane x).state ≠ .syncing) :
    s.faultCoded x code id k = State.withFaultCode (if misfit || misnamed then s.anomaly x else s) x code := by
  refine congrArg (State.withFaultCode · x code) (statusAnomalies_eq (mode := .fault) hfit (hname.trans ?_))
  rw [not_exists]
  exact ⟨fun ⟨named, other⟩ => ⟨nofun, hst, named, fun o h => other o h.1 h.2⟩,
    fun ⟨_, _, named, other⟩ => ⟨named, fun o ho e => other o ⟨ho, e⟩⟩⟩

theorem anomalies_takeFault (hc : code ≠ 0) (hst : (s.crane x).state ≠ .awaitYield) (hg : s.faultCoded x code id k = g.withFaultCode x code) :
    ((s.takeFault x code bay level id k).crane x).anomalies = ((g.takePosition x bay.toNat level.toNat).crane x).anomalies := by
  rw [takeFault_eq hc, if_neg hst, hg]
  have kept := (faultKept_reportPosition (g.withFaultCode x code) x bay.toNat level.toNat).applyFault (x := x)
    (n := s.faultCount x id k)
  rw [kept.anomalies x, takePosition_withFaultCode, State.withFaultCode, State.crane_modCrane_self]

/-- A report leaves the state of a crane and its order. -/
theorem sameButPlace_reportPosition (hq : s.QueuedAtBay x) (b l : Nat) :
    ((s.reportPosition x b l).crane x).SameButPlace (s.crane x) :=
  (crane_reportPosition hq b l).symm ▸ sameButPlace_takePosition s x b l

/-- A FAULT's report leaves the crane's state. -/
theorem state_reportFault (hq : s.QueuedAtBay x) :
    (((s.faultCoded x code id k).reportPosition x bay.toNat level.toNat).crane x).state = (s.crane x).state := by
  obtain ⟨state, -, -, spans, engine, -⟩ := faultCoded_facts s x code id k
  have atBay : (s.faultCoded x code id k).QueuedAtBay x := by
    unfold State.QueuedAtBay State.spanOf
    rw [spans, engine]
    exact hq
  exact (sameButPlace_reportPosition atBay bay.toNat level.toNat).state.trans state

theorem takeFault_faulted (hc : code ≠ 0) (hq : s.QueuedAtBay x) (hst : (s.crane x).state = .faulted) :
    s.takeFault x code bay level id k = (s.faultCoded x code id k).reportPosition x bay.toNat level.toNat := by
  have faulted := (state_reportFault (code := code) (id := id) (k := k) (bay := bay) (level := level) hq).trans hst
  rw [takeFault_eq hc, if_neg (by rw [hst]; nofun)]
  simp only [State.applyFault, faulted]

theorem takeFault_lost (hc : code ≠ 0) (hq : s.QueuedAtBay x) (hst : (s.crane x).state = .lost) :
    s.takeFault x code bay level id k
      = ((s.faultCoded x code id k).reportPosition x bay.toNat level.toNat).enterFaulted x .fault := by
  have lost := (state_reportFault (code := code) (id := id) (k := k) (bay := bay) (level := level) hq).trans hst
  rw [takeFault_eq hc, if_neg (by rw [hst]; nofun)]
  simp only [State.applyFault, lost]

end

/-! ## A FAULT CLEAR (R126, R143, R146) -/

section

variable {s t : State} {x : Crane} {bay level : Byte}

theorem exec_faultClear_enrolled (h : (s.crane x).state ≠ .offline) (bay level : Byte) :
    exec (.faultClear x bay level) s = .next ((s.setSilence x 0).takeFaultClear x bay level) :=
  congrArg Host.Outcome.next (hearCrane_enrolled h _)

theorem takeFaultClear_working (h : (s.crane x).state ∈ [.idle, .queued, .awaitYield, .ordered, .running, .yielding, .homing]) :
    s.takeFaultClear x bay level = (s.reportPosition x bay.toNat level.toNat).anomaly x := by
  simp only [List.mem_cons, List.not_mem_nil, or_false] at h
  obtain h | h | h | h | h | h | h := h <;> simp only [State.takeFaultClear, h]

theorem takeFaultClear_syncing (hq : s.QueuedAtBay x) (h : (s.crane x).state = .syncing)
    (ht : t = s.reportPosition x bay.toNat level.toNat) :
    s.takeFaultClear x bay level = if t.spanOf x = .unknown then t.modCrane x fun c => { c with aboard := .no }
      else (((t.modCrane x fun c => { c with aboard := .no }).spanToPosition x).setIdle x).idleTriggers x := by
  have state : (t.crane x).state = .syncing := (ht ▸ sameButPlace_reportPosition hq ..).state.trans h
  have settled : ((t.takeAboard x false).crane x).state ≠ .lost := by
    rw [State.takeAboard, State.crane_modCrane_self, state]
    nofun
  simp only [State.takeFaultClear, h, ← ht, settleIdle_eq settled] <;> rfl

theorem takeFaultClear_failed {cause : StateCause}
    (h : ((s.crane x).state = .faulted ∧ cause = .cleared) ∨ ((s.crane x).state = .lost ∧ cause = .reconciled)) :
    s.takeFaultClear x bay level = (s.reportPosition x bay.toNat level.toNat).clearFault x cause := by
  obtain ⟨h, rfl⟩ | ⟨h, rfl⟩ := h <;> simp only [State.takeFaultClear, h]

/-- The state that a crane comes back to with its order. -/
theorem stateOfKind_cleared (o : Order) :
    stateOfKind o.kind (if o.state = .suspended then .running else o.state)
      = match o.kind with
        | .yield => .yielding
        | .home => .homing
        | .job => if o.state = .suspended ∨ o.state = .running then .running
            else if o.state = .awaitYield then .awaitYield else .ordered := by
  cases o.kind with
  | yield => rfl
  | home => rfl
  | job => cases o.state <;> rfl

theorem clearFault_without (cause : StateCause) (ho : (s.crane x).order = none) : s.clearFault x cause = if s.spanOf x = .unknown
      then (s.setCraneState x .syncing).craneStateEvent x cause
      else (((s.spanToPosition x).setCraneState x .idle).craneStateEvent x cause).idleTriggers x := by
  simp only [State.clearFault, ho]

end

end Sys2Proof.Machine

namespace Sys2Proof.Machine

/-! ### A FAULT by the state of the crane (R141) -/

section

variable {s : State} {x : Crane} {code bay level : Byte} {id : Word16} {k : Nat}

theorem StoreKept.anyway {jobs : Prop} {t : State} (h : StoreKept jobs s t) : StoreKept False s t :=
  ⟨h.cost, h.lanes, h.sup, fun k => k.elim⟩

theorem StoreKept.trans {jobs : Prop} {t u : State} (h : StoreKept jobs s t) (k : StoreKept jobs t u) : StoreKept jobs s u :=
  ⟨k.cost.trans h.cost, k.lanes.trans h.lanes, k.sup.trans h.sup, fun j =>
    ⟨(k.jobs j).1.trans (h.jobs j).1, (k.jobs j).2.1.trans (h.jobs j).2.1, (k.jobs j).2.2.trans (h.jobs j).2.2⟩⟩

/-- A FAULT leaves the settings, the lanes and the clocks. -/
theorem storeKept_takeFault (hc : code ≠ 0) : StoreKept False s (s.takeFault x code bay level id k) := by
  obtain ⟨-, -, -, -, -, kept⟩ := faultCoded_facts s x code id k
  have coded : FaultKept (s.faultCoded x code id k) (s.faultCoded x code id k) := .refl _
  have faulted : StoreKept False (s.faultCoded x code id k) (s.takeFault x code bay level id k) := by
    rw [takeFault_eq hc]
    refine .ite (coded.discardWaiting.setCraneState.store.reportPosition.craneStateEvent) ?_
    have reported : StoreKept False _ ((s.faultCoded x code id k).reportPosition x bay.toNat level.toNat) :=
      coded.store.reportPosition
    have applied := (FaultKept.refl ((s.faultCoded x code id k).reportPosition x bay.toNat level.toNat)).applyFault (x := x)
      (n := s.faultCount x id k)
    exact reported.trans applied.store
  exact kept.anyway.trans faulted

/-- A report with a FAULT from a crane that does not stand in the queue. -/
theorem reported_unqueued (hq : ∀ e ∈ s.engine.queue, e.crane ≠ x) {v : State}
    (hv : v = (s.faultCoded x code id k).reportPosition x bay.toNat level.toNat) :
    (v.crane x).state = (s.crane x).state ∧ (v.crane x).order = (s.crane x).order ∧ (v.crane x).faultCode = some code
      ∧ v.spanOf x = ((s.faultCoded x code id k).takePosition x bay.toNat level.toNat).spanOf x
      ∧ ∀ e ∈ v.engine.queue, e.crane ≠ x := by
  obtain ⟨state, order, coded, -, engine, -⟩ := faultCoded_facts s x code id k
  have reported := unreached_reportPosition (s := s.faultCoded x code id k) (by rw [engine]; exact hq) bay.toNat level.toNat
  have same := sameButPlace_takePosition (s.faultCoded x code id k) x bay.toNat level.toNat
  rw [← reported.crane, ← hv] at same
  rw [← hv] at reported
  exact ⟨same.state.trans state, same.order.trans order, same.faultCode.trans coded, reported.span, reported.queue⟩

theorem takeFault_free (hc : code ≠ 0) (hq : s.queueInLaw) (hst : (s.crane x).state ∈ [.idle, .lost, .syncing, .faulted]) :
    ((s.takeFault x code bay level id k).crane x).FaultedBy code ((s.crane x).state ≠ .faulted) := by
  have notWaiting : (s.crane x).state ≠ .awaitYield := fun e => by simp [e] at hst
  have unqueued := not_queued_of_state (x := x) hq fun e => by simp [e] at hst
  obtain ⟨state, -, coded, -, out⟩ := reported_unqueued (code := code) (bay := bay) (level := level) (id := id) (k := k)
    unqueued rfl
  rw [takeFault_eq hc, if_neg notWaiting, ← state]
  exact applyFault_free out (state ▸ hst) coded

theorem takeFault_waiting (hc : code ≠ 0) (hq : s.queueInLaw) (hst : (s.crane x).state = .awaitYield)
    (ho : (s.crane x).order ≠ none) : ((s.takeFault x code bay level id k).crane x).FaultedBy code True
      ∧ ((s.takeFault x code bay level id k).crane x).order = none
      ∧ (s.takeFault x code bay level id k).pairOf (aisleOf x) = none := by
  obtain ⟨-, order, coded, -, engine, -⟩ := faultCoded_facts s x code id k
  obtain ⟨o, ho⟩ := Option.ne_none_iff_exists'.1 ho
  rw [takeFault_eq hc, if_pos hst]
  refine faultWaiting_facts (order.trans ho) ?_ coded bay level
  rw [engine]
  exact not_queued_of_state hq (by rw [hst]; nofun)

theorem takeFault_queued (hc : code ≠ 0) (hq : s.queueInLaw) (hst : (s.crane x).state = .queued)
    (ho : (s.crane x).order = none) (entered : Prop) :
    ((s.takeFault x code bay level id k).crane x).FaultedBy code entered := by
  obtain ⟨state, -, coded, -, engine, -⟩ := faultCoded_facts s x code id k
  obtain ⟨standing, -, -⟩ := hq
  have once : ((s.faultCoded x code id k).takePosition x bay.toNat level.toNat).QueuedOnce x := by
    unfold State.QueuedOnce State.underEvaluation
    rw [engine_takePosition, engine]
    intro evaluated e he hx
    have apart := (standing e he).2
    rw [hx] at apart
    exact absurd (apart.symm.trans evaluated) Bool.false_ne_true
  have same := sameButPlace_takePosition (s.faultCoded x code id k) x bay.toNat level.toNat
  rw [takeFault_eq hc, if_neg (by rw [hst]; nofun), faultCount_free ho]
  refine applyFault_queued (same.state.trans (state.trans hst)) (same.faultCode.trans coded) ?_ entered
  unfold State.reportPosition State.shrunkFrom
  split
  · exact queued_trigger (sibling_ne x) once
  · exact .inl ⟨rfl, once⟩

/-- The span that a crane with an order comes to by a report does not turn on its context. -/
theorem spanOf_takePosition_congr {u v : State} (hs : v.spans = u.spans) (hg : v.cost = u.cost)
    (hu : (u.crane x).order ≠ none) (hv : (v.crane x).order ≠ none) (b l : Nat) :
    (v.takePosition x b l).spanOf x = (u.takePosition x b l).spanOf x := by
  have geometry (a : Aisle) : v.geometryOf a = u.geometryOf a := congrArg (·.geometry.get a) hg
  have span (y : Crane) : v.spanOf y = u.spanOf y := congrArg (·.span.get y) hs
  have ranged (w : State) (y : Crane) : (w.reportRange x b l).spanOf y = w.spanOf y := spanOf_reportRange ..
  have clear (sp : Span) : (v.reportRange x b l).clear x sp = (u.reportRange x b l).clear x sp := by
    rw [clear_reportRange, clear_reportRange]
    simp only [State.clear, geometry, span]
  rw [takePosition_bound (.inl hu), takePosition_bound (.inl hv), geometry]
  unfold State.takeInRange
  rw [ranged, ranged, span]
  cases hx : u.spanOf x with
  | absent => exact (ranged v x).trans ((span x).trans (ranged u x).symm)
  | unknown =>
    dsimp only
    rw [clear]
    split
    · rw [State.spanOf_setSpan_self, State.spanOf_setSpan_self]
    · exact (ranged v x).trans ((span x).trans (ranged u x).symm)
  | bays lo hi =>
    have kept (c c' : Nat) (w w' : State) (hw : w.spanOf x = v.spanOf x) (hw' : w'.spanOf x = u.spanOf x) :
        (w.setPosition x c l).spanOf x = (w'.setPosition x c' l).spanOf x := hw.trans ((span x).trans hw'.symm)
    dsimp only
    rw [clear]
    split
    · exact (ranged v x).trans ((span x).trans (ranged u x).symm)
    · split
      · exact (State.spanOf_setSpan_self ..).trans (State.spanOf_setSpan_self ..).symm
      · exact (ranged v x).trans ((span x).trans (ranged u x).symm)

theorem takeFault_bound {o : Order} (hc : code ≠ 0) (hq : s.queueInLaw) (ho : (s.crane x).order = some o)
    (hst : (s.crane x).state ∈ [.ordered, .running, .yielding, .homing]) (hp : ∀ y, o.yieldPartner = some y → y = sibling x) :
    ((s.takeFault x code bay level id k).crane x).FaultedBy code True
      ∧ (s.takeFault x code bay level id k).spanOf x = (s.takePosition x bay.toNat level.toNat).spanOf x
      ∧ ∃ q, ((s.takeFault x code bay level id k).crane x).order = some q ∧ o.FaultedTo q (s.faultCount x id k) := by
  have notWaiting : (s.crane x).state ≠ .awaitYield := fun e => by simp [e] at hst
  have unqueued := not_queued_of_state (x := x) hq fun e => by simp [e] at hst
  obtain ⟨-, order', -, spans, -, kept⟩ := faultCoded_facts s x code id k
  obtain ⟨state, order, coded, span, out⟩ := reported_unqueued (code := code) (bay := bay) (level := level) (id := id)
    (k := k) unqueued rfl
  obtain ⟨faulted, span', suspended⟩ := applyFault_bound (s.faultCount x id k) (order.trans ho) (state ▸ hst) hp coded out
  rw [takeFault_eq hc, if_neg notWaiting]
  refine ⟨faulted, (span'.trans span).trans ?_, suspended⟩
  exact spanOf_takePosition_congr spans kept.cost (by rw [ho]; nofun) (by rw [order', ho]; nofun) ..

/-- A FAULT makes an enrolled crane FAULTED with its code. -/
theorem faultedBy_takeFault (law : s.ordersInLaw) (hc : code ≠ 0) (hst : (s.crane x).state ≠ .offline) :
    ((s.takeFault x code bay level id k).crane x).FaultedBy code ((s.crane x).state ≠ .faulted) := by
  obtain ⟨queue, bound, free, -, partner⟩ := law
  have whatever {c : CraneCtx} {p : Prop} (h : c.FaultedBy code True) : c.FaultedBy code p :=
    ⟨h.state, h.code, fun _ => h.cause trivial⟩
  by_cases hf : (s.crane x).state ∈ [.idle, .lost, .syncing, .faulted]
  · exact takeFault_free hc queue hf
  by_cases hb : (s.crane x).state ∈ [.ordered, .running, .yielding, .homing]
  · obtain ⟨o, ho⟩ := Option.ne_none_iff_exists'.1 (bound x (List.mem_cons_of_mem _ hb))
    exact whatever (takeFault_bound hc queue ho hb fun w hw => (partner x o w ho hw).1).1
  by_cases hw : (s.crane x).state = .awaitYield
  · exact whatever (takeFault_waiting hc queue hw (bound x (by rw [hw]; decide))).1
  have hq : (s.crane x).state = .queued := by
    cases h : (s.crane x).state <;> simp_all
  exact takeFault_queued hc queue hq (free x (by rw [hq]; decide)) _

end

/-! ## The obligation -/

/-- Settles O50: a FAULT by the crane's state, its anomalies, and a FAULT CLEAR by the crane's state and order. -/
theorem faultsAndTheirClearing : Obligations.FaultsAndTheirClearing := by
  refine ⟨fun x code bay level legsDone id s law hc enrolled => ?_,
    fun x code bay level legsDone id s g misfit misnamed atBay hfit hname hg hc => ?_, fun s x cause => rfl,
    fun x bay level s t cause atBay ht => ⟨fun h => ?_, fun h => ?_, fun h => ?_⟩⟩
  · generalize hu : s.setSilence x 0 = u
    have law' : u.ordersInLaw := hu ▸ law
    have crane : u.crane x = s.crane x := hu ▸ rfl
    obtain ⟨queue, -, -, -, partner⟩ := law'
    have faulted := faultedBy_takeFault (bay := bay) (level := level) (id := id) (k := legsDone.toNat) (hu ▸ law : u.ordersInLaw) hc
      (crane ▸ enrolled)
    have kept : StoreKept False u (u.takeFault x code bay level id legsDone.toNat) := storeKept_takeFault hc
    rw [exec_fault_enrolled enrolled, hu]
    rw [crane] at faulted
    refine ⟨_, rfl, faulted.state, faulted.code, hu ▸ kept.cost, hu ▸ kept.lanes, ?_, fun y hy => ?_, faulted.cause,
      fun hw ho => ?_, fun o k ho hb hk => ?_⟩
    · rw [kept.sup, ← hu]
      rfl
    · rw [State.silenceOf, kept.sup, ← hu]
      exact (State.silenceOf_setSilence ..).trans (if_neg hy.symm)
    · exact (takeFault_waiting hc queue (crane ▸ hw) (crane ▸ ho)).2
    · have ho' : (u.crane x).order = some o := crane ▸ ho
      obtain ⟨-, span, q, hq, after⟩ := takeFault_bound (bay := bay) (level := level) (id := id) (k := legsDone.toNat) hc queue ho'
        (crane ▸ hb) fun w hw => (partner x o w ho' hw).1
      rw [faultCount_eq ho', ← hk] at after
      refine ⟨q, hq, after.id, span.trans ?_, after.suspended, after.waiting⟩
      exact spanOf_takePosition_congr (hu ▸ rfl) (hu ▸ rfl) (by rw [ho]; nofun) (by rw [ho']; nofun) ..
  · generalize hu : s.setSilence x 0 = u at hg
    have crane : u.crane x = s.crane x := hu ▸ rfl
    have atBay' : u.QueuedAtBay x := hu ▸ atBay
    have coded (h : (s.crane x).state ≠ .syncing) : u.faultCoded x code id legsDone.toNat = g.withFaultCode x code := by
      rw [hg]
      exact faultCoded_eq (by rw [crane]; exact hfit) (by rw [crane]; exact hname) (crane ▸ h)
    refine ⟨fun h => ?_, fun h => ?_, fun h => ?_⟩
    · rw [exec_fault_enrolled (fun e => by simp [e] at h), hu]
      exact ⟨_, rfl, anomalies_takeFault hc (fun e => by simp [← crane, e] at h) (coded fun e => by simp [e] at h)⟩
    · rw [exec_fault_enrolled (by rw [h]; nofun), hu, takeFault_faulted hc atBay' (crane ▸ h), coded (by rw [h]; nofun)]
      rfl
    · rw [exec_fault_enrolled (by rw [h]; nofun), hu, takeFault_lost hc atBay' (crane ▸ h), coded (by rw [h]; nofun)]
      rfl
  all_goals
    generalize hu : s.setSilence x 0 = u at ht
    have crane : u.crane x = s.crane x := hu ▸ rfl
    have atBay' : u.QueuedAtBay x := hu ▸ atBay
    have enrolled : (s.crane x).state ≠ .offline := fun e => by simp [e] at h
    rw [← crane] at h
    rw [exec_faultClear_enrolled enrolled, hu]
  · rw [takeFaultClear_working h, ht]
  · rw [takeFaultClear_syncing atBay' h ht]
  · rw [← crane]
    have same : (t.crane x).SameButPlace (u.crane x) := ht ▸ sameButPlace_reportPosition atBay' ..
    rw [takeFaultClear_failed h, ← ht]
    refine ⟨fun o ho => ?_, fun ho hs => ?_, fun ho hs => ?_⟩
    · rw [clearFault_order (same.order.trans ho), stateOfKind_cleared]
      rfl
    · rw [clearFault_without cause (same.order.trans ho), if_pos hs]
    · rw [clearFault_without cause (same.order.trans ho), if_neg hs]

end Sys2Proof.Machine

namespace Sys2Proof.Machine

/-! ## The law of the rail with cranes in hand (R2, R57 to R59, R63)

Within a step a crane is for a while between two states of the law: its order has left and it is not yet IDLE, or it is LOST
and its yield has not failed yet. Triggers act meanwhile. So the law is stated with the cranes that are in hand, which are
excused from what their state asks of their order, their span and their yield pair, and which no trigger reaches. -/

/-- A span of the crane at an end of an aisle is separated from a span of its sibling (R59). -/
def apartAt (g : Geometry) (e : RailEnd) (mine other : Span) : Bool :=
  match e with
  | .near => separated g mine other
  | .far => separated g other mine

theorem clear_eq_apartAt (s : State) (x : Crane) (sp : Span) :
    s.clear x sp = apartAt (s.geometryOf (aisleOf x)) (endOf x) sp (s.spanOf (sibling x)) := by
  unfold State.clear apartAt
  cases endOf x <;> rfl

theorem apartAt_sibling (g : Geometry) (x : Crane) (a b : Span) : apartAt g (endOf (sibling x)) a b = apartAt g (endOf x) b a := by
  have other : endOf (sibling x) = match endOf x with | .near => .far | .far => .near := by revert x; decide
  rw [other]
  cases endOf x <;> rfl

/-- An interval inside one that is apart. -/
theorem apartAt_mine {g : Geometry} {e : RailEnd} {a b c d : Nat} {sp : Span} (h : apartAt g e (.bays a b) sp = true)
    (hc : a ≤ c) (hd : d ≤ b) : apartAt g e (.bays c d) sp = true := by
  cases e
  · exact separated_bays_left h hd
  · exact separated_bays_right h hc

theorem apartAt_other {g : Geometry} {e : RailEnd} {a b c d : Nat} {sp : Span} (h : apartAt g e sp (.bays a b) = true)
    (hc : a ≤ c) (hd : d ≤ b) : apartAt g e sp (.bays c d) = true := by
  cases e
  · exact separated_bays_right h hc
  · exact separated_bays_left h hd

namespace State

/-- The crane waits for its sibling to step aside (R63). -/
def waitsAt (s : State) (x : Crane) : Prop := ∃ r, s.pairOf (aisleOf x) = some r ∧ r.waiting = x

/-- The span that the sibling keeps clear of: the crane's own, but of a waiting crane its position bay alone (R57). -/
def guardOf (s : State) (x : Crane) : Span :=
  match s.pairOf (aisleOf x), (s.crane x).position with
  | some r, some p => if r.waiting = x then .bays p.bay p.bay else s.spanOf x
  | _, _ => s.spanOf x

theorem guardOf_waiting {s : State} {x : Crane} {p : Position} (h : s.waitsAt x) (hp : (s.crane x).position = some p) :
    s.guardOf x = .bays p.bay p.bay := by
  obtain ⟨r, hr, hw⟩ := h
  simp only [guardOf, hr, hp, hw, if_pos]

theorem guardOf_other {s : State} {x : Crane} (h : ¬s.waitsAt x) : s.guardOf x = s.spanOf x := by
  unfold guardOf
  split
  · rename_i r p hr hp
    exact if_neg fun e => h ⟨r, hr, e⟩
  · rfl

/-- What the span, the position and the state of a crane say of each other, whether it is in hand or not. -/
structure PlacedAt (s : State) (x : Crane) : Prop where
  onRail : ∀ p, (s.crane x).position = some p → p.bay ≤ (s.geometryOf (aisleOf x)).bays + 1
  absent : s.spanOf x = .absent ↔ (s.crane x).state = .offline
  known : (s.crane x).position ≠ none ↔ ∃ lo hi, s.spanOf x = .bays lo hi

/-- What a crane's state asks of its order, its span and its yield pair (R57, R58, R63, R124). -/
structure SettledAt (s : State) (x : Crane) : Prop where
  bound : (s.crane x).state ∈ [.awaitYield, .ordered, .running, .yielding, .homing] → (s.crane x).order ≠ none
  free : (s.crane x).state ∈ [.offline, .syncing, .idle, .queued] → (s.crane x).order = none
  waits : ∀ o, (s.crane x).order = some o → (o.state = .awaitYield ↔ (s.crane x).state = .awaitYield)
  rests : (s.crane x).state ∈ [.idle, .queued] → ∃ p, (s.crane x).position = some p ∧ s.spanOf x = .bays p.bay p.bay
  placed : (s.crane x).order ≠ none → (s.crane x).position ≠ none
  paired : (s.crane x).state = .awaitYield → s.waitsAt x

/-- The partner that an order names is the sibling, which waits (R63). -/
def PartnerAt (s : State) (y : Crane) : Prop :=
  ∀ o w, (s.crane y).order = some o → o.yieldPartner = some w →
    w = sibling y ∧ (s.crane w).state = .awaitYield ∧ ∃ r, s.pairOf (aisleOf y) = some r ∧ r.waiting = w

/-- A crane yields for another: its YIELD order is SENT or RUNNING and names it (R63). -/
def YieldsFor (s : State) (y w : Crane) : Prop :=
  (s.crane y).state = .yielding ∧ ∃ o, (s.crane y).order = some o ∧ o.kind = .yield
    ∧ (o.state = .sent ∨ o.state = .running) ∧ o.yieldPartner = some w

/-- A yield pair of an aisle: its waiting crane is not in hand. -/
structure PairAt (held : List Crane) (s : State) (a : Aisle) (r : YieldPair) : Prop where
  aisle : aisleOf r.waiting = a
  sibling : r.yielding = sibling r.waiting
  waiting : (s.crane r.waiting).state = .awaitYield
  out : r.waiting ∉ held
  yields : r.yielding ∉ held → s.YieldsFor r.yielding r.waiting

/-- A crane neither stands in the queue nor is under evaluation. -/
def OutsideEngine (s : State) (x : Crane) : Prop :=
  (∀ e ∈ s.engine.queue, e.crane ≠ x) ∧ ∀ p, s.engine.pass = some p → p.crane ≠ x

/-- The guarded spans of a crane and its sibling are separated where both positions are known. -/
def ApartAt (s : State) (x : Crane) : Prop :=
  (s.crane x).position ≠ none → (s.crane (sibling x)).position ≠ none →
    apartAt (s.geometryOf (aisleOf x)) (endOf x) (s.guardOf x) (s.guardOf (sibling x)) = true

theorem apartAt_iff_sibling (s : State) (x : Crane) : s.ApartAt (sibling x) ↔ s.ApartAt x := by
  unfold ApartAt
  rw [sibling_sibling, aisleOf_sibling, apartAt_sibling]
  exact forall_comm

end State

/-- The law of the rail but for the cranes in hand. -/
structure RailLaw (held : List Crane) (s : State) : Prop where
  queue : s.queueInLaw
  spans : s.spansInLaw
  place : ∀ x, s.PlacedAt x
  settled : ∀ x, x ∉ held → s.SettledAt x
  out : ∀ x ∈ held, s.OutsideEngine x
  busy : ∀ x ∈ held, (s.crane x).state ≠ .idle
  partner : ∀ y, s.PartnerAt y
  pair : ∀ a r, s.pairOf a = some r → s.PairAt held a r
  apart : ∀ x, s.ApartAt x

namespace RailLaw

variable {held : List Crane} {s t : State} {x y : Crane}

/-! ### Yield pairs -/

/-- A waiting crane is in AWAIT YIELD and not in hand. -/
theorem of_waitsAt (h : RailLaw held s) (hw : s.waitsAt x) : (s.crane x).state = .awaitYield ∧ x ∉ held := by
  obtain ⟨r, hr, rfl⟩ := hw
  exact ⟨(h.pair _ r hr).waiting, (h.pair _ r hr).out⟩

theorem not_waitsAt (h : RailLaw held s) (hx : (s.crane x).state ≠ .awaitYield) : ¬s.waitsAt x :=
  fun hw => hx (h.of_waitsAt hw).1

theorem not_waitsAt_held (h : RailLaw held s) (hx : x ∈ held) : ¬s.waitsAt x := fun hw => (h.of_waitsAt hw).2 hx

/-- The crane of a pair that does not wait is the one that yields. -/
theorem yielding_of_pair (h : RailLaw held s) {r : YieldPair} (hr : s.pairOf (aisleOf x) = some r) (hx : ¬s.waitsAt x) :
    r.yielding = x ∧ r.waiting = sibling x := by
  have pair := h.pair _ r hr
  have other : r.waiting ≠ x := fun e => hx ⟨r, hr, e⟩
  have waiting := eq_sibling other pair.aisle
  exact ⟨by rw [pair.sibling, waiting, sibling_sibling], waiting⟩

/-- A crane that is neither in hand nor waits nor yields has no pair beside it. -/
theorem no_pair (h : RailLaw held s) (hx : x ∉ held) (hs : (s.crane x).state ≠ .awaitYield)
    (hy : ∀ w, ¬s.YieldsFor x w) : s.pairOf (aisleOf x) = none := by
  cases hr : s.pairOf (aisleOf x) with
  | none => rfl
  | some r =>
    obtain ⟨rfl, -⟩ := h.yielding_of_pair hr (h.not_waitsAt hs)
    exact absurd ((h.pair _ r hr).yields hx) (hy _)

theorem no_pair_of_state (h : RailLaw held s) (hx : x ∉ held) (hs : (s.crane x).state ≠ .awaitYield)
    (hy : (s.crane x).state ≠ .yielding) : s.pairOf (aisleOf x) = none :=
  h.no_pair hx hs fun _ k => hy k.1

end RailLaw

/-! ### The law without a crane in hand -/

section

variable {s : State}

theorem State.pairInLaw_iff {r : YieldPair} {x : Crane} (hx : x = r.waiting) (hr : s.pairOf (aisleOf x) = some r) :
    s.pairInLaw r ↔ r.yielding = sibling x ∧ (s.crane x).state = .awaitYield ∧ s.YieldsFor r.yielding x
      ∧ ∃ p, (s.crane x).position = some p
        ∧ apartAt (s.geometryOf (aisleOf x)) (endOf x) (s.guardOf x) (s.guardOf (sibling x)) = true := by
  subst hx
  have yields : ¬s.waitsAt (sibling r.waiting) := by
    rintro ⟨q, hq, e⟩
    rw [aisleOf_sibling] at hq
    cases hr.symm.trans hq
    exact sibling_ne _ e.symm
  unfold State.pairInLaw State.YieldsFor
  simp only [and_assoc, separatedAt_setSpan, clear_eq_apartAt, State.guardOf_other yields]
  refine and_congr_right fun _ => and_congr_right fun _ => and_congr_right fun _ => and_congr_right fun _ =>
    exists_congr fun p => and_congr_right fun hp => ?_
  rw [State.guardOf_waiting ⟨r, hr, rfl⟩ hp]

theorem State.apartAt_of_no_pair {x : Crane} (hr : s.pairOf (aisleOf x) = none) :
    apartAt (s.geometryOf (aisleOf x)) (endOf x) (s.guardOf x) (s.guardOf (sibling x)) = true ↔ s.separatedAt (aisleOf x) := by
  have mine : ¬s.waitsAt x := fun ⟨r, k, _⟩ => by cases hr.symm.trans k
  have other : ¬s.waitsAt (sibling x) := fun ⟨r, k, _⟩ => by cases hr.symm.trans (aisleOf_sibling x ▸ k)
  rw [State.guardOf_other mine, State.guardOf_other other, separatedAt_iff_clear, clear_eq_apartAt]

/-- The two cranes of an aisle, from either. -/
theorem both_ends (p : Crane → Prop) (x : Crane) :
    (p (craneAt (aisleOf x) .near) ∧ p (craneAt (aisleOf x) .far)) ↔ p x ∧ p (sibling x) := by
  have ends : (craneAt (aisleOf x) .near = x ∧ craneAt (aisleOf x) .far = sibling x)
      ∨ (craneAt (aisleOf x) .near = sibling x ∧ craneAt (aisleOf x) .far = x) := by revert x; decide
  obtain ⟨near, far⟩ | ⟨near, far⟩ := ends <;> rw [near, far]
  exact and_comm

theorem railLaw_of_railInLaw (h : s.railInLaw) : RailLaw [] s := by
  obtain ⟨⟨queue, bound, free, waits, partner⟩, spans, onRail, absent, known, rests, placed, paired, named, pairs⟩ := h
  have pair (a : Aisle) (r : YieldPair) (hr : s.pairOf a = some r) : aisleOf r.waiting = a ∧ s.pairInLaw r := by
    have := pairs a
    rwa [hr] at this
  refine ⟨queue, spans, fun x => ⟨onRail x, absent x, known x⟩, fun x _ => ⟨bound x, free x, waits x, rests x, placed x, paired x⟩,
    nofun, nofun, fun y o w ho hw => ?_, fun a r hr => ?_, fun x hx hy => ?_⟩
  · obtain ⟨sib, state⟩ := partner y o w ho hw
    exact ⟨sib, state, named y o w ho hw⟩
  · obtain ⟨rfl, law⟩ := pair a r hr
    obtain ⟨sib, state, yields, -⟩ := (State.pairInLaw_iff rfl hr).1 law
    exact ⟨rfl, sib, state, nofun, fun _ => yields⟩
  · cases hr : s.pairOf (aisleOf x) with
    | none =>
      have := pairs (aisleOf x)
      rw [hr] at this
      obtain ⟨near, far⟩ := (both_ends (fun z => (s.crane z).position ≠ none) x).2 ⟨hx, hy⟩
      exact (State.apartAt_of_no_pair hr).2 (this near far)
    | some r =>
      obtain ⟨aisle, law⟩ := pair _ r hr
      obtain ⟨-, -, -, p, hp, apart⟩ := (State.pairInLaw_iff rfl (aisle ▸ hr)).1 law
      by_cases e : r.waiting = x
      · exact e ▸ apart
      · rw [eq_sibling e aisle] at apart
        exact (s.apartAt_iff_sibling x).1 (fun _ _ => apart) hx hy

theorem RailLaw.railInLaw (h : RailLaw [] s) : s.railInLaw := by
  have settled (x : Crane) := h.settled x List.not_mem_nil
  refine ⟨⟨h.queue, fun x => (settled x).bound, fun x => (settled x).free, fun x => (settled x).waits,
    fun y o w ho hw => ⟨(h.partner y o w ho hw).1, (h.partner y o w ho hw).2.1⟩⟩, h.spans, fun x => (h.place x).onRail,
    fun x => (h.place x).absent, fun x => (h.place x).known, fun x => (settled x).rests, fun x => (settled x).placed,
    fun x => (settled x).paired, fun y o w ho hw => (h.partner y o w ho hw).2.2, fun a => ?_⟩
  split
  · rename_i r hr
    obtain ⟨rfl, sib, state, -, yields⟩ := h.pair a r hr
    have yields := yields List.not_mem_nil
    have placed : (s.crane r.waiting).position ≠ none :=
      (settled _).placed ((settled _).bound (by rw [state]; decide))
    have beside : (s.crane (sibling r.waiting)).position ≠ none := by
      obtain ⟨-, o, ho, -⟩ := sib ▸ yields
      exact (settled _).placed (by rw [ho]; nofun)
    obtain ⟨p, hp⟩ := Option.ne_none_iff_exists'.1 placed
    exact ⟨rfl, (State.pairInLaw_iff rfl hr).2 ⟨sib, state, yields, p, hp, h.apart _ placed beside⟩⟩
  · rename_i hr
    intro near far
    have aisle : aisleOf (craneAt a .near) = a := (by decide : ∀ b : Aisle, aisleOf (craneAt b .near) = b) a
    obtain ⟨hx, hy⟩ := (both_ends (fun z => (s.crane z).position ≠ none) (craneAt a .near)).1 (by rw [aisle]; exact ⟨near, far⟩)
    have apart := (State.apartAt_of_no_pair (by rw [aisle]; exact hr)).1 (h.apart _ hx hy)
    rwa [aisle] at apart

end

end Sys2Proof.Machine

namespace Sys2Proof.Machine

/-! ### What one crane changes -/

/-- Two states differ, as far as the rail goes, at one crane only. -/
structure SameElsewhere (x : Crane) (s t : State) : Prop where
  crane : ∀ y, y ≠ x → t.crane y = s.crane y
  span : ∀ y, y ≠ x → t.spanOf y = s.spanOf y
  pair : t.spans.pair = s.spans.pair
  geometry : t.cost.geometry = s.cost.geometry

namespace SameElsewhere

variable {x : Crane} {s t : State}

theorem refl (x : Crane) (s : State) : SameElsewhere x s s := ⟨fun _ _ => rfl, fun _ _ => rfl, rfl, rfl⟩

theorem trans {u : State} (h : SameElsewhere x s t) (k : SameElsewhere x t u) : SameElsewhere x s u where
  crane y hy := (k.crane y hy).trans (h.crane y hy)
  span y hy := (k.span y hy).trans (h.span y hy)
  pair := k.pair.trans h.pair
  geometry := k.geometry.trans h.geometry

theorem setCrane (h : SameElsewhere x s t) {c : CraneCtx} : SameElsewhere x s (t.setCrane x c) :=
  h.trans ⟨fun _ hy => (State.crane_setCrane ..).trans (if_neg hy.symm), fun _ _ => rfl, rfl, rfl⟩

theorem modCrane (h : SameElsewhere x s t) {f : CraneCtx → CraneCtx} : SameElsewhere x s (t.modCrane x f) := h.setCrane

theorem setSpan (h : SameElsewhere x s t) {sp : Span} : SameElsewhere x s (t.setSpan x sp) :=
  h.trans ⟨fun _ _ => rfl, fun _ hy => (State.spanOf_setSpan ..).trans (if_neg hy.symm), rfl, rfl⟩

/-- A change of what holds no crane, no span and no geometry. -/
theorem elsewhere (h : SameElsewhere x s t) (u : State) (hc : u.orders.cranes = t.orders.cranes := by rfl)
    (hs : u.spans = t.spans := by rfl) (hg : u.cost.geometry = t.cost.geometry := by rfl) : SameElsewhere x s u :=
  h.trans ⟨fun y _ => congrArg (Vector.get · y) hc, fun y _ => congrArg (·.span.get y) hs, congrArg (·.pair) hs, hg⟩

theorem pairOf (h : SameElsewhere x s t) (a : Aisle) : t.pairOf a = s.pairOf a := congrArg (Vector.get · a) h.pair

theorem geometryOf (h : SameElsewhere x s t) (a : Aisle) : t.geometryOf a = s.geometryOf a :=
  congrArg (Vector.get · a) h.geometry

theorem waitsAt (h : SameElsewhere x s t) (y : Crane) : t.waitsAt y ↔ s.waitsAt y := by
  unfold State.waitsAt
  rw [h.pairOf]

theorem guardOf (h : SameElsewhere x s t) {y : Crane} (hy : y ≠ x) : t.guardOf y = s.guardOf y := by
  unfold State.guardOf
  rw [h.pairOf, h.crane y hy, h.span y hy]

end SameElsewhere

/-! ### Where a crane stands -/

/-- A crane's position and span: on the rail, one within the other, and apart from the sibling. -/
structure State.StandsAt (s : State) (x : Crane) : Prop where
  place : s.PlacedAt x
  within : InSpan (s.crane x).position (s.spanOf x)
  apart : s.ApartAt x

namespace State.StandsAt

variable {s t : State} {x : Crane}

/-- The same position and span with the same beside them. -/
theorem same (h : s.StandsAt x) (e : SameElsewhere x s t) (hp : (t.crane x).position = (s.crane x).position)
    (hs : t.spanOf x = s.spanOf x) (ho : (t.crane x).state = .offline ↔ (s.crane x).state = .offline) : t.StandsAt x := by
  obtain ⟨⟨onRail, absent, known⟩, within, apart⟩ := h
  have guard : t.guardOf x = s.guardOf x := by
    unfold State.guardOf
    rw [e.pairOf, hp, hs]
  refine ⟨⟨?_, ?_, ?_⟩, ?_, ?_⟩
  · rw [hp, e.geometryOf]; exact onRail
  · rw [hs, ho]; exact absent
  · rw [hp, hs]; exact known
  · rw [hp, hs]; exact within
  · unfold State.ApartAt
    rw [hp, guard, e.geometryOf, e.guardOf (sibling_ne x), e.crane _ (sibling_ne x)]
    exact apart

/-- A crane that does not wait stands apart where its span is apart from its sibling's guarded span. -/
theorem of_span (e : SameElsewhere x s t) (hw : ¬s.waitsAt x) {p : Position} {lo hi : Nat} (hp : (t.crane x).position = some p)
    (hs : t.spanOf x = .bays lo hi) (hlo : lo ≤ p.bay) (hhi : p.bay ≤ hi)
    (rail : p.bay ≤ (s.geometryOf (aisleOf x)).bays + 1) (ho : (t.crane x).state ≠ .offline)
    (apart : (s.crane (sibling x)).position ≠ none →
      apartAt (s.geometryOf (aisleOf x)) (endOf x) (.bays lo hi) (s.guardOf (sibling x)) = true) : t.StandsAt x := by
  refine ⟨⟨fun q hq => ?_, ?_, ?_⟩, ?_, fun _ beside => ?_⟩
  · cases hp.symm.trans hq
    rw [e.geometryOf]
    exact rail
  · rw [hs]
    exact iff_of_false nofun ho
  · rw [hp, hs]
    exact iff_of_true nofun ⟨lo, hi, rfl⟩
  · rw [hs]
    exact .bays (hlo.trans hhi) fun q hq => by
      cases hp.symm.trans hq
      exact ⟨hlo, hhi⟩
  · rw [e.crane _ (sibling_ne x)] at beside
    rw [State.guardOf_other fun k => hw ((e.waitsAt x).1 k), hs, e.geometryOf, e.guardOf (sibling_ne x)]
    exact apart beside

/-- A crane without a position, and so without an interval. -/
theorem unplaced (hp : (t.crane x).position = none) (hs : ∀ lo hi, t.spanOf x ≠ .bays lo hi)
    (ho : t.spanOf x = .absent ↔ (t.crane x).state = .offline) : t.StandsAt x := by
  refine ⟨⟨fun q hq => ?_, ho, ?_⟩, fun lo hi e => absurd e (hs lo hi), fun k => absurd hp k⟩
  · cases hp.symm.trans hq
  · rw [hp]
    exact iff_of_false (fun k => k rfl) fun ⟨lo, hi, e⟩ => hs lo hi e

end State.StandsAt

namespace RailLaw

variable {held held' : List Crane} {s t : State} {x y : Crane}

theorem stands (h : RailLaw held s) (x : Crane) : s.StandsAt x := ⟨h.place x, h.spans x, h.apart x⟩

/-- A known position lies in its span. -/
theorem span_of_position (h : RailLaw held s) {p : Position} (hp : (s.crane x).position = some p) :
    ∃ lo hi, s.spanOf x = .bays lo hi ∧ lo ≤ p.bay ∧ p.bay ≤ hi := by
  obtain ⟨lo, hi, hs⟩ := (h.place x).known.1 (by rw [hp]; nofun)
  exact ⟨lo, hi, hs, (h.spans x lo hi hs).2 p hp⟩

/-- What is apart from a crane's span is apart from its guarded span. -/
theorem apart_guard (h : RailLaw held s) {g : Geometry} {e : RailEnd} {sp : Span} (hy : (s.crane y).position ≠ none)
    (apart : apartAt g e sp (s.spanOf y) = true) : apartAt g e sp (s.guardOf y) = true := by
  by_cases hw : s.waitsAt y
  · obtain ⟨p, hp⟩ := Option.ne_none_iff_exists'.1 hy
    obtain ⟨lo, hi, hs, hlo, hhi⟩ := h.span_of_position hp
    rw [State.guardOf_waiting hw hp]
    exact apartAt_other (hs ▸ apart) hlo hhi
  · rwa [State.guardOf_other hw]

/-- A crane that is not QUEUED is outside the engine. -/
theorem outsideEngine (h : s.queueInLaw) (hx : (s.crane x).state ≠ .queued) : s.OutsideEngine x :=
  ⟨not_queued_of_state h hx, fun p hp e => hx (e ▸ h.2.2 p hp)⟩

/-- The queue's law goes by the states of the cranes in the engine. -/
theorem queueInLaw_of_states (h : s.queueInLaw)
    (hs : ∀ y, (s.crane y).state = .queued → (t.crane y).state = .queued ∨ s.OutsideEngine y)
    (hq : t.engine.queue = s.engine.queue) (hp : t.engine.pass.map (·.crane) = s.engine.pass.map (·.crane)) :
    t.queueInLaw := by
  obtain ⟨standing, nodup, passing⟩ := h
  have evaluated (y : Crane) : t.underEvaluation y = s.underEvaluation y := by
    unfold State.underEvaluation
    cases ht : t.engine.pass <;> cases hs : s.engine.pass <;> simp_all
  refine ⟨fun e he => ?_, hq ▸ nodup, fun p hpass => ?_⟩
  · rw [hq] at he
    obtain ⟨state, free⟩ := standing e he
    exact ⟨(hs _ state).resolve_right fun out => out.1 e he rfl, (evaluated _).trans free⟩
  · rw [hpass, Option.map_some] at hp
    obtain ⟨q, hq, hqp⟩ := Option.map_eq_some_iff.1 hp.symm
    exact (hs _ (hqp ▸ passing q hq)).resolve_right fun out => out.2 q hq hqp

/-- The law after one crane has changed. -/
theorem changed (h : RailLaw held s) (e : SameElsewhere x s t) (engine : t.engine = s.engine)
    (queued : (s.crane x).state = .queued → (t.crane x).state = .queued ∨ s.OutsideEngine x) (stands : t.StandsAt x)
    (hands : ∀ y, y ≠ x → (y ∈ held' ↔ y ∈ held)) (settled : x ∉ held' → t.SettledAt x)
    (out : x ∈ held' → s.OutsideEngine x ∧ (t.crane x).state ≠ .idle)
    (partner : ∀ o w, (t.crane x).order = some o → o.yieldPartner = some w →
      ∃ q, (s.crane x).order = some q ∧ q.yieldPartner = some w)
    (waits : s.waitsAt x → (t.crane x).state = .awaitYield ∧ x ∉ held')
    (yields : x ∉ held' → ∀ w, s.pairOf (aisleOf x) ≠ none → ¬s.waitsAt x → w = sibling x → t.YieldsFor x w) :
    RailLaw held' t := by
  have queue : t.queueInLaw := by
    refine queueInLaw_of_states h.queue (fun y hy => ?_) (by rw [engine]) (by rw [engine])
    by_cases hx : y = x
    · exact hx ▸ queued (hx ▸ hy)
    · exact .inl (e.crane y hx ▸ hy)
  refine ⟨queue, fun y => ?_, fun y => ?_, fun y hy => ?_, fun y hy => ?_, fun y hy => ?_, fun y o w ho hw => ?_, fun a r hr => ?_,
    fun y => ?_⟩
  · by_cases hx : y = x
    · exact hx ▸ stands.within
    · rw [e.crane y hx, e.span y hx]
      exact h.spans y
  · by_cases hx : y = x
    · exact hx ▸ stands.place
    · obtain ⟨onRail, absent, known⟩ := h.place y
      constructor
      · rwa [e.crane y hx, e.geometryOf]
      · rwa [e.crane y hx, e.span y hx]
      · rwa [e.crane y hx, e.span y hx]
  · by_cases hx : y = x
    · exact hx ▸ settled (hx ▸ hy)
    · obtain ⟨bound, free, waits, rests, placed, paired⟩ := h.settled y fun k => hy ((hands y hx).2 k)
      constructor <;> rw [e.crane y hx] <;> try assumption
      · rwa [e.span y hx]
      · rwa [e.waitsAt]
  · by_cases hx : y = x
    all_goals unfold State.OutsideEngine; rw [engine]
    · exact hx ▸ (out (hx ▸ hy)).1
    · exact h.out y ((hands y hx).1 hy)
  · by_cases hx : y = x
    · exact hx ▸ (out (hx ▸ hy)).2
    · rw [e.crane y hx]
      exact h.busy y ((hands y hx).1 hy)
  · have named : ∃ q, (s.crane y).order = some q ∧ q.yieldPartner = some w := by
      by_cases hx : y = x
      · exact hx ▸ partner o w (hx ▸ ho) hw
      · exact ⟨o, e.crane y hx ▸ ho, hw⟩
    obtain ⟨q, hq, hqw⟩ := named
    obtain ⟨rfl, state, r, hr, hrw⟩ := h.partner y q w hq hqw
    refine ⟨rfl, ?_, r, e.pairOf _ ▸ hr, hrw⟩
    by_cases hx : sibling y = x
    · rw [hx]
      exact (waits (hx ▸ ⟨r, (aisleOf_sibling y).symm ▸ hr, hrw⟩)).1
    · rw [e.crane _ hx]
      exact state
  · rw [e.pairOf] at hr
    obtain ⟨aisle, sib, state, notHeld, yielding⟩ := h.pair a r hr
    by_cases hx : r.waiting = x
    · have waiting : s.waitsAt x := ⟨r, hx ▸ aisle ▸ hr, hx⟩
      have other : r.yielding ≠ x := by rw [sib, hx]; exact sibling_ne x
      refine ⟨aisle, sib, hx ▸ (waits waiting).1, hx ▸ (waits waiting).2, fun k => ?_⟩
      obtain ⟨st, order⟩ := yielding fun m => k ((hands _ other).2 m)
      exact ⟨by rw [e.crane _ other]; exact st, by rw [e.crane _ other]; exact order⟩
    · refine ⟨aisle, sib, by rw [e.crane _ hx]; exact state, fun k => notHeld ((hands _ hx).1 k), fun k => ?_⟩
      by_cases hy : r.yielding = x
      · have beside : sibling x = r.waiting := by rw [← hy, sib, sibling_sibling]
        have pair : s.pairOf (aisleOf x) = some r := by rw [← hy, sib, aisleOf_sibling, aisle, hr]
        rw [hy]
        refine yields (hy ▸ k) _ (by rw [pair]; nofun) ?_ beside.symm
        rintro ⟨q, hq, hqw⟩
        cases pair.symm.trans hq
        exact hx hqw
      · obtain ⟨st, order⟩ := yielding fun m => k ((hands _ hy).2 m)
        exact ⟨by rw [e.crane _ hy]; exact st, by rw [e.crane _ hy]; exact order⟩
  · by_cases hx : y = x
    · exact hx ▸ stands.apart
    · by_cases hs : y = sibling x
      · rw [hs]
        exact (t.apartAt_iff_sibling x).2 stands.apart
      · have beside : sibling y ≠ x := fun k => hs (by rw [← k, sibling_sibling])
        unfold State.ApartAt
        rw [e.crane y hx, e.crane _ beside, e.geometryOf, e.guardOf hx, e.guardOf beside]
        exact h.apart y

/-- A change of what the law does not speak of. -/
theorem kept (h : RailLaw held s) (k : RailKept s t) : RailLaw held t := by
  have span (y : Crane) : t.spanOf y = s.spanOf y := congrArg (·.span.get y) k.spans
  have pairs (a : Aisle) : t.pairOf a = s.pairOf a := congrArg (·.pair.get a) k.spans
  have geometry (a : Aisle) : t.geometryOf a = s.geometryOf a := congrArg (Vector.get · a) k.geometry
  have waits (y : Crane) : t.waitsAt y ↔ s.waitsAt y := by
    unfold State.waitsAt
    rw [pairs]
  have guard (y : Crane) : t.guardOf y = s.guardOf y := by
    unfold State.guardOf
    rw [pairs, k.position, span]
  refine ⟨queueInLaw_of_states h.queue (fun y e => .inl ((k.state y).trans e)) k.queue k.pass, h.spans.kept k, fun y => ?_, fun y hy => ?_,
    fun y hy => ?_, fun y hy => (k.state y).symm ▸ h.busy y hy, fun y o w ho hw => ?_, fun a r hr => ?_, fun y => ?_⟩
  · obtain ⟨onRail, absent, known⟩ := h.place y
    constructor
    · rwa [k.position, geometry]
    · rwa [k.state, span]
    · rwa [k.position, span]
  · obtain ⟨bound, free, waiting, rests, placed, paired⟩ := h.settled y hy
    constructor
    · rwa [k.state, k.order]
    · rwa [k.state, k.order]
    · rwa [k.state, k.order]
    · rwa [k.state, k.position, span]
    · rwa [k.order, k.position]
    · rwa [k.state, waits]
  · obtain ⟨queue, pass⟩ := h.out y hy
    refine ⟨k.queue ▸ queue, fun p hp => ?_⟩
    have same := k.pass
    rw [hp, Option.map_some] at same
    obtain ⟨q, hq, hqp⟩ := Option.map_eq_some_iff.1 same.symm
    exact hqp ▸ pass q hq
  · obtain ⟨sib, state, pair⟩ := h.partner y o w (k.order y ▸ ho) hw
    exact ⟨sib, (k.state w).trans state, by rwa [pairs]⟩
  · obtain ⟨aisle, sib, state, out, yields⟩ := h.pair a r (pairs a ▸ hr)
    refine ⟨aisle, sib, (k.state _).trans state, out, fun m => ?_⟩
    obtain ⟨st, order⟩ := yields m
    exact ⟨(k.state _).trans st, by rwa [k.order]⟩
  · unfold State.ApartAt
    rw [k.position, k.position, geometry, guard, guard]
    exact h.apart y

/-! ### Taking a crane in hand and letting it go -/

theorem take (h : RailLaw held s) (hw : (s.crane x).state ≠ .awaitYield) (hi : (s.crane x).state ≠ .idle) (hq : s.OutsideEngine x) :
    RailLaw (x :: held) s :=
  h.changed (.refl x s) rfl .inl (h.stands x) (fun y hy => by simp [hy]) (fun k => absurd List.mem_cons_self k)
    (fun _ => ⟨hq, hi⟩) (fun o _ ho hw => ⟨o, ho, hw⟩) (fun k => absurd k (h.not_waitsAt hw))
    (fun k => absurd List.mem_cons_self k)

section

variable {c : CraneCtx} (hp : c.position = (s.crane x).position) (ho : c.state = .offline ↔ (s.crane x).state = .offline)
  (hw : ∀ o w, c.order = some o → o.yieldPartner = some w → ∃ q, (s.crane x).order = some q ∧ q.yieldPartner = some w)

include hp ho hw

/-- A crane in hand with another context, of the same place and with no partner named anew. -/
theorem setCrane (h : RailLaw held s) (hx : x ∈ held) (hi : c.state ≠ .idle) : RailLaw held (s.setCrane x c) := by
  have crane : (s.setCrane x c).crane x = c := State.crane_setCrane_self ..
  refine h.changed (SameElsewhere.refl x s).setCrane rfl (fun _ => .inr (h.out x hx))
    ((h.stands x).same (SameElsewhere.refl x s).setCrane (by rw [crane, hp]) rfl (by rw [crane, ho])) (fun _ _ => Iff.rfl)
    (fun k => absurd hx k) (fun _ => ⟨h.out x hx, by rw [crane]; exact hi⟩) (fun o w => ?_)
    (fun k => absurd k (h.not_waitsAt_held hx)) (fun k => absurd hx k)
  rw [crane]
  exact hw o w

/-- A crane in hand let go with a context that its state allows. -/
theorem letGo (h : RailLaw (x :: held) s) (hx : x ∉ held) (settled : (s.setCrane x c).SettledAt x)
    (yields : s.pairOf (aisleOf x) ≠ none → (s.setCrane x c).YieldsFor x (sibling x)) : RailLaw held (s.setCrane x c) := by
  have crane : (s.setCrane x c).crane x = c := State.crane_setCrane_self ..
  have mine : x ∈ x :: held := List.mem_cons_self
  refine h.changed (SameElsewhere.refl x s).setCrane rfl (fun _ => .inr (h.out x mine))
    ((h.stands x).same (SameElsewhere.refl x s).setCrane (by rw [crane, hp]) rfl (by rw [crane, ho])) (fun y hy => by simp [hy])
    (fun _ => settled) (fun k => absurd k hx) (fun o w => ?_) (fun k => absurd k (h.not_waitsAt_held mine))
    (fun _ w pair _ e => e ▸ yields pair)
  rw [crane]
  exact hw o w

/-- A crane that neither waits nor is in the engine, with another context that its state allows. -/
theorem restate (h : RailLaw held s) (hx : x ∉ held) (out : s.OutsideEngine x) (waits : (s.crane x).state ≠ .awaitYield)
    (settled : (s.setCrane x c).SettledAt x)
    (yields : s.pairOf (aisleOf x) ≠ none → (s.setCrane x c).YieldsFor x (sibling x)) : RailLaw held (s.setCrane x c) := by
  have crane : (s.setCrane x c).crane x = c := State.crane_setCrane_self ..
  refine h.changed (SameElsewhere.refl x s).setCrane rfl (fun _ => .inr out)
    ((h.stands x).same (SameElsewhere.refl x s).setCrane (by rw [crane, hp]) rfl (by rw [crane, ho])) (fun _ _ => Iff.rfl)
    (fun _ => settled) (fun k => absurd k hx) (fun o w => ?_) (fun k => absurd k (h.not_waitsAt waits))
    (fun _ w pair _ e => e ▸ yields pair)
  rw [crane]
  exact hw o w

end

/-- A crane in hand let go as it stands. -/
theorem release (h : RailLaw (x :: held) s) (hx : x ∉ held) (settled : s.SettledAt x)
    (yields : s.pairOf (aisleOf x) ≠ none → s.YieldsFor x (sibling x)) : RailLaw held s :=
  h.changed (.refl x s) rfl .inl (h.stands x) (fun y hy => by simp [hy]) (fun _ => settled) (fun k => absurd k hx)
    (fun o _ ho hw => ⟨o, ho, hw⟩) (fun k => absurd k (h.not_waitsAt_held List.mem_cons_self)) (fun _ w pair _ e => e ▸ yields pair)

/-- An engine that takes no crane in hand. -/
theorem setEngine (h : RailLaw held s) {e : Engine} (hq : (s.setEngine e).queueInLaw)
    (out : ∀ x ∈ held, (s.setEngine e).OutsideEngine x) : RailLaw held (s.setEngine e) :=
  ⟨hq, h.spans, fun x => have k := h.place x; ⟨k.onRail, k.absent, k.known⟩,
    fun x hx => have k := h.settled x hx; ⟨k.bound, k.free, k.waits, k.rests, k.placed, k.paired⟩, out, h.busy, h.partner,
    fun a r hr => have k := h.pair a r hr; ⟨k.aisle, k.sibling, k.waiting, k.out, k.yields⟩, h.apart⟩

end RailLaw

end Sys2Proof.Machine

namespace Sys2Proof.Machine

/-! ### Cranes that a state settles -/

namespace State.SettledAt

variable {s : State} {x : Crane}

/-- A FAULTED or LOST crane may hold any order but a waiting one, and then has a known position. -/
theorem failed (hs : (s.crane x).state = .faulted ∨ (s.crane x).state = .lost)
    (ho : ∀ o, (s.crane x).order = some o → o.state ≠ .awaitYield) (hp : (s.crane x).order ≠ none → (s.crane x).position ≠ none) :
    s.SettledAt x := by
  obtain e | e := hs <;>
    exact ⟨by simp [e], by simp [e], fun o k => by simp [e, ho o k], by simp [e], hp, by simp [e]⟩

theorem away (hs : (s.crane x).state = .offline ∨ (s.crane x).state = .syncing) (ho : (s.crane x).order = none) : s.SettledAt x := by
  obtain e | e := hs <;> exact ⟨by simp [e], fun _ => ho, by simp [ho], by simp [e], by simp [ho], by simp [e]⟩

theorem resting (hs : (s.crane x).state = .idle ∨ (s.crane x).state = .queued) (ho : (s.crane x).order = none)
    {p : Position} (hp : (s.crane x).position = some p) (h : s.spanOf x = .bays p.bay p.bay) : s.SettledAt x := by
  obtain e | e := hs <;> exact ⟨by simp [e], fun _ => ho, by simp [ho], fun _ => ⟨p, hp, h⟩, by simp [ho], by simp [e]⟩

theorem atWork (hs : (s.crane x).state ∈ [.ordered, .running, .yielding, .homing]) {o : Order}
    (ho : (s.crane x).order = some o) (hw : o.state ≠ .awaitYield) (hp : (s.crane x).position ≠ none) : s.SettledAt x := by
  have bound : (s.crane x).order ≠ none := by rw [ho]; nofun
  simp only [List.mem_cons, List.not_mem_nil, or_false] at hs
  obtain e | e | e | e := hs <;>
    exact ⟨fun _ => bound, by simp [e], fun q k => by cases ho.symm.trans k; simp [e, hw], by simp [e], fun _ => hp, by simp [e]⟩

end State.SettledAt

namespace RailLaw

variable {held : List Crane} {s t : State} {x y : Crane}

/-- A lawful crane that is IDLE or QUEUED rests at its bay without an order, and no pair is beside it. -/
theorem resting (h : RailLaw held s) (hx : x ∉ held) (hs : (s.crane x).state = .idle ∨ (s.crane x).state = .queued) :
    (s.crane x).order = none ∧ s.pairOf (aisleOf x) = none
      ∧ ∃ p, (s.crane x).position = some p ∧ s.spanOf x = .bays p.bay p.bay := by
  obtain ⟨-, free, -, rests, -, -⟩ := h.settled x hx
  have both : (s.crane x).state ∈ [.offline, .syncing, .idle, .queued] ∧ (s.crane x).state ∈ [.idle, .queued] := by
    obtain e | e := hs <;> rw [e] <;> decide
  refine ⟨free both.1, h.no_pair_of_state hx ?_ ?_, rests both.2⟩ <;> obtain e | e := hs <;> rw [e] <;> nofun

theorem not_waitsAt_of_no_pair (hr : s.pairOf (aisleOf x) = none) : ¬s.waitsAt x := by
  rintro ⟨r, k, -⟩
  cases hr.symm.trans k

theorem not_waitsAt_sibling_of_no_pair (hr : s.pairOf (aisleOf x) = none) : ¬s.waitsAt (sibling x) := by
  rintro ⟨r, k, -⟩
  rw [aisleOf_sibling] at k
  cases hr.symm.trans k

/-- The crane of a pair that does not wait yields. -/
theorem yieldsFor (h : RailLaw held s) (hx : x ∉ held) (pair : s.pairOf (aisleOf x) ≠ none) (hw : ¬s.waitsAt x) :
    s.YieldsFor x (sibling x) := by
  obtain ⟨r, hr⟩ := Option.ne_none_iff_exists'.1 pair
  obtain ⟨rfl, waiting⟩ := h.yielding_of_pair hr hw
  exact waiting ▸ (h.pair _ r hr).yields hx

/-! ### The engine and triggers (R71, R95 to R101) -/

/-- An order whose span is claimed from the position (R62, R72): the crane was at rest and outside the engine. -/
theorem ordered (h : RailLaw held s) (hx : x ∉ held) (hs : (s.crane x).state = .idle ∨ (s.crane x).state = .queued)
    (out : s.OutsideEngine x) {c : CraneCtx} {o : Order} {p : Position} {ps : List Place} (e : SameElsewhere x s t)
    (engine : t.engine = s.engine) (crane : t.crane x = c) (span : t.spanOf x = s.routeSpan p.bay ps)
    (hp : (s.crane x).position = some p) (hc : c.position = some p) (ho : c.order = some o)
    (work : c.state ∈ [.ordered, .running, .yielding, .homing]) (sent : o.state = .sent) (partner : o.yieldPartner = none)
    (clear : (s.crane (sibling x)).position ≠ none → s.clear x (s.routeSpan p.bay ps) = true) : RailLaw held t := by
  obtain ⟨-, pair, -⟩ := h.resting hx hs
  obtain ⟨low, high, -, -⟩ := interval_least p.bay (s.targetBays ps)
  have away := not_waitsAt_of_no_pair pair
  have enrolled : c.state ≠ .offline := fun k => by simp [k] at work
  have stands : t.StandsAt x := by
    refine .of_span e away (by rw [crane, hc]) span low high ((h.place x).onRail p hp) (by rw [crane]; exact enrolled) fun beside => ?_
    have apart := clear beside
    rw [clear_eq_apartAt, ← State.guardOf_other (not_waitsAt_sibling_of_no_pair pair)] at apart
    exact apart
  have settled : t.SettledAt x :=
    .atWork (by rw [crane]; exact work) (by rw [crane]; exact ho) (by rw [sent]; nofun) (by rw [crane, hc]; nofun)
  refine h.changed e engine (fun _ => .inr out) stands (fun _ _ => Iff.rfl) (fun _ => settled) (fun k => absurd k hx)
    (fun q w hq hw => ?_) (fun k => absurd k away) (fun _ _ k => absurd pair k)
  rw [crane, ho] at hq
  cases hq
  cases partner.symm.trans hw

/-- A HOME order keeps the law: the crane goes away from its sibling (R72). -/
theorem createHome (h : RailLaw held s) (hx : x ∉ held) (hs : (s.crane x).state = .idle ∨ (s.crane x).state = .queued)
    (out : s.OutsideEngine x) : RailLaw held (s.createHome x) := by
  obtain ⟨-, pair, p, hp, span⟩ := h.resting hx hs
  have clear (beside : (s.crane (sibling x)).position ≠ none) :
      s.clear x (s.routeSpan p.bay [.station (stationOf x)]) = true := by
    obtain ⟨-, -, -, -, home⟩ := claimsKeepSeparation s x p [.station (stationOf x)] _ rfl
    rw [separatedAt_setSpan, separatedAt_setSpan] at home
    refine home ?_ ((h.place x).onRail p hp)
    have apart := h.apart x (by rw [hp]; nofun) beside
    rwa [State.guardOf_other (not_waitsAt_of_no_pair pair), State.guardOf_other (not_waitsAt_sibling_of_no_pair pair), span,
      ← clear_eq_apartAt] at apart
  rw [State.createHome_eq hp]
  exact h.ordered (c := { s.crane x with
      state := .homing, order := some (s.homeOrder x p), starved := false, homeRequest := false })
    hx hs out (((SameElsewhere.refl x s).setCrane.setSpan).elsewhere _) rfl (State.crane_withOrder_self ..)
    (State.spanOf_setSpan_self ..) hp hp rfl (by simp) rfl rfl clear

theorem dequeue (h : RailLaw held s) : RailLaw held (s.dequeue x) := by
  obtain ⟨standing, nodup, passing⟩ := h.queue
  exact h.setEngine ⟨fun e he => standing e (List.mem_filter.1 he).1, nodup.sublist (List.filter_sublist.map _), passing⟩
    fun y hy => ⟨fun e he => (h.out y hy).1 e (List.mem_filter.1 he).1, (h.out y hy).2⟩

/-- The engine set free. -/
theorem freeEngine (h : RailLaw held s) : RailLaw held (s.setPass none) := by
  obtain ⟨standing, nodup, -⟩ := h.queue
  have free (p : Pass) : (none : Option Pass) ≠ some p := nofun
  exact h.setEngine ⟨fun e he => ⟨(standing e he).1, rfl⟩, nodup, fun p hp => absurd hp (free p)⟩
    fun y hy => ⟨(h.out y hy).1, fun p hp => absurd hp (free p)⟩

/-- A pass for a QUEUED crane that does not stand in the queue. -/
theorem evaluate (h : RailLaw held s) {p : Pass} (hs : (s.crane p.crane).state = .queued) (hx : p.crane ∉ held)
    (out : ∀ e ∈ s.engine.queue, e.crane ≠ p.crane) : RailLaw held (s.setPass (some p)) := by
  obtain ⟨standing, nodup, -⟩ := h.queue
  refine h.setEngine ⟨fun e he => ⟨(standing e he).1, ?_⟩, nodup, fun q hq => ?_⟩ fun y hy => ⟨(h.out y hy).1, fun q hq k => ?_⟩
  · exact beq_eq_false_iff_ne.2 (out e he).symm
  · cases hq
    exact hs
  · cases hq
    exact hx (k ▸ hy)

theorem engineTake (n : Nat) {s : State} (h : RailLaw held s) : RailLaw held (State.engineTake n s) := by
  induction n generalizing s with
  | zero => exact h
  | succ n ih =>
    unfold State.engineTake
    split
    · rename_i e hp he
      have stood := List.mem_of_find?_eq_some he
      have queued : ((s.dequeue e.crane).crane e.crane).state = .queued := (h.queue.1 e stood).1
      have notHeld : e.crane ∉ held := fun k => (h.out _ k).1 e stood rfl
      have out : ∀ d ∈ (s.dequeue e.crane).engine.queue, d.crane ≠ e.crane := fun d hd => (State.mem_dequeue hd).2
      have free : ∀ p, (s.dequeue e.crane).engine.pass = some p → p.crane ≠ e.crane := fun p k => by
        rw [State.pass_dequeue, hp] at k
        cases k
      split
      · exact ih (h.dequeue.createHome notHeld (.inr queued) ⟨out, free⟩)
      · exact h.dequeue.evaluate queued notHeld out
    · exact h

theorem engineRun (h : RailLaw held s) : RailLaw held s.engineRun := h.engineTake _

theorem enqueue (h : RailLaw held s) (hx : x ∉ held) (hs : (s.crane x).state = .idle) : RailLaw held (s.enqueue x) := by
  obtain ⟨order, pair, p, hp, span⟩ := h.resting hx (.inl hs)
  have out := outsideEngine h.queue (x := x) (by rw [hs]; nofun)
  have crane : (s.setCraneState x .queued).crane x = { s.crane x with state := .queued } := State.crane_modCrane_self ..
  have waiting : RailLaw held (s.setCraneState x .queued) := by
    refine restate rfl (by simp [hs]) (fun o w ho => by cases order.symm.trans ho) h hx out (by rw [hs]; nofun) ?_
      (fun k => absurd pair k)
    exact .resting (by right; rw [State.crane_setCrane_self]) (by rw [State.crane_setCrane_self]; exact order)
      (by rw [State.crane_setCrane_self]; exact hp) span
  obtain ⟨standing, nodup, passing⟩ := waiting.queue
  refine engineRun (waiting.setEngine ⟨fun e he => ?_, ?_, passing⟩ fun y hy => ⟨fun e he => ?_, (h.out y hy).2⟩)
  · rcases List.mem_append.1 he with he | he
    · exact standing e he
    · cases List.mem_singleton.1 he
      refine ⟨by rw [State.crane_setEngine, crane], ?_⟩
      by_contra k
      obtain ⟨q, hq, hx⟩ := (underEvaluation_iff _ x).1 (by simpa using k)
      exact out.2 q hq hx
  · refine List.map_append ▸ List.nodup_append.2 ?_
    refine ⟨nodup, List.nodup_singleton _, fun y hy z hz => ?_⟩
    obtain ⟨e, he, rfl⟩ := List.mem_map.1 hy
    cases List.mem_singleton.1 hz
    exact out.1 e he
  · rcases List.mem_append.1 he with he | he
    · exact (h.out y hy).1 e he
    · cases List.mem_singleton.1 he
      rintro rfl
      exact hx hy

theorem trigger (h : RailLaw held s) : RailLaw held (s.trigger x) := by
  unfold State.trigger
  split
  · rename_i hs
    have hx : x ∉ held := fun k => h.busy x k hs
    split
    · exact h.createHome hx (.inl hs) (outsideEngine h.queue (by rw [hs]; nofun))
    · exact h.enqueue hx hs
  · exact h.kept (RailKept.refl s).noteTrigger
  · exact h

theorem idleTriggers (h : RailLaw held s) : RailLaw held (s.idleTriggers x) := h.trigger.trigger

theorem shrunkFrom (h : RailLaw held s) {old : Span} : RailLaw held (s.shrunkFrom x old) := by
  unfold State.shrunkFrom
  split
  · exact h.trigger
  · exact h

/-! ### Narrower spans (R69, R70) -/

/-- A span narrowed around the position. -/
theorem narrow (h : RailLaw held s) {p : Position} {lo hi a b : Nat} (hp : (s.crane x).position = some p)
    (hs : s.spanOf x = .bays lo hi) (ha : lo ≤ a) (hap : a ≤ p.bay) (hpb : p.bay ≤ b) (hb : b ≤ hi) :
    RailLaw held (s.setSpan x (.bays a b)) := by
  have e : SameElsewhere x s (s.setSpan x (.bays a b)) := (SameElsewhere.refl x s).setSpan
  have span : (s.setSpan x (.bays a b)).spanOf x = .bays a b := State.spanOf_setSpan_self ..
  obtain ⟨⟨onRail, absent, -⟩, -, apart⟩ := h.stands x
  have enrolled : (s.crane x).state ≠ .offline := fun k => by rw [absent.2 k] at hs; cases hs
  have stands : (s.setSpan x (.bays a b)).StandsAt x := by
    refine ⟨⟨onRail, ?_, ?_⟩, ?_, fun known beside => ?_⟩
    · rw [span]
      exact iff_of_false nofun enrolled
    · rw [span]
      exact iff_of_true (by rw [State.crane_setSpan, hp]; nofun) ⟨a, b, rfl⟩
    · rw [span]
      exact .bays (hap.trans hpb) fun q hq => by
        cases hp.symm.trans hq
        exact ⟨hap, hpb⟩
    · rw [e.geometryOf, e.guardOf (sibling_ne x)]
      have before := apart known beside
      by_cases hw : s.waitsAt x
      · rw [State.guardOf_waiting hw hp] at before
        rwa [State.guardOf_waiting ((e.waitsAt x).2 hw) hp]
      · rw [State.guardOf_other hw, hs] at before
        rw [State.guardOf_other fun k => hw ((e.waitsAt x).1 k), span]
        exact apartAt_mine before ha hb
  refine h.changed e rfl .inl stands (fun _ _ => Iff.rfl) (fun hx => ?_) (fun hx => ⟨h.out x hx, h.busy x hx⟩)
    (fun o w ho hw => ⟨o, ho, hw⟩) h.of_waitsAt (fun hx w pair away k => k ▸ h.yieldsFor hx pair away)
  obtain ⟨bound, free, waits, rests, placed, paired⟩ := h.settled x hx
  refine ⟨bound, free, waits, fun k => ?_, placed, fun k => (e.waitsAt x).2 (paired k)⟩
  obtain ⟨q, hq, single⟩ := rests k
  cases hp.symm.trans hq
  cases hs.symm.trans single
  exact ⟨p, hp, by rw [span, le_antisymm hap ha, le_antisymm hb hpb]⟩

/-- The span becomes the position's single bay (R70). -/
theorem atBay (h : RailLaw held s) {p : Position} (hp : (s.crane x).position = some p) :
    RailLaw held (s.setSpan x (.bays p.bay p.bay)) := by
  obtain ⟨lo, hi, hs, hlo, hhi⟩ := h.span_of_position hp
  exact h.narrow hp hs hlo (Nat.le_refl _) (Nat.le_refl _) hhi

theorem spanToPosition (h : RailLaw held s) : RailLaw held (s.spanToPosition x) := by
  unfold State.spanToPosition
  split
  · rename_i p hp
    exact shrunkFrom (h.atBay hp)
  · exact h

theorem narrowSpan (h : RailLaw held s) : RailLaw held (s.narrowSpan x) := by
  unfold State.narrowSpan
  split
  · rename_i o p _ hp
    obtain ⟨lo, hi, hs, hlo, hhi⟩ := h.span_of_position hp
    rw [hs]
    exact shrunkFrom (h.narrow hp hs (le_max_left ..) (max_le hlo (foldl_min_le ..)) (le_min hhi (le_foldl_max ..))
      (min_le_left ..))
  · exact h

end RailLaw

end Sys2Proof.Machine

namespace Sys2Proof.Machine

/-! ### Reported positions (R2, R68) -/

theorem SameElsewhere.takeInRange (s : State) (x : Crane) (b l : Nat) : SameElsewhere x s (s.takeInRange x b l) := by
  have e := SameElsewhere.refl x s
  obtain ⟨h, -⟩ | ⟨-, -, h⟩ | ⟨lo, hi, -, ⟨-, -, h⟩ | ⟨-, -, h⟩ | ⟨-, -, h⟩⟩ := takeInRange_cases s x b l <;> rw [h]
  · exact e
  · exact e.modCrane.setSpan
  · exact e.modCrane
  · exact e.modCrane.setSpan.modCrane
  · exact e.modCrane.modCrane

theorem SameElsewhere.restSpan {s t : State} {x : Crane} (e : SameElsewhere x s t) : SameElsewhere x s (t.restSpan x) := by
  obtain k | ⟨p, lo, hi, -, -, k⟩ := restSpan_cases t x <;> rw [k]
  · exact e
  · exact e.setSpan

theorem SameElsewhere.takePosition (s : State) (x : Crane) (b l : Nat) : SameElsewhere x s (s.takePosition x b l) := by
  have ranged : SameElsewhere x s (s.reportRange x b l) := by
    obtain e | e := reportRange_cases s x b l <;> rw [e]
    · exact .refl x s
    · exact (SameElsewhere.refl x s).modCrane
  exact (ranged.trans (.takeInRange ..)).restSpan

/-- A crane that comes to rest at its position (R58). -/
theorem State.StandsAt.restSpan {t : State} {x : Crane} (h : t.StandsAt x) (hw : ¬t.waitsAt x) :
    (t.restSpan x).StandsAt x := by
  obtain k | ⟨p, lo, hi, hp, hs, k⟩ := restSpan_cases t x <;> rw [k]
  · exact h
  · obtain ⟨place, within, apart⟩ := h
    obtain ⟨hlo, hhi⟩ := (within lo hi hs).2 p hp
    refine .of_span (SameElsewhere.refl x t).setSpan hw hp (State.spanOf_setSpan_self ..) (Nat.le_refl _) (Nat.le_refl _)
      (place.onRail p hp) (fun k => ?_) fun beside => ?_
    · rw [place.absent.2 k] at hs
      cases hs
    · have before := apart (by rw [hp]; nofun) beside
      rw [State.guardOf_other hw, hs] at before
      exact apartAt_mine before hlo hhi

namespace RailLaw

variable {held : List Crane} {s t : State} {x y : Crane}

/-- The table of R68 leaves a crane that does not wait where it may stand. -/
theorem standsAt_takeInRange (h : RailLaw held s) (hw : ¬s.waitsAt x) {b : Nat}
    (hb : b ≤ (s.geometryOf (aisleOf x)).bays + 1) (l : Nat) : (s.takeInRange x b l).StandsAt x := by
  have e := SameElsewhere.takeInRange s x b l
  have state := (sameButPlace_takeInRange s x b l).state
  have place := h.place x
  have enrolled (hs : s.spanOf x ≠ .absent) : ((s.takeInRange x b l).crane x).state ≠ .offline := by
    rw [state]
    exact fun k => hs (place.absent.2 k)
  have beside {lo hi : Nat} (clear : s.clear x (.bays lo hi) = true) (known : (s.crane (sibling x)).position ≠ none) :
      apartAt (s.geometryOf (aisleOf x)) (endOf x) (.bays lo hi) (s.guardOf (sibling x)) = true :=
    h.apart_guard known (clear_eq_apartAt .. ▸ clear)
  obtain ⟨k, -⟩ | ⟨hu, clear, k⟩ | ⟨lo, hi, hs, k⟩ := takeInRange_cases s x b l
  · rw [k]
    exact h.stands x
  · rw [k] at e state ⊢
    exact .of_span e hw (position_setPosition s x b l) (State.spanOf_setSpan_self ..) (Nat.le_refl _) (Nat.le_refl _) hb
      (k ▸ enrolled (by rw [hu]; nofun)) (beside clear)
  · obtain ⟨p, hp⟩ := Option.ne_none_iff_exists'.1 (place.known.2 ⟨lo, hi, hs⟩)
    obtain ⟨ordered, inside⟩ := h.spans x lo hi hs
    obtain ⟨hlo, hhi⟩ := inside p hp
    have rail := place.onRail p hp
    have present := enrolled (by rw [hs]; nofun)
    have before (known : (s.crane (sibling x)).position ≠ none) :
        apartAt (s.geometryOf (aisleOf x)) (endOf x) (.bays lo hi) (s.guardOf (sibling x)) = true := by
      have apart := h.apart x (by rw [hp]; nofun) known
      rwa [State.guardOf_other hw, hs] at apart
    obtain ⟨hbl, hbh, k⟩ | ⟨-, clear, k⟩ | ⟨out, -, k⟩ := k <;> rw [k] at e present ⊢
    · exact .of_span e hw (position_setPosition s x b l) hs hbl hbh hb present before
    · exact .of_span e hw ((position_anomaly ..).trans (position_setPosition s x b l)) (State.spanOf_setSpan_self ..)
        (Nat.min_le_right ..) (Nat.le_max_right ..) hb present (beside clear)
    · refine .of_span e hw ((position_anomaly ..).trans (position_setPosition s x _ l)) hs ?_ ?_ ?_ present before
      all_goals dsimp only; split <;> omega

/-- A report from a crane that does not wait (R68). -/
theorem takePosition (h : RailLaw held s) (hw : ¬s.waitsAt x) (b l : Nat) : RailLaw held (s.takePosition x b l) := by
  have e := SameElsewhere.takePosition s x b l
  have same := sameButPlace_takePosition s x b l
  have ranged : RailLaw held (s.reportRange x b l) := h.kept (RailKept.refl s).reportRange
  have range : SameElsewhere x s (s.reportRange x b l) := by
    obtain e | e := reportRange_cases s x b l <;> rw [e]
    · exact .refl x s
    · exact (SameElsewhere.refl x s).modCrane
  have taken := ranged.standsAt_takeInRange (b := takenBay (s.geometryOf (aisleOf x)) b) (fun k => hw ((range.waitsAt x).1 k))
    (by rw [range.geometryOf]; exact Nat.min_le_right ..) (takenLevel (s.geometryOf (aisleOf x)) l)
  have stands : (s.takePosition x b l).StandsAt x :=
    taken.restSpan fun k => hw (((range.trans (.takeInRange ..)).waitsAt x).1 k)
  refine h.changed e (engine_takePosition ..) (fun k => .inl (same.state.trans k)) stands (fun _ _ => Iff.rfl) (fun hx => ?_)
    (fun hx => ⟨h.out x hx, by rw [same.state]; exact h.busy x hx⟩) (fun o w ho hw => ⟨o, same.order ▸ ho, hw⟩)
    (fun k => absurd k hw) (fun hx w pair _ k => ?_)
  · obtain ⟨bound, free, waits, rests, placed, paired⟩ := h.settled x hx
    refine ⟨?_, ?_, ?_, fun k => ?_, fun k => ?_, fun k => ?_⟩
    · rwa [same.state, same.order]
    · rwa [same.state, same.order]
    · rwa [same.state, same.order]
    · rw [same.state] at k
      obtain ⟨p, hp, hs⟩ := rests k
      simp only [List.mem_cons, List.not_mem_nil, or_false] at k
      have quiet : (s.crane x).state ∈ [.idle, .queued, .faulted, .lost] := by obtain k | k := k <;> simp [k]
      obtain ⟨q, hq, single, -⟩ := takePosition_rest (bay := b) (level := l) rfl (h.resting hx k).1 quiet hs
      exact ⟨q, hq, single⟩
    · rw [same.order] at k
      obtain ⟨lo, hi, hs⟩ := (h.place x).known.1 (placed k)
      exact stands.place.known.2 (spanOf_takePosition_bays hs b l)
    · exact absurd (paired (same.state ▸ k)) hw
  · obtain ⟨st, order⟩ := k ▸ h.yieldsFor hx pair hw
    exact ⟨same.state.trans st, same.order ▸ order⟩

theorem reportPosition (h : RailLaw held s) (hw : ¬s.waitsAt x) (b l : Nat) : RailLaw held (s.reportPosition x b l) :=
  shrunkFrom (h.takePosition hw b l)

end RailLaw

end Sys2Proof.Machine

namespace Sys2Proof.Machine

/-! ### An order whose part in the law stays -/

/-- What the law reads of an order. -/
def Order.role (o : Order) : OrderKind × OrderState × Option Crane := (o.kind, o.state, o.yieldPartner)

theorem Order.role_eq_iff (o q : Order) :
    o.role = q.role ↔ o.kind = q.kind ∧ o.state = q.state ∧ o.yieldPartner = q.yieldPartner := by
  simp only [Order.role, Prod.mk.injEq]

namespace RailLaw

variable {held : List Crane} {s t : State} {x y w : Crane}

/-- A crane with another context of the same state and position, and with an order of the same role. -/
theorem reorder (h : RailLaw held s) {c : CraneCtx} (hs : c.state = (s.crane x).state) (hp : c.position = (s.crane x).position)
    (ho : c.order.map Order.role = (s.crane x).order.map Order.role) : RailLaw held (s.setCrane x c) := by
  have e : SameElsewhere x s (s.setCrane x c) := (SameElsewhere.refl x s).setCrane
  have crane : (s.setCrane x c).crane x = c := State.crane_setCrane_self ..
  have before {o : Order} (k : c.order = some o) : ∃ q, (s.crane x).order = some q ∧ q.role = o.role :=
    Option.map_eq_some_iff.1 (ho.symm.trans (congrArg (Option.map Order.role) k))
  have after {q : Order} (k : (s.crane x).order = some q) : ∃ o, c.order = some o ∧ o.role = q.role :=
    Option.map_eq_some_iff.1 (ho.trans (congrArg (Option.map Order.role) k))
  have none : c.order = none ↔ (s.crane x).order = none := by
    rw [← Option.map_eq_none_iff, ho, Option.map_eq_none_iff]
  refine h.changed e rfl (fun k => .inl (by rw [crane, hs, k])) ((h.stands x).same e (by rw [crane, hp]) rfl (by rw [crane, hs]))
    (fun _ _ => Iff.rfl) (fun hx => ?_) (fun hx => ⟨h.out x hx, by rw [crane, hs]; exact h.busy x hx⟩) (fun o v k hv => ?_)
    (fun k => by rw [crane, hs]; exact h.of_waitsAt k) (fun hx v pair away k => ?_)
  · obtain ⟨bound, free, waits, rests, placed, paired⟩ := h.settled x hx
    constructor <;> rw [crane]
    · rwa [hs, Ne, none]
    · rwa [hs, none]
    · intro o k
      obtain ⟨q, hq, role⟩ := before k
      rw [hs, ← waits q hq, ((Order.role_eq_iff ..).1 role).2.1]
    · rw [hs, hp]
      exact rests
    · rwa [Ne, none, hp]
    · rwa [hs, e.waitsAt]
  · rw [crane] at k
    obtain ⟨q, hq, role⟩ := before k
    exact ⟨q, hq, ((Order.role_eq_iff ..).1 role).2.2.trans hv⟩
  · obtain ⟨state, q, hq, kind, sent, partner⟩ := k ▸ h.yieldsFor hx pair away
    obtain ⟨o, hc, role⟩ := after hq
    obtain ⟨sameKind, sameState, samePartner⟩ := (Order.role_eq_iff ..).1 role
    exact ⟨by rw [crane, hs, state], o, by rw [crane, hc], sameKind.trans kind, by rw [sameState]; exact sent,
      samePartner.trans partner⟩

theorem modOrder (h : RailLaw held s) {f : Order → Order} (hf : ∀ o, (f o).role = o.role := by exact fun _ => rfl) :
    RailLaw held (s.modOrder x f) :=
  h.reorder (c := { s.crane x with order := (s.crane x).order.map f }) rfl rfl
    (by rw [Option.map_map]; exact congrArg (Option.map · _) (funext hf))

theorem markLegs (h : RailLaw held s) {k : Nat} : RailLaw held (s.markLegs x k) := by
  cases ho : (s.crane x).order with
  | none =>
    have same : s.markLegs x k = s.setCrane x (s.crane x) := by simp only [State.markLegs, State.modCrane, ho]
    exact same ▸ h.reorder rfl rfl rfl
  | some o =>
    rw [markLegs_eq ho]
    exact h.reorder rfl rfl (by rw [ho]; rfl)

theorem capture (h : RailLaw held s) : RailLaw held (s.capture x) := h.modOrder

theorem measureLeg (h : RailLaw held s) : RailLaw held (s.measureLeg x) := by
  unfold State.measureLeg
  split
  · exact h
  · split
    · split
      · exact kept (capture (modOrder h.markLegs)) (RailKept.refl _).accumulate
      · exact capture (modOrder h.markLegs)
    · exact capture h.markLegs
    · exact h

end RailLaw

/-! ### A change within an aisle -/

/-- What the law says of one crane but for its sibling. -/
structure State.LawfulAt (held : List Crane) (s : State) (x : Crane) : Prop where
  place : s.PlacedAt x
  within : InSpan (s.crane x).position (s.spanOf x)
  settled : x ∉ held → s.SettledAt x
  out : x ∈ held → s.OutsideEngine x ∧ (s.crane x).state ≠ .idle
  partner : s.PartnerAt x

/-- Two states differ, as far as the rail goes, within one aisle only. -/
structure SameBeyond (a : Aisle) (s t : State) : Prop where
  crane : ∀ y, aisleOf y ≠ a → t.crane y = s.crane y
  span : ∀ y, aisleOf y ≠ a → t.spanOf y = s.spanOf y
  pair : ∀ b, b ≠ a → t.pairOf b = s.pairOf b
  geometry : t.cost.geometry = s.cost.geometry

namespace SameBeyond

variable {a : Aisle} {s t : State} {x : Crane}

theorem refl (a : Aisle) (s : State) : SameBeyond a s s := ⟨fun _ _ => rfl, fun _ _ => rfl, fun _ _ => rfl, rfl⟩

theorem trans {u : State} (h : SameBeyond a s t) (k : SameBeyond a t u) : SameBeyond a s u where
  crane y hy := (k.crane y hy).trans (h.crane y hy)
  span y hy := (k.span y hy).trans (h.span y hy)
  pair b hb := (k.pair b hb).trans (h.pair b hb)
  geometry := k.geometry.trans h.geometry

theorem setCrane (h : SameBeyond a s t) {c : CraneCtx} (hx : aisleOf x = a) : SameBeyond a s (t.setCrane x c) :=
  have other (y : Crane) (hy : aisleOf y ≠ a) : x ≠ y := fun e => hy (e ▸ hx)
  h.trans ⟨fun y hy => (State.crane_setCrane ..).trans (if_neg (other y hy)), fun _ _ => rfl, fun _ _ => rfl, rfl⟩

theorem setSpan (h : SameBeyond a s t) {sp : Span} (hx : aisleOf x = a) : SameBeyond a s (t.setSpan x sp) :=
  have other (y : Crane) (hy : aisleOf y ≠ a) : x ≠ y := fun e => hy (e ▸ hx)
  h.trans ⟨fun _ _ => rfl, fun y hy => (State.spanOf_setSpan ..).trans (if_neg (other y hy)), fun _ _ => rfl, rfl⟩

theorem setPair (h : SameBeyond a s t) {p : Option YieldPair} : SameBeyond a s (t.setPair a p) :=
  h.trans ⟨fun _ _ => rfl, fun _ _ => rfl, fun _ hb => (State.pairOf_setPair ..).trans (if_neg hb.symm), rfl⟩

/-- A change of what holds no crane, no span and no geometry. -/
theorem elsewhere (h : SameBeyond a s t) (u : State) (hc : u.orders.cranes = t.orders.cranes := by rfl)
    (hs : u.spans = t.spans := by rfl) (hg : u.cost.geometry = t.cost.geometry := by rfl) : SameBeyond a s u :=
  h.trans ⟨fun y _ => congrArg (Vector.get · y) hc, fun y _ => congrArg (·.span.get y) hs, fun b _ => congrArg (·.pair.get b) hs, hg⟩

theorem geometryOf (h : SameBeyond a s t) (b : Aisle) : t.geometryOf b = s.geometryOf b := congrArg (Vector.get · b) h.geometry

theorem waitsAt (h : SameBeyond a s t) (hx : aisleOf x ≠ a) : t.waitsAt x ↔ s.waitsAt x := by
  unfold State.waitsAt
  rw [h.pair _ hx]

theorem guardOf (h : SameBeyond a s t) (hx : aisleOf x ≠ a) : t.guardOf x = s.guardOf x := by
  unfold State.guardOf
  rw [h.pair _ hx, h.crane x hx, h.span x hx]

end SameBeyond

namespace RailLaw

variable {held held' : List Crane} {s t : State} {x y w : Crane}

theorem lawfulAt (h : RailLaw held s) (x : Crane) : s.LawfulAt held x :=
  ⟨h.place x, h.spans x, h.settled x, fun hx => ⟨h.out x hx, h.busy x hx⟩, h.partner x⟩

/-- A crane of another aisle is as lawful as it was. -/
theorem lawfulAt_beyond (h : RailLaw held s) (e : SameBeyond (aisleOf x) s t) (engine : t.engine = s.engine)
    (hy : aisleOf y ≠ aisleOf x) (hands : y ∈ held' ↔ y ∈ held) : t.LawfulAt held' y := by
  obtain ⟨⟨onRail, absent, known⟩, within, settled, out, partner⟩ := h.lawfulAt y
  refine ⟨⟨?_, ?_, ?_⟩, ?_, fun hx => ?_, fun hx => ?_, fun o v ho hv => ?_⟩
  · rwa [e.crane y hy, e.geometryOf]
  · rwa [e.crane y hy, e.span y hy]
  · rwa [e.crane y hy, e.span y hy]
  · rwa [e.crane y hy, e.span y hy]
  · obtain ⟨bound, free, waits, rests, placed, paired⟩ := settled fun k => hx (hands.2 k)
    constructor <;> rw [e.crane y hy] <;> try assumption
    · rwa [e.span y hy]
    · rwa [e.waitsAt hy]
  · obtain ⟨quiet, state⟩ := out (hands.1 hx)
    exact ⟨by unfold State.OutsideEngine; rw [engine]; exact quiet, by rw [e.crane y hy]; exact state⟩
  · obtain ⟨rfl, state, r, hr, hrv⟩ := partner o v (e.crane y hy ▸ ho) hv
    exact ⟨rfl, by rw [e.crane _ (by rwa [aisleOf_sibling])]; exact state, r, e.pair _ hy ▸ hr, hrv⟩

/-- The law after a change within one aisle. -/
theorem within_aisle (h : RailLaw held s) (e : SameBeyond (aisleOf x) s t) (engine : t.engine = s.engine) (queue : t.queueInLaw)
    (hands : ∀ y, aisleOf y ≠ aisleOf x → (y ∈ held' ↔ y ∈ held)) (mine : t.LawfulAt held' x)
    (other : t.LawfulAt held' (sibling x)) (pair : ∀ r, t.pairOf (aisleOf x) = some r → t.PairAt held' (aisleOf x) r)
    (apart : t.ApartAt x) : RailLaw held' t := by
  have lawful (y : Crane) : t.LawfulAt held' y := by
    by_cases hy : aisleOf y = aisleOf x
    · by_cases hx : y = x
      · exact hx ▸ mine
      · exact eq_sibling hx hy ▸ other
    · exact h.lawfulAt_beyond e engine hy (hands y hy)
  refine ⟨queue, fun y => (lawful y).within, fun y => (lawful y).place, fun y hy => (lawful y).settled hy,
    fun y hy => ((lawful y).out hy).1, fun y hy => ((lawful y).out hy).2, fun y => (lawful y).partner, fun a r hr => ?_, fun y => ?_⟩
  · by_cases ha : a = aisleOf x
    · exact ha ▸ pair r (ha ▸ hr)
    · obtain ⟨aisle, sib, state, out, yields⟩ := h.pair a r (e.pair a ha ▸ hr)
      have waits : aisleOf r.waiting ≠ aisleOf x := aisle ▸ ha
      have yielding : aisleOf r.yielding ≠ aisleOf x := by rwa [sib, aisleOf_sibling]
      refine ⟨aisle, sib, by rw [e.crane _ waits]; exact state, fun k => out ((hands _ waits).1 k), fun k => ?_⟩
      obtain ⟨st, order⟩ := yields fun m => k ((hands _ yielding).2 m)
      exact ⟨by rw [e.crane _ yielding]; exact st, by rw [e.crane _ yielding]; exact order⟩
  · by_cases hy : aisleOf y = aisleOf x
    · by_cases hx : y = x
      · exact hx ▸ apart
      · exact eq_sibling hx hy ▸ (t.apartAt_iff_sibling x).2 apart
    · have beside : aisleOf (sibling y) ≠ aisleOf x := by rwa [aisleOf_sibling]
      unfold State.ApartAt
      rw [e.crane y hy, e.crane _ beside, e.geometryOf, e.guardOf hy, e.guardOf beside]
      exact h.apart y

end RailLaw

end Sys2Proof.Machine

namespace Sys2Proof.Machine

namespace RailLaw

variable {held held' : List Crane} {s t : State} {x y w : Crane} {p : Position}

/-- The law goes by which cranes are in hand. -/
theorem congr (h : RailLaw held s) (hands : ∀ y, y ∈ held' ↔ y ∈ held) : RailLaw held' s where
  queue := h.queue
  spans := h.spans
  place := h.place
  settled y hy := h.settled y fun k => hy ((hands y).2 k)
  out y hy := h.out y ((hands y).1 hy)
  busy y hy := h.busy y ((hands y).1 hy)
  partner := h.partner
  pair a r hr := have k := h.pair a r hr
    ⟨k.aisle, k.sibling, k.waiting, fun m => k.out ((hands _).1 m), fun m => k.yields fun j => m ((hands _).2 j)⟩
  apart := h.apart

/-! ### Cranes that become UNKNOWN, or OFFLINE (R73, R125, R127, R142) -/

/-- A crane beside no pair that loses its order and its position. -/
theorem forget (h : RailLaw held s) (hx : x ∉ held') (hands : ∀ y, y ≠ x → (y ∈ held' ↔ y ∈ held)) (out : s.OutsideEngine x)
    (pair : s.pairOf (aisleOf x) = none) (e : SameElsewhere x s t) (engine : t.engine = s.engine)
    (hs : ((t.crane x).state = .syncing ∧ t.spanOf x = .unknown) ∨ ((t.crane x).state = .offline ∧ t.spanOf x = .absent))
    (ho : (t.crane x).order = none) (hp : (t.crane x).position = none) : RailLaw held' t := by
  have stands : t.StandsAt x := by
    refine .unplaced hp (fun lo hi k => ?_) ?_
    · obtain ⟨-, j⟩ | ⟨-, j⟩ := hs <;> cases j.symm.trans k
    · obtain ⟨j, k⟩ | ⟨j, k⟩ := hs <;> simp [j, k]
  refine h.changed e engine (fun _ => .inr out) stands hands (fun _ => .away (hs.symm.imp And.left And.left) ho)
    (fun k => absurd k hx) (fun o w k => by cases ho.symm.trans k) (fun k => absurd k (not_waitsAt_of_no_pair pair))
    (fun _ _ k => absurd pair k)

/-! ### Cranes that come to rest -/

end RailLaw

/-- A crane without an order, at a single bay and beside no pair. -/
structure State.RestsAt (s : State) (x : Crane) (p : Position) : Prop where
  order : (s.crane x).order = none
  position : (s.crane x).position = some p
  span : s.spanOf x = .bays p.bay p.bay
  pair : s.pairOf (aisleOf x) = none

namespace RailLaw

variable {held held' : List Crane} {s t : State} {x y w : Crane} {p : Position}

theorem enrolled_of_position (h : RailLaw held s) (hp : (s.crane x).position ≠ none) : (s.crane x).state ≠ .offline := by
  obtain ⟨lo, hi, hs⟩ := (h.place x).known.1 hp
  intro k
  cases ((h.place x).absent.2 k).symm.trans hs

/-- The span of a crane that has no order becomes its position bay, whatever its sibling's trigger does. -/
theorem rests_spanToPosition (out : ∀ e ∈ s.engine.queue, e.crane ≠ x) (ho : (s.crane x).order = none)
    (hp : (s.crane x).position = some p) (pair : s.pairOf (aisleOf x) = none) :
    (s.spanToPosition x).RestsAt x p ∧ (s.spanToPosition x).crane x = s.crane x := by
  have kept : StoreKept True s (s.spanToPosition x) := (StoreKept.refl s).spanToPosition
  obtain ⟨-, -, pairs⟩ := kept.jobs trivial
  have same := (crane_spanToPosition out).1
  refine ⟨⟨by rw [same, ho], by rw [same, hp], ?_, by rw [State.pairOf, pairs]; exact pair⟩, same⟩
  rw [State.spanToPosition_known hp]
  have at_bay := (Unreached.refl (s := s.setSpan x (.bays p.bay p.bay)) out).shrunkFrom (y := x) (old := s.spanOf x)
    (.inl (sibling_ne x))
  exact at_bay.span.trans (State.spanOf_setSpan_self ..)

theorem dropOrder (h : RailLaw held s) (hx : x ∈ held) : RailLaw held (s.dropOrder x) :=
  setCrane (c := { s.crane x with order := none }) rfl Iff.rfl
    (fun o _ (k : (none : Option Order) = some o) => by cases k) h hx (h.busy x hx)

theorem state_of_order (h : RailLaw held s) (hx : x ∉ held) (ho : (s.crane x).order ≠ none) :
    (s.crane x).state ∉ [.offline, .syncing, .idle, .queued] := fun k => ho ((h.settled x hx).free k)

/-- The order of a crane ends, and its span is its position bay (R70): a pair stays as it is. -/
theorem dropYield (h : RailLaw held s) (hx : x ∉ held) (ho : (s.crane x).order ≠ none) (hw : (s.crane x).state ≠ .awaitYield) :
    ∃ p, RailLaw (x :: held) ((s.dropOrder x).spanToPosition x)
      ∧ (((s.dropOrder x).spanToPosition x).crane x) = { s.crane x with order := none }
      ∧ (s.crane x).position = some p ∧ ((s.dropOrder x).spanToPosition x).spanOf x = .bays p.bay p.bay
      ∧ ((s.dropOrder x).spanToPosition x).spans.pair = s.spans.pair := by
  have state := h.state_of_order hx ho
  obtain ⟨p, hp⟩ := Option.ne_none_iff_exists'.1 ((h.settled x hx).placed ho)
  have taken : RailLaw (x :: held) s := h.take hw (fun k => state (by simp [k])) (outsideEngine h.queue fun k => state (by simp [k]))
  have dropped := taken.dropOrder List.mem_cons_self
  have crane : (s.dropOrder x).crane x = { s.crane x with order := none } := State.crane_modCrane_self ..
  have out := (dropped.out x List.mem_cons_self).1
  have position : ((s.dropOrder x).crane x).position = some p := by rw [crane]; exact hp
  have reached := (Unreached.refl (s := (s.dropOrder x).setSpan x (.bays p.bay p.bay)) out).shrunkFrom (y := x)
    (old := (s.dropOrder x).spanOf x) (.inl (sibling_ne x))
  refine ⟨p, dropped.spanToPosition, (crane_spanToPosition out).1.trans crane, hp, ?_, ?_⟩
  · rw [State.spanToPosition_known position]
    exact reached.span.trans (State.spanOf_setSpan_self ..)
  · exact ((StoreKept.refl (jobs := True) (s.dropOrder x)).spanToPosition.jobs trivial).2.2

/-- The order of a crane beside no pair ends: the crane rests. -/
theorem endOrder (h : RailLaw held s) (hx : x ∉ held) (ho : (s.crane x).order ≠ none) (hw : (s.crane x).state ≠ .awaitYield)
    (pair : s.pairOf (aisleOf x) = none) : ∃ p, RailLaw (x :: held) ((s.dropOrder x).spanToPosition x)
      ∧ ((s.dropOrder x).spanToPosition x).RestsAt x p
      ∧ ((s.dropOrder x).spanToPosition x).crane x = { s.crane x with order := none } := by
  obtain ⟨p, law, crane, hp, span, pairs⟩ := h.dropYield hx ho hw
  exact ⟨p, law, ⟨by rw [crane], by rw [crane]; exact hp, span, by rw [State.pairOf, pairs]; exact pair⟩, crane⟩

/-- A crane at rest is let go in a state that suits it. -/
theorem letGo_resting (h : RailLaw (x :: held) s) (hx : x ∉ held) (r : s.RestsAt x p) {st : CraneState}
    (hs : st ∈ [.idle, .queued, .faulted, .lost, .syncing]) : RailLaw held (s.setCraneState x st) := by
  have crane : (s.setCrane x { s.crane x with state := st }).crane x = { s.crane x with state := st } :=
    State.crane_setCrane_self ..
  have order : ((s.setCrane x { s.crane x with state := st }).crane x).order = none := by rw [crane]; exact r.order
  have position : ((s.setCrane x { s.crane x with state := st }).crane x).position = some p := by rw [crane]; exact r.position
  have enrolled := h.enrolled_of_position (x := x) (by rw [r.position]; nofun)
  have stays : st ≠ .offline := by
    rintro rfl
    simp at hs
  refine letGo (c := { s.crane x with state := st }) rfl (iff_of_false stays enrolled)
    (fun o v k => by cases r.order.symm.trans k) h hx ?_ fun k => absurd r.pair k
  simp only [List.mem_cons, List.not_mem_nil, or_false] at hs
  obtain rfl | rfl | rfl | rfl | rfl := hs
  · exact .resting (.inl (by rw [crane])) order position r.span
  · exact .resting (.inr (by rw [crane])) order position r.span
  · exact .failed (.inl (by rw [crane])) (fun o k => by cases order.symm.trans k) fun _ => by rw [position]; nofun
  · exact .failed (.inr (by rw [crane])) (fun o k => by cases order.symm.trans k) fun _ => by rw [position]; nofun
  · exact .away (.inr (by rw [crane])) order

theorem setIdle (h : RailLaw (x :: held) s) (hx : x ∉ held) (r : s.RestsAt x p) : RailLaw held (s.setIdle x) := by
  have idle : RailLaw held (s.setCraneState x .idle) := h.letGo_resting hx r (by simp)
  unfold State.setIdle
  dsimp only
  split
  · exact idle.kept (RailKept.refl _).craneStateEvent
  · exact idle

/-! ### Yields that end or fail (R64 to R66) -/

/-- The pair of a waiting crane cleared, its span clear of its sibling's: the waiting crane is in hand. -/
theorem unpair (h : RailLaw held s) (hw : s.waitsAt w) (fits : (s.crane w).position ≠ none →
      (s.crane (sibling w)).position ≠ none → s.clear w (s.spanOf w) = true) :
    RailLaw (w :: held) ((s.setPair (aisleOf w) none).modOrder (sibling w) fun q => { q with yieldPartner := none }) := by
  obtain ⟨state, notHeld⟩ := h.of_waitsAt hw
  obtain ⟨r, hr, rfl⟩ := hw
  obtain ⟨-, -, -, -, yields⟩ := h.pair _ r hr
  have pairing := h.pair _ r hr
  generalize hx : r.waiting = x at *
  have other := sibling_ne x
  generalize ht : ((s.setPair (aisleOf x) none).modOrder (sibling x) fun q => { q with yieldPartner := none }) = t
  have e : SameBeyond (aisleOf x) s t := ht ▸ (SameBeyond.refl (aisleOf x) s).setPair.setCrane (aisleOf_sibling x)
  have mine : t.crane x = s.crane x := ht ▸ (State.crane_modCrane ..).trans (if_neg other)
  have theirs : t.crane (sibling x) = { s.crane (sibling x) with
      order := (s.crane (sibling x)).order.map fun q => { q with yieldPartner := none } } := ht ▸ State.crane_modCrane_self ..
  have span (y : Crane) : t.spanOf y = s.spanOf y := ht ▸ rfl
  have engine : t.engine = s.engine := ht ▸ rfl
  have none : t.pairOf (aisleOf x) = none := ht ▸ (State.pairOf_setPair ..).trans (if_pos rfl)
  have queue : t.queueInLaw := by
    refine queueInLaw_of_states h.queue (fun y k => .inl ?_) (by rw [engine]) (by rw [engine])
    rw [← ht, State.modOrder, State.crane_modCrane]
    split
    · rename_i j
      exact (congrArg (fun z => (s.crane z).state) j).trans k
    · exact k
  have place {y : Crane} (ha : aisleOf y = aisleOf x) (hp : (t.crane y).position = (s.crane y).position)
      (hs : (t.crane y).state = (s.crane y).state) : t.PlacedAt y := by
    obtain ⟨onRail, absent, known⟩ := h.place y
    refine ⟨?_, ?_, ?_⟩
    · rwa [hp, e.geometryOf]
    · rwa [hs, span]
    · rwa [hp, span]
  refine h.within_aisle e engine queue (fun y hy => ?_) ⟨place rfl (by rw [mine]) (by rw [mine]), ?_, ?_, ?_, ?_⟩
    ⟨place (aisleOf_sibling x) (by rw [theirs]) (by rw [theirs]), ?_, ?_, ?_, ?_⟩ (fun q hq => by cases none.symm.trans hq)
    fun known beside => ?_
  · have : y ≠ x := fun k => hy (by rw [k])
    simp [this]
  · rw [mine, span]
    exact h.spans x
  · exact fun k => absurd List.mem_cons_self k
  · intro _
    rw [mine, State.OutsideEngine, engine]
    exact ⟨outsideEngine h.queue (by rw [state]; nofun), by rw [state]; nofun⟩
  · intro o v ho hv
    rw [mine] at ho
    obtain ⟨rfl, -, q, hq, hqw⟩ := h.partner x o v ho hv
    cases hr.symm.trans hq
    exact absurd (hx.symm.trans hqw) other.symm
  · rw [theirs, span]
    exact h.spans _
  · intro k
    have free : sibling x ∉ held := fun j => k (List.mem_cons_of_mem _ j)
    obtain ⟨yielding, o, ho, -, sent, -⟩ := pairing.sibling ▸ pairing.yields (by rw [pairing.sibling, hx]; exact free)
    rw [hx] at yielding ho
    refine .atWork (o := { o with yieldPartner := Option.none }) (by rw [theirs]; simp [yielding]) (by rw [theirs, ho]; rfl) ?_ ?_
    · obtain j | j := sent <;> simp [j]
    · rw [theirs]
      exact (h.settled _ free).placed (by rw [ho]; nofun)
  · intro k
    have inHand : sibling x ∈ held := (List.mem_cons.1 k).resolve_left other
    rw [theirs, State.OutsideEngine, engine]
    exact ⟨h.out _ inHand, h.busy _ inHand⟩
  · intro o v ho hv
    rw [theirs] at ho
    obtain ⟨q, -, rfl⟩ := Option.map_eq_some_iff.1 ho
    cases hv
  · rw [(State.apartAt_of_no_pair none), separatedAt_iff_clear, clear_eq_apartAt, e.geometryOf, span, span, ← clear_eq_apartAt]
    rw [mine] at known
    rw [theirs] at beside
    exact fits known beside

end RailLaw

end Sys2Proof.Machine

namespace Sys2Proof.Machine

namespace RailLaw

variable {held : List Crane} {s t : State} {x y w : Crane} {p : Position}

/-- A waiting crane's order is discarded, and it is in hand at its bay (R65, R66). -/
theorem discardWaiting (h : RailLaw held s) (hw : s.waitsAt w) : ∃ p, RailLaw (w :: held) (s.discardWaiting w)
    ∧ (s.discardWaiting w).RestsAt w p ∧ (s.discardWaiting w).crane w = { s.crane w with order := none } := by
  obtain ⟨state, notHeld⟩ := h.of_waitsAt hw
  have settled := h.settled w notHeld
  have bound := settled.bound (by rw [state]; decide)
  obtain ⟨o, ho⟩ := Option.ne_none_iff_exists'.1 bound
  obtain ⟨p, hp⟩ := Option.ne_none_iff_exists'.1 (settled.placed bound)
  rw [discardWaiting_eq ho]
  have returned := (RailKept.refl s).returnJobs (o := o) |>.revertEntries (o := o)
  have crane : ((s.returnJobs o).revertEntries o).crane w = s.crane w := by rw [returnJobs_eq]; rfl
  have waits : ((s.returnJobs o).revertEntries o).waitsAt w := by rw [returnJobs_eq]; exact hw
  have h := h.kept returned
  have other := sibling_ne w
  generalize (s.returnJobs o).revertEntries o = u at *
  have atBay := h.atBay (x := w) (p := p) (by rw [crane, hp])
  have waits' : (u.setSpan w (.bays p.bay p.bay)).waitsAt w := waits
  have fits (known : ((u.setSpan w (.bays p.bay p.bay)).crane w).position ≠ none)
      (beside : ((u.setSpan w (.bays p.bay p.bay)).crane (sibling w)).position ≠ none) :
      (u.setSpan w (.bays p.bay p.bay)).clear w ((u.setSpan w (.bays p.bay p.bay)).spanOf w) = true := by
    have yields : ¬(u.setSpan w (.bays p.bay p.bay)).waitsAt (sibling w) := by
      rintro ⟨q, hq, e⟩
      obtain ⟨r, hr, e'⟩ := waits'
      rw [aisleOf_sibling] at hq
      cases hr.symm.trans hq
      exact other (e.symm.trans e')
    have apart := atBay.apart w known beside
    rw [State.guardOf_waiting waits' (p := p) (by rw [State.crane_setSpan, crane, hp]), State.guardOf_other yields,
      ← clear_eq_apartAt] at apart
    rwa [State.spanOf_setSpan_self]
  have unpaired := (atBay.unpair waits' fits).dropOrder List.mem_cons_self
  generalize hv : (((u.setPair (aisleOf w) none).modOrder (sibling w) fun q => { q with yieldPartner := none }).dropOrder w) = v
  have dropped : v.crane w = { s.crane w with order := none } := by
    rw [← hv, ← crane]
    exact (State.crane_modCrane_self ..).trans (congrArg (fun c => { c with order := none })
      ((State.crane_modCrane ..).trans (if_neg other)))
  have none : v.pairOf (aisleOf w) = none := by
    rw [← hv]
    exact (State.pairOf_setPair ..).trans (if_pos rfl)
  have out : ∀ e ∈ v.engine.queue, e.crane ≠ w := by
    rw [← hv]
    exact not_queued_of_state h.queue (by rw [crane, state]; nofun)
  obtain ⟨rests, same⟩ := rests_spanToPosition out (by rw [dropped]) (p := p) (by rw [dropped]; exact hp) none
  refine ⟨p, ?_, rests, same.trans dropped⟩
  rw [State.spanToPosition_known (p := p) (by rw [dropped]; exact hp)]
  have moved : RailLaw (w :: held) (v.setSpan w (.bays p.bay p.bay)) := by
    rw [← hv]
    exact unpaired
  exact moved.shrunkFrom

/-- A yield that fails: the waiting crane is IDLE, and no pair is left (R65). -/
theorem releaseWaiting (h : RailLaw held s) (hw : s.waitsAt w) :
    RailLaw held (s.releaseWaiting (some w)) ∧ (s.releaseWaiting (some w)).pairOf (aisleOf w) = none := by
  obtain ⟨p, inHand, rests, -⟩ := h.discardWaiting hw
  have kept : StoreKept True (s.discardWaiting w) ((s.discardWaiting w).setIdle w) :=
    .ite (StoreKept.refl _).setCraneState.craneStateEvent (StoreKept.refl _).setCraneState
  refine ⟨inHand.setIdle (h.of_waitsAt hw).2 rests, ?_⟩
  rw [State.pairOf, State.releaseWaiting, (kept.jobs trivial).2.2]
  exact rests.pair

/-- The partner that an order names waits. -/
theorem waitsAt_of_partner (h : RailLaw held s) (hp : s.partnerOf x = some w) : s.waitsAt w ∧ w = sibling x := by
  obtain ⟨o, ho, hw⟩ := Option.bind_eq_some_iff.1 hp
  obtain ⟨rfl, -, r, hr, e⟩ := h.partner x o w ho hw
  exact ⟨⟨r, by rw [aisleOf_sibling, hr], e⟩, rfl⟩

/-- A crane beside whose pair no partner is named has none. -/
theorem no_pair_of_partner (h : RailLaw held s) (hx : x ∉ held) (hw : ¬s.waitsAt x) (hp : s.partnerOf x = none) :
    s.pairOf (aisleOf x) = none := by
  by_contra pair
  obtain ⟨-, o, ho, -, -, partner⟩ := h.yieldsFor hx pair hw
  rw [partnerOf_eq ho, partner] at hp
  cases hp

/-- The yield of a crane that fails, before the triggers (R65). -/
theorem releasePartner (h : RailLaw held s) : RailLaw held (s.releaseWaiting (s.partnerOf x)) := by
  cases hp : s.partnerOf x with
  | none => exact h
  | some w => exact (h.releaseWaiting (h.waitsAt_of_partner hp).1).1

theorem pairOf_releasePartner (h : RailLaw held s) (pair : s.pairOf (aisleOf x) ≠ none → s.partnerOf x ≠ none) :
    (s.releaseWaiting (s.partnerOf x)).pairOf (aisleOf x) = none := by
  cases hp : s.partnerOf x with
  | none => exact not_not.1 fun k => pair k hp
  | some w =>
    obtain ⟨waits, rfl⟩ := h.waitsAt_of_partner hp
    have cleared := (h.releaseWaiting waits).2
    rwa [aisleOf_sibling] at cleared

theorem releasedTriggers (h : RailLaw held s) {w : Option Crane} : RailLaw held (s.releasedTriggers w) := by
  cases w
  · exact h
  · exact h.idleTriggers

theorem failYield (h : RailLaw held s) : RailLaw held (s.failYield x) := h.releasePartner.releasedTriggers

theorem pairOf_failYield (h : RailLaw held s) (pair : s.pairOf (aisleOf x) ≠ none → s.partnerOf x ≠ none) :
    (s.failYield x).pairOf (aisleOf x) = none := by
  have kept (u : State) (w : Option Crane) : (u.releasedTriggers w).spans.pair = u.spans.pair := by
    cases w with
    | none => rfl
    | some w => exact ((StoreKept.refl (jobs := True) u).trigger.trigger.jobs trivial).2.2
  rw [State.pairOf, State.failYield, kept]
  exact h.pairOf_releasePartner pair

end RailLaw

end Sys2Proof.Machine

namespace Sys2Proof.Machine

/-! ### The ends of an order's jobs -/

/-- A predicate that triggers keep, and every operation that leaves the rail as it is. -/
structure TriggerInvariant (P : State → Prop) : Prop where
  kept : ∀ {s t : State}, P s → RailKept s t → P t
  trigger : ∀ {s : State} {x : Crane}, P s → P (s.trigger x)

namespace TriggerInvariant

variable {P : State → Prop} (inv : TriggerInvariant P) {s : State}

include inv

theorem triggerAll (h : P s) (xs : List Crane) : P (s.triggerAll xs) := by
  unfold State.triggerAll
  induction xs generalizing s with
  | nil => exact h
  | cons x xs ih => exact ih (inv.trigger h)

theorem deliver (h : P s) {l : LaneNo} {d : Word16} : P (s.deliver l d) := by
  have delivered : P (s.deliverOnly l d) := inv.kept h (RailKept.refl s).deliverOnly
  unfold State.deliver
  split
  · exact inv.triggerAll delivered _
  · exact delivered

theorem completeRetrieve (h : P s) {tag : Word32} : P (s.completeRetrieve tag) := by
  have removed := (RailKept.refl s).removeJob (tag := tag) (clears := true)
  unfold State.completeRetrieve
  dsimp only
  split
  · exact h
  · split <;> split
    · exact inv.deliver (inv.kept h removed.raise)
    · exact inv.deliver (inv.kept h removed)
    · exact inv.kept h removed.raise
    · exact inv.kept h removed

theorem endRetrieve (h : P s) {o : Order} : P (s.endRetrieve o) := by
  unfold State.endRetrieve
  split
  · exact h
  · split
    · exact inv.completeRetrieve (inv.kept h (RailKept.refl s).relocationDone)
    · exact inv.completeRetrieve h

theorem abandonRetrieve (h : P s) {o : Order} {x : Crane} : P (s.abandonRetrieve o x) := by
  have same := RailKept.refl s
  have branch {c : Prop} [Decidable c] {t u : State} (ht : P t) (hu : P u) : P (if c then t else u) := by
    split
    · exact ht
    · exact hu
  unfold State.abandonRetrieve
  dsimp only
  split
  · exact h
  · exact branch (inv.kept h same.returnJob) (branch (inv.kept h same.strandJob) (inv.completeRetrieve h))
  · exact branch (inv.kept h same.relocationUndone.returnJob) (branch (inv.kept h same.relocationUndone.strandJob)
      (branch (inv.kept h same.relocationDone.returnJob) (branch (inv.kept h same.relocationDone.strandJob)
        (inv.completeRetrieve (inv.kept h same.relocationDone)))))

end TriggerInvariant

/-- The law with a crane at work beside no pair. -/
structure RailLaw.BusyAt (held : List Crane) (x : Crane) (st : CraneState) (o : Option Order) (s : State) : Prop where
  law : RailLaw held s
  state : (s.crane x).state = st
  order : (s.crane x).order = o
  pair : s.pairOf (aisleOf x) = none

namespace RailLaw

variable {held : List Crane} {s t : State} {x y w : Crane} {p : Position}

theorem BusyAt.triggerInvariant {st : CraneState} {o : Option Order} (hi : st ≠ .idle) (hq : st ≠ .queued) :
    TriggerInvariant (BusyAt held x st o) where
  kept h k := ⟨h.law.kept k, (k.state x).trans h.state, (k.order x).trans h.order, by
    rw [State.pairOf, k.spans]; exact h.pair⟩
  trigger {s z} h := by
    have unqueued := not_queued_of_state h.law.queue (x := x) (by rw [h.state]; exact hq)
    have reached := (Unreached.refl unqueued).trigger (y := z) (.inr (by rw [h.state]; exact hi))
    refine ⟨h.law.trigger, by rw [reached.crane, h.state], by rw [reached.crane, h.order], ?_⟩
    rw [State.pairOf, ((StoreKept.refl (jobs := True) s).trigger.jobs trivial).2.2]
    exact h.pair

/-! ### Orders given up and done (R139, R140, R145) -/

/-- An order given up: the crane rests in its state. -/
theorem giveUp (h : RailLaw held s) (hx : x ∉ held) (ho : (s.crane x).order ≠ none) (hw : (s.crane x).state ≠ .awaitYield)
    (pair : s.pairOf (aisleOf x) = none) : ∃ p, RailLaw (x :: held) (s.giveUp x) ∧ (s.giveUp x).RestsAt x p
      ∧ ((s.giveUp x).crane x).state = (s.crane x).state := by
  have state := h.state_of_order hx ho
  obtain ⟨o, ho'⟩ := Option.ne_none_iff_exists'.1 ho
  have inv := BusyAt.triggerInvariant (held := held) (x := x) (st := (s.crane x).state) (o := (s.crane x).order)
    (fun k => state (by simp [k])) (fun k => state (by simp [k]))
  have busy : BusyAt held x (s.crane x).state (s.crane x).order s := ⟨h, rfl, rfl, pair⟩
  have ends {u : State} (k : BusyAt held x (s.crane x).state (s.crane x).order u) :
      ∃ p, RailLaw (x :: held) ((u.dropOrder x).spanToPosition x) ∧ ((u.dropOrder x).spanToPosition x).RestsAt x p
        ∧ (((u.dropOrder x).spanToPosition x).crane x).state = (s.crane x).state := by
    obtain ⟨p, law, rests, crane⟩ := k.law.endOrder hx (k.order ▸ ho) (k.state ▸ hw) k.pair
    exact ⟨p, law, rests, by rw [crane]; exact k.state⟩
  unfold State.giveUp
  rw [ho']
  dsimp only
  split
  · exact ends (inv.abandonRetrieve (inv.kept busy (RailKept.refl s).abandonStore))
  · exact ends busy

/-- A crane at rest in hand becomes IDLE, and a released waiting crane is triggered before it (R65, R96). -/
theorem idleAfter (h : RailLaw (x :: held) s) (hx : x ∉ held) (r : s.RestsAt x p) {w : Option Crane} :
    RailLaw held (s.idleAfter w x) := (h.setIdle hx r).releasedTriggers.idleTriggers

theorem endDone (h : RailLaw held s) (hx : x ∉ held) (ho : (s.crane x).order ≠ none) (hw : (s.crane x).state ≠ .awaitYield)
    (pair : s.pairOf (aisleOf x) = none) {w : Option Crane} : RailLaw held (s.endDone x w) := by
  obtain ⟨p, law, rests, -⟩ := h.endOrder hx ho hw pair
  exact law.idleAfter hx rests

end RailLaw

end Sys2Proof.Machine

namespace Sys2Proof.Machine

/-- A crane with an order that does not wait, in a state that goes with one. -/
theorem State.SettledAt.withOrder {s : State} {x : Crane} (hs : (s.crane x).state ∉ [.offline, .syncing, .idle, .queued, .awaitYield])
    {o : Order} (ho : (s.crane x).order = some o) (hw : o.state ≠ .awaitYield) (hp : (s.crane x).position ≠ none) :
    s.SettledAt x := by
  simp only [List.mem_cons, List.not_mem_nil, or_false, not_or] at hs
  obtain ⟨offline, syncing, idle, queued, await⟩ := hs
  exact ⟨fun _ => by rw [ho]; nofun, by simp [offline, syncing, idle, queued], fun q k => by cases ho.symm.trans k; simp [await, hw],
    by simp [idle, queued], fun _ => hp, fun k => absurd k await⟩

/-- The state of an order's kind goes with an order. -/
theorem stateOfKind_working {k : OrderKind} {st : OrderState} (h : st ≠ .awaitYield) :
    stateOfKind k st ∉ [.offline, .syncing, .idle, .queued, .awaitYield] := by
  cases k <;> cases st <;> simp_all [stateOfKind]

namespace RailLaw

variable {held : List Crane} {s t : State} {x y w : Crane} {p : Position} {o q : Order} {c : CraneCtx}

/-- The state of a crane that holds an order and does not wait. -/
theorem working (h : RailLaw held s) (hx : x ∉ held) (ho : (s.crane x).order ≠ none) (hw : (s.crane x).state ≠ .awaitYield) :
    (s.crane x).state ∉ [.offline, .syncing, .idle, .queued, .awaitYield] := by
  have state := h.state_of_order hx ho
  simp only [List.mem_cons, List.not_mem_nil, or_false, not_or] at state ⊢
  exact ⟨state.1, state.2.1, state.2.2.1, state.2.2.2, hw⟩

theorem order_not_waiting (h : RailLaw held s) (hx : x ∉ held) (ho : (s.crane x).order = some o) (hw : (s.crane x).state ≠ .awaitYield) :
    o.state ≠ .awaitYield := fun k => hw (((h.settled x hx).waits o ho).1 k)

/-! ### Orders that go on (R132, R135, R143) -/

/-- A crane's order goes on in another state, or its crane does. -/
theorem rework (h : RailLaw held s) (hx : x ∉ held) (hw : (s.crane x).state ≠ .awaitYield) (ho : (s.crane x).order = some o)
    (hp : c.position = (s.crane x).position) (hc : c.order = some q) (partner : q.yieldPartner = o.yieldPartner)
    (waits : q.state ≠ .awaitYield) (hs : c.state ∉ [.offline, .syncing, .idle, .queued, .awaitYield])
    (yields : s.pairOf (aisleOf x) ≠ none → q.kind = o.kind ∧ c.state = stateOfKind q.kind q.state
      ∧ (q.state = .sent ∨ q.state = .running)) : RailLaw held (s.setCrane x c) := by
  have before := h.working hx (by rw [ho]; nofun) hw
  have crane : (s.setCrane x c).crane x = c := State.crane_setCrane_self ..
  refine restate hp (iff_of_false (fun k => hs (by simp [k])) fun k => before (by simp [k]))
    (fun r v hr hv => ⟨o, ho, by cases hc.symm.trans hr; rw [← partner, hv]⟩) h hx
    (outsideEngine h.queue fun k => before (by simp [k])) hw ?_ fun pair => ?_
  · exact .withOrder (by rw [crane]; exact hs) (by rw [crane]; exact hc) waits
      (by rw [crane, hp]; exact (h.settled x hx).placed (by rw [ho]; nofun))
  · obtain ⟨kind, state, goes⟩ := yields pair
    obtain ⟨-, o', ho', yield, -, named⟩ := h.yieldsFor hx pair (h.not_waitsAt hw)
    cases ho.symm.trans ho'
    refine ⟨?_, q, by rw [crane]; exact hc, kind.trans yield, goes, partner.trans named⟩
    rw [crane, state, kind, yield]
    rfl

theorem startOrder (h : RailLaw held s) (hx : x ∉ held) (hw : (s.crane x).state ≠ .awaitYield) {proved : Bool} :
    RailLaw held (s.startOrder x proved) := by
  cases ho : (s.crane x).order with
  | none => simpa only [State.startOrder, ho] using h
  | some o =>
    have active := h.kept ((RailKept.refl s).activateJobs (o := o))
    have crane : (s.activateJobs o).crane x = s.crane x := by rw [activateJobs_eq]; rfl
    have pairs : (s.activateJobs o).pairOf = s.pairOf := by rw [activateJobs_eq]; rfl
    have order : ((s.activateJobs o).crane x).order = some o := by rw [crane, ho]
    have running {legs : List Leg} : RailLaw held ((s.activateJobs o).setCrane x { s.crane x with
        state := stateOfKind o.kind .running, timeouts := 0
        order := some { o with state := .running, lastCapture := some s.sup.durationClock, legs := legs } }) :=
      active.rework hx (by rwa [crane]) order (by rw [crane]) rfl rfl (by simp) (stateOfKind_working (st := .running) (by simp))
        fun _ => ⟨rfl, rfl, .inr rfl⟩
    by_cases hf : (s.crane x).state = .faulted
    · rw [startOrder_faulted ho hf]
      refine active.rework hx (by rwa [crane]) order (by rw [crane]) rfl rfl (by simp) (by simp [hf]) fun pair => absurd ?_ pair
      rw [pairs]
      exact h.no_pair_of_state hx hw (by rw [hf]; nofun)
    · by_cases hl : (s.crane x).state = .lost
      · rw [startOrder_lost ho hl]
        exact running.kept (RailKept.refl _).craneStateEvent
      · rw [startOrder_other ho hf hl]
        exact running

theorem startIfSent (h : RailLaw held s) (hx : x ∉ held) (hw : (s.crane x).state ≠ .awaitYield) :
    RailLaw held (s.startIfSent x) := by
  unfold State.startIfSent
  split
  · split
    · exact h.startOrder hx hw
    · exact h
  · exact h

/-- The suspended order of a LOST crane that runs again (R146). -/
theorem resumeLost (h : RailLaw held s) (hx : x ∉ held) (hl : (s.crane x).state = .lost) : RailLaw held (s.resumeLost x) := by
  have hw : (s.crane x).state ≠ .awaitYield := by rw [hl]; nofun
  unfold State.resumeLost
  split
  · exact h
  · rename_i o ho
    split
    · rw [modOrder_eq ho, takeKindState_lost (by rw [State.crane_setCrane_self]) (by rw [State.crane_setCrane_self]; exact hl),
        State.crane_setCrane_self, setCrane_setCrane]
      have running : RailLaw held (s.setCrane x { s.crane x with
          state := stateOfKind o.kind .running, order := some { o with state := .running } }) :=
        h.rework hx hw ho rfl rfl rfl (by simp) (stateOfKind_working (st := .running) (by simp)) fun _ => ⟨rfl, rfl, .inr rfl⟩
      exact running.kept (RailKept.refl _).craneStateEvent
    · exact h.startIfSent hx hw

/-! ### Orders that fail (R66, R133, R141, R146) -/

/-- A crane's order goes on in another state, and its yield fails. -/
theorem reworkFailing (h : RailLaw held s) (hx : x ∉ held) (hw : (s.crane x).state ≠ .awaitYield) (ho : (s.crane x).order = some o)
    (hp : c.position = (s.crane x).position) (hc : c.order = some q) (partner : q.yieldPartner = o.yieldPartner)
    (waits : q.state ≠ .awaitYield) (hs : c.state ∉ [.offline, .syncing, .idle, .queued, .awaitYield])
    (k : RailKept (s.setCrane x c) t) : RailLaw held (t.failYield x) := by
  have before := h.working hx (by rw [ho]; nofun) hw
  have placed := (h.settled x hx).placed (by rw [ho]; nofun)
  have taken : RailLaw (x :: held) s :=
    h.take hw (fun k => before (by simp [k])) (outsideEngine h.queue fun k => before (by simp [k]))
  have moved : RailLaw (x :: held) (s.setCrane x c) :=
    setCrane hp (iff_of_false (fun k => hs (by simp [k])) fun k => before (by simp [k]))
      (fun r v hr hv => ⟨o, ho, by cases hc.symm.trans hr; rw [← partner, hv]⟩) taken List.mem_cons_self (fun k => hs (by simp [k]))
  have law := moved.kept k
  have state : (t.crane x).state = c.state := by rw [k.state, State.crane_setCrane_self]
  have order : (t.crane x).order = some q := by rw [k.order, State.crane_setCrane_self, hc]
  have position : (t.crane x).position = (s.crane x).position := by rw [k.position, State.crane_setCrane_self, hp]
  have pairs : t.pairOf (aisleOf x) = s.pairOf (aisleOf x) := congrArg (·.pair.get (aisleOf x)) k.spans
  have none : (t.failYield x).pairOf (aisleOf x) = none := by
    refine law.pairOf_failYield fun pair => ?_
    obtain ⟨-, o', ho', -, -, named⟩ := h.yieldsFor hx (pairs ▸ pair) (h.not_waitsAt hw)
    cases ho.symm.trans ho'
    rw [partnerOf_eq order, partner, named]
    nofun
  obtain ⟨p, crane, -⟩ := crane_failYield order (fun v hv => (law.partner x q v order hv).1) (law.busy x List.mem_cons_self)
    (law.out x List.mem_cons_self).1
  refine law.failYield.release hx ?_ (fun pair => absurd none pair)
  exact .withOrder (o := { q with yieldPartner := p }) (by rw [crane]; exact state ▸ hs) (by rw [crane]) waits (by rw [crane]; exact position ▸ placed)

/-- A crane that leaves the engine with its state (R99, R113). -/
theorem leaveEngine (h : RailLaw held s) (hx : x ∉ held) (hs : (s.crane x).state = .queued) (e : SameElsewhere x s t)
    (engine : t.engine = s.engine) (stands : t.StandsAt x) (settled : t.SettledAt x) (free : (t.crane x).order = none) :
    RailLaw held (t.leaveEngine x) := by
  obtain ⟨-, pair, -⟩ := h.resting hx (.inr hs)
  have left {u v : State} (hu : RailLaw held u) (out : u.OutsideEngine x) (su : SameElsewhere x s u) (tv : SameElsewhere x t v)
      (uv : v.engine = u.engine) (ev : SameElsewhere x u v) (crane : v.crane x = t.crane x) (span : v.spanOf x = t.spanOf x) :
      RailLaw held v := by
    have none : u.pairOf (aisleOf x) = Option.none := by rw [su.pairOf]; exact pair
    obtain ⟨bound, frees, waits, rests, placed, paired⟩ := settled
    refine hu.changed ev uv (fun _ => .inr out) (stands.same tv (by rw [crane]) span (by rw [crane])) (fun _ _ => Iff.rfl) (fun _ => ?_)
      (fun k => absurd k hx) (fun o v ho => by rw [crane, free] at ho; cases ho) (fun k => absurd k (not_waitsAt_of_no_pair none))
      (fun _ _ k => absurd none k)
    constructor <;> rw [crane] <;> try assumption
    · rwa [span]
    · rwa [tv.waitsAt]
  unfold State.leaveEngine
  split
  · rename_i evaluated
    obtain ⟨q, hq, hqx⟩ := (underEvaluation_iff _ _).1 evaluated
    refine engineRun (left h.freeEngine ⟨fun d hd k => ?_, fun _ k => by cases k⟩ (SameElsewhere.refl x s |>.elsewhere _)
      ((SameElsewhere.refl x t).elsewhere _) (by unfold State.setPass; rw [engine]) ⟨e.crane, e.span, e.pair, e.geometry⟩ rfl rfl)
    have apart := (h.queue.1 d hd).2
    have evaluated : s.underEvaluation x = true := (underEvaluation_iff _ _).2 ⟨q, engine ▸ hq, hqx⟩
    rw [k, evaluated] at apart
    cases apart
  · rename_i standing
    refine left (h.dequeue (x := x)) ⟨fun d hd => (State.mem_dequeue hd).2, fun q hq k => standing ?_⟩
      (SameElsewhere.refl x s |>.elsewhere _) ((SameElsewhere.refl x t).elsewhere _)
      (by unfold State.dequeue State.setEngine; rw [engine]) ⟨e.crane, e.span, e.pair, e.geometry⟩ rfl rfl
    exact (underEvaluation_iff _ _).2 ⟨q, by rw [engine]; exact hq, k⟩

end RailLaw

end Sys2Proof.Machine

namespace Sys2Proof.Machine

theorem State.RestsAt.kept {s t : State} {x : Crane} {p : Position} (r : s.RestsAt x p) (k : RailKept s t) : t.RestsAt x p where
  order := (k.order x).trans r.order
  position := (k.position x).trans r.position
  span := (congrArg (·.span.get x) k.spans).trans r.span
  pair := (congrArg (·.pair.get (aisleOf x)) k.spans).trans r.pair

namespace RailLaw

variable {held : List Crane} {s t u : State} {x y w : Crane} {p : Position} {o q : Order} {c : CraneCtx}

/-! ### Ends of orders (R64, R134, R136, R139, R140) -/

/-- A crane at rest in hand that stays FAULTED or LOST. -/
theorem release_failed (h : RailLaw (x :: held) s) (hx : x ∉ held) (r : s.RestsAt x p)
    (hs : (s.crane x).state = .faulted ∨ (s.crane x).state = .lost) : RailLaw held s :=
  h.release hx (.failed hs (fun o k => by cases r.order.symm.trans k) fun k => absurd r.order k) fun k => absurd r.pair k

/-- The partner of a crane with an order released: the crane keeps its state and an order, and no pair is left. -/
theorem releasedPartner (h : RailLaw held s) (hx : x ∉ held) (ho : (s.crane x).order ≠ none) (hw : (s.crane x).state ≠ .awaitYield)
    (hu : u = s.releaseWaiting (s.partnerOf x)) :
    RailLaw held u ∧ u.pairOf (aisleOf x) = none ∧ (u.crane x).state = (s.crane x).state ∧ (u.crane x).order ≠ none := by
  subst hu
  have before := h.working hx ho hw
  refine ⟨h.releasePartner, h.pairOf_releasePartner fun pair k => pair (h.no_pair_of_partner hx (h.not_waitsAt hw) k), ?_⟩
  cases hp : s.partnerOf x with
  | none => exact ⟨rfl, ho⟩
  | some v =>
    obtain ⟨-, rfl⟩ := h.waitsAt_of_partner hp
    obtain ⟨crane, -, -⟩ := crane_releaseWaiting (s := s) (y := x) (fun k => before (by simp [k]))
      (not_queued_of_state h.queue fun k => before (by simp [k]))
    obtain e | e := crane <;> rw [e]
    · exact ⟨rfl, ho⟩
    · exact ⟨rfl, fun k => ho (Option.map_eq_none_iff.1 k)⟩

theorem endDeclined (h : RailLaw held s) (hx : x ∉ held) (ho : (s.crane x).order ≠ none) (hw : (s.crane x).state ≠ .awaitYield)
    (pair : s.pairOf (aisleOf x) = none) {w : Option Crane} : RailLaw held (s.endDeclined x w) := by
  have cleared := h.kept ((RailKept.refl s).modCrane (x := x) (f := fun c => { c with timeouts := 0 }))
  have crane : (s.modCrane x fun c => { c with timeouts := 0 }).crane x = { s.crane x with timeouts := 0 } :=
    State.crane_modCrane_self ..
  obtain ⟨p, law, rests, same⟩ := cleared.endOrder hx (by rw [crane]; exact ho) (by rw [crane]; exact hw) pair
  unfold State.endDeclined
  dsimp only
  split
  · rename_i hf
    exact (law.release_failed hx rests (by rw [same, crane]; exact .inl hf)).releasedTriggers
  · exact law.idleAfter hx rests

theorem endRevoked (h : RailLaw held s) (hx : x ∉ held) (ho : (s.crane x).order ≠ none) (hw : (s.crane x).state ≠ .awaitYield)
    (pair : s.pairOf (aisleOf x) = none) : RailLaw held (s.endRevoked x) := by
  obtain ⟨p, law, rests, crane⟩ := h.endOrder hx ho hw pair
  have counted (n : Nat) := (RailKept.refl ((s.dropOrder x).spanToPosition x)).modCrane (x := x)
    (f := fun c => { c with timeouts := n })
  have stays {n : Nat} (hf : (s.crane x).state = .faulted) :
      RailLaw held (((s.dropOrder x).spanToPosition x).modCrane x fun c => { c with timeouts := n }) :=
    (law.kept (counted n)).release_failed hx (rests.kept (counted n)) (.inl (by rw [(counted n).state, crane]; exact hf))
  unfold State.endRevoked
  dsimp only
  split
  · split
    · rename_i hf
      exact stays (beq_iff_eq.1 hf)
    · exact ((law.kept (counted _)).setIdle hx (rests.kept (counted _))).idleTriggers
  · split
    · rename_i hf
      exact stays (beq_iff_eq.1 hf)
    · have faulted := (law.kept (counted 0)).letGo_resting hx (rests.kept (counted 0)) (st := .faulted) (by simp)
      exact faulted.kept (RailKept.refl _).craneStateEvent

/-- The waiting crane's order is sent at the end of the yield, its claim clear of its sibling's bay (R64). -/
theorem sendWaiting (h : RailLaw (w :: held) s) (hw : w ∉ held) (ho : (s.crane w).order = some o) (hp : (s.crane w).position ≠ none)
    (pair : s.pairOf (aisleOf w) = none) : RailLaw held (s.sendOrder w) := by
  have sent : RailLaw held (s.setCrane w { s.crane w with
      order := some { o with state := .sent, acceptTimer := 0 }, state := stateOfKind o.kind .sent }) := by
    have works := stateOfKind_working (k := o.kind) (st := .sent) (by simp)
    refine letGo (by rfl) (iff_of_false (fun k => works ?_) (h.enrolled_of_position hp)) (fun q v k hv => ?_) h hw ?_
      fun k => absurd pair k
    · exact k ▸ (by simp)
    · cases k
      exact ⟨o, ho, hv⟩
    · exact .withOrder (o := { o with state := .sent, acceptTimer := 0 }) (by rw [State.crane_setCrane_self]; exact works)
        (by rw [State.crane_setCrane_self]) (by simp) (by rw [State.crane_setCrane_self]; exact hp)
  rw [State.sendOrder_kind ho]
  exact sent.kept (RailKept.refl _).emit

theorem endYield (h : RailLaw held s) (hx : x ∉ held) (ho : (s.crane x).order ≠ none) (hw : (s.crane x).state ≠ .awaitYield) :
    RailLaw held (s.endYield x) := by
  unfold State.endYield
  split
  · rename_i hp
    exact h.endDone hx ho hw (h.no_pair_of_partner hx (h.not_waitsAt hw) hp)
  · rename_i w hp
    obtain ⟨waits, rfl⟩ := h.waitsAt_of_partner hp
    obtain ⟨-, free⟩ := h.of_waitsAt waits
    obtain ⟨p, law, crane, position, span, pairs⟩ := h.dropYield hx ho hw
    dsimp only
    generalize hu : (s.dropOrder x).spanToPosition x = u at *
    have other := sibling_ne x
    have waits' : u.waitsAt (sibling x) := by
      obtain ⟨r, hr, e⟩ := waits
      exact ⟨r, by rw [State.pairOf, pairs]; exact hr, e⟩
    have outside : sibling x ∉ x :: held := (law.of_waitsAt waits').2
    have state := law.busy x List.mem_cons_self
    split
    · rename_i clear
      have settled := law.settled _ outside
      have bound := settled.bound (by rw [(law.of_waitsAt waits').1]; decide)
      obtain ⟨o, ho⟩ := Option.ne_none_iff_exists'.1 bound
      have unpaired := law.unpair waits' fun _ _ => clear
      have same : (u.setPair (aisleOf (sibling x)) none).modOrder (sibling (sibling x)) (fun q => { q with yieldPartner := none })
          = (u.setPair (aisleOf (sibling x)) none).setCrane x (u.crane x) := by
        rw [sibling_sibling, State.modOrder, State.modCrane]
        exact congrArg _ (by rw [State.crane_setPair, crane]; rfl)
      rw [same] at unpaired
      generalize hv : (u.setPair (aisleOf (sibling x)) none).setCrane x (u.crane x) = v at unpaired
      have craneV (y : Crane) : v.crane y = u.crane y := by
        rw [← hv, State.crane_setCrane]
        split
        · rename_i e
          exact e ▸ rfl
        · rfl
      have none : v.pairOf (aisleOf x) = Option.none := by
        rw [← hv, ← aisleOf_sibling x]
        exact (State.pairOf_setPair ..).trans (if_pos rfl)
      have rests : v.RestsAt x p := by
        refine ⟨by rw [craneV, crane], by rw [craneV, crane]; exact position, ?_, none⟩
        rw [← hv]
        exact span
      have swapped : RailLaw (x :: sibling x :: held) v := unpaired.congr fun y => by simp [or_left_comm]
      have idle := swapped.setIdle (fun k => (List.mem_cons.1 k).elim (fun e => other e.symm) hx) rests
      have untouched := (Unreached.refl (s := v) (x := sibling x) (swapped.out _ (by simp)).1).setIdle other.symm
      have sent := idle.sendWaiting free (o := o) (by rw [untouched.crane, craneV]; exact ho)
        (by rw [untouched.crane, craneV]; exact settled.placed bound) ?_
      · have commutes : (u.setIdle x).sendWaiting (sibling x) = (v.setIdle x).sendOrder (sibling x) := by
          rw [State.sendWaiting]
          refine congrArg (State.sendOrder · (sibling x)) ?_
          rw [← hv]
          unfold State.setIdle
          rw [State.crane_setCrane_self]
          dsimp only
          rw [State.setCraneState, State.setCraneState, State.modCrane, State.modCrane, State.crane_setCrane_self, setCrane_setCrane]
          split <;> rfl
        rw [commutes]
        exact sent.idleTriggers
      · have kept : StoreKept True v (v.setIdle x) :=
          .ite (StoreKept.refl _).setCraneState.craneStateEvent (StoreKept.refl _).setCraneState
        rw [aisleOf_sibling, State.pairOf, (kept.jobs trivial).2.2]
        exact none
    · obtain ⟨released, none⟩ := law.releaseWaiting waits'
      obtain ⟨same, spans, -⟩ := crane_releaseWaiting (s := u) (y := x) state (law.out x List.mem_cons_self).1
      have untouched : (u.releaseWaiting (some (sibling x))).crane x = u.crane x := by
        obtain e | e := same
        · exact e
        · rw [e, crane]
          rfl
      refine released.idleAfter hx ⟨by rw [untouched, crane], by rw [untouched, crane]; exact position, spans.trans span, ?_⟩
      rw [← aisleOf_sibling x]
      exact none

end RailLaw

end Sys2Proof.Machine

namespace Sys2Proof.Machine

theorem crane_loseSight_syncing (s : State) (x : Crane) :
    ((s.loseSight x).setCraneState x .syncing).crane x = { s.crane x with state := .syncing, position := none } := by
  have blind : (s.loseSight x).crane x = { s.crane x with position := none } :=
    State.crane_modCrane_self s x fun c => { c with position := none }
  rw [State.setCraneState, State.crane_modCrane_self, blind]

namespace RailLaw

variable {held : List Crane} {s t u : State} {x y w : Crane} {p : Position} {o q : Order} {c : CraneCtx}

/-! ### Cranes that fail, rest or settle (R126, R141 to R146) -/

/-- A crane that neither waits nor is in the engine becomes FAULTED or LOST with what it holds. -/
theorem failed (h : RailLaw held s) (hx : x ∉ held) (hs : (s.crane x).state ∉ [.offline, .queued, .awaitYield, .yielding])
    {st : CraneState} (hst : st = .faulted ∨ st = .lost) : RailLaw held (s.setCraneState x st) := by
  simp only [List.mem_cons, List.not_mem_nil, or_false, not_or] at hs
  obtain ⟨offline, queued, waits, yields⟩ := hs
  have settled := h.settled x hx
  have crane : (s.setCrane x { s.crane x with state := st }).crane x = { s.crane x with state := st } :=
    State.crane_setCrane_self ..
  refine restate (by rfl) (iff_of_false (fun k => ?_) offline) (fun o v k hv => ⟨o, k, hv⟩) h hx (outsideEngine h.queue queued) waits ?_
    fun pair => absurd (h.no_pair_of_state hx waits yields) pair
  · obtain rfl | rfl := hst <;> cases k
  · exact .failed (by rw [crane]; exact hst) (fun o k => by rw [crane] at k; exact h.order_not_waiting hx k waits)
      (by rw [crane]; exact settled.placed)

theorem enterFaulted (h : RailLaw held s) (hx : x ∉ held) (hs : (s.crane x).state ∉ [.offline, .queued, .awaitYield, .yielding])
    {cause : StateCause} : RailLaw held (s.enterFaulted x cause) :=
  (h.failed hx hs (.inl rfl)).kept (RailKept.refl _).craneStateEvent

/-- A crane without an order becomes SYNCING and keeps its span. -/
theorem syncing (h : RailLaw held s) (hx : x ∉ held) (hs : (s.crane x).state ∉ [.offline, .queued, .awaitYield, .yielding])
    (ho : (s.crane x).order = none) : RailLaw held (s.setCraneState x .syncing) := by
  simp only [List.mem_cons, List.not_mem_nil, or_false, not_or] at hs
  obtain ⟨offline, queued, waits, yields⟩ := hs
  refine restate (by rfl) (iff_of_false nofun offline) (fun o v k hv => ⟨o, k, hv⟩) h hx (outsideEngine h.queue queued) waits
    (.away (.inr (by rw [State.crane_setCrane_self])) (by rw [State.crane_setCrane_self]; exact ho))
    fun pair => absurd (h.no_pair_of_state hx waits yields) pair

/-- A crane without an order whose span is known rests at its bay. -/
theorem restAtBay (h : RailLaw held s) (hx : x ∉ held) (ho : (s.crane x).order = none)
    (hs : (s.crane x).state ∈ [.faulted, .lost, .syncing]) (hu : s.spanOf x ≠ .unknown) :
    ∃ p, RailLaw (x :: held) (s.spanToPosition x) ∧ (s.spanToPosition x).RestsAt x p := by
  have notState (st : CraneState) (k : st ∉ [.faulted, .lost, .syncing]) : (s.crane x).state ≠ st := fun e => k (e ▸ hs)
  have known : (s.crane x).position ≠ none := by
    refine (h.place x).known.2 ?_
    cases e : s.spanOf x with
    | unknown => exact absurd e hu
    | absent => exact absurd ((h.place x).absent.1 e) (notState _ (by simp))
    | bays lo hi => exact ⟨lo, hi, rfl⟩
  obtain ⟨p, hp⟩ := Option.ne_none_iff_exists'.1 known
  have pair := h.no_pair_of_state hx (notState _ (by simp)) (notState _ (by simp))
  have taken := h.take (notState _ (by simp)) (notState _ (by simp)) (outsideEngine h.queue (notState _ (by simp)))
  exact ⟨p, taken.spanToPosition, (rests_spanToPosition (taken.out x List.mem_cons_self).1 ho hp pair).1⟩

theorem settleIdle (h : RailLaw held s) (hx : x ∉ held) (hs : (s.crane x).state = .syncing ∨ (s.crane x).state = .lost)
    (ho : (s.crane x).order = none) : RailLaw held (s.settleIdle x) := by
  unfold State.settleIdle
  split
  · split
    · rename_i hl
      exact (h.syncing hx (by simp [hl]) ho).kept (RailKept.refl _).craneStateEvent
    · exact h
  · rename_i hu
    obtain ⟨p, law, rests⟩ := h.restAtBay hx ho (by obtain e | e := hs <;> simp [e]) hu
    exact (law.setIdle hx rests).idleTriggers

theorem clearFault (h : RailLaw held s) (hx : x ∉ held) (hs : (s.crane x).state = .faulted ∨ (s.crane x).state = .lost)
    {cause : StateCause} : RailLaw held (s.clearFault x cause) := by
  have state (st : CraneState) (hf : st ≠ .faulted) (hl : st ≠ .lost) : (s.crane x).state ≠ st := by
    obtain e | e := hs <;> rw [e] <;> exact Ne.symm ‹_›
  cases ho : (s.crane x).order with
  | none =>
    rw [clearFault_without cause ho]
    split
    · exact (h.syncing hx (by obtain e | e := hs <;> simp [e]) ho).kept (RailKept.refl _).craneStateEvent
    · rename_i hu
      obtain ⟨p, law, rests⟩ := h.restAtBay hx ho (by obtain e | e := hs <;> simp [e]) hu
      exact ((law.letGo_resting hx rests (st := .idle) (by simp)).kept (RailKept.refl _).craneStateEvent).idleTriggers
  | some o =>
    have waits := h.order_not_waiting hx ho (state _ (by simp) (by simp))
    have cleared : (if o.state = .suspended then OrderState.running else o.state) ≠ .awaitYield := by
      split
      · simp
      · exact waits
    rw [clearFault_order ho]
    refine kept (h.rework hx (state _ (by simp) (by simp)) ho (by rfl) rfl ?_ ?_ (stateOfKind_working cleared) fun pair => ?_)
      (RailKept.refl _).craneStateEvent
    · split <;> rfl
    · split
      · simp
      · exact waits
    · exact absurd (h.no_pair_of_state hx (state _ (by simp) (by simp)) (state _ (by simp) (by simp))) pair

/-- A QUEUED crane that fails leaves the engine (R99). -/
theorem failQueued (h : RailLaw held s) (hx : x ∉ held) (hs : (s.crane x).state = .queued) {st : CraneState}
    (hst : st = .faulted ∨ st = .lost) {cause : StateCause} :
    RailLaw held (((s.setCraneState x st).craneStateEvent x cause).leaveEngine x) := by
  obtain ⟨order, -, p, hp, span⟩ := h.resting hx (.inr hs)
  generalize ht : (s.setCraneState x st).craneStateEvent x cause = t
  have e : SameElsewhere x s t := ht ▸ ((SameElsewhere.refl x s).modCrane.modCrane (f := fun k => { k with stateCause := some cause })).elsewhere _
  have crane : t.crane x = { s.crane x with state := st, stateCause := some cause } := by
    rw [← ht]
    exact (State.crane_modCrane_self (s.setCraneState x st) x fun k => { k with stateCause := some cause }).trans
      (congrArg (fun k => { k with stateCause := some cause }) (State.crane_modCrane_self ..))
  have state : st ≠ .offline := by obtain rfl | rfl := hst <;> nofun
  have none : (t.crane x).order = none := by rw [crane]; exact order
  refine h.leaveEngine hx hs e (ht ▸ rfl) ((h.stands x).same e (by rw [crane]) (ht ▸ rfl) ?_) ?_ none
  · rw [crane, hs]
    exact iff_of_false state nofun
  · exact .failed (by rw [crane]; exact hst) (fun o k => by cases none.symm.trans k) fun k => absurd none k

/-- A crane without an order that moves under one the part does not hold (R142, R146). -/
theorem busyUnknown (h : RailLaw held s) (hx : x ∉ held) (hs : (s.crane x).state ∈ [.idle, .queued, .lost])
    (ho : (s.crane x).order = none) : RailLaw held (s.busyUnknown x) := by
  have notState (st : CraneState) (k : st ∉ [.idle, .queued, .lost]) : (s.crane x).state ≠ st := fun e => k (e ▸ hs)
  have pair := h.no_pair_of_state hx (notState _ (by simp)) (notState _ (by simp))
  generalize ht : (s.loseSight x).setCraneState x .syncing = t
  have e : SameElsewhere x s t := ht ▸ (SameElsewhere.refl x s).modCrane.setSpan.modCrane
  have crane : t.crane x = { s.crane x with state := .syncing, position := none } := by
    rw [← ht, crane_loseSight_syncing]
  have span : t.spanOf x = .unknown := by
    rw [← ht]
    exact State.spanOf_setSpan_self ..
  have order : (t.crane x).order = none := by rw [crane]; exact ho
  have position : (t.crane x).position = none := by rw [crane]
  have state : (t.crane x).state = .syncing := by rw [crane]
  have forgotten (out : s.OutsideEngine x) : RailLaw held t :=
    h.forget hx (fun _ _ => Iff.rfl) out pair e (ht ▸ rfl) (.inl ⟨state, span⟩) order position
  unfold State.busyUnknown
  rw [ht]
  split
  · rename_i hl
    exact (forgotten (outsideEngine h.queue (by rw [hl]; nofun))).kept (RailKept.refl _).craneStateEvent
  · rename_i hq
    refine h.leaveEngine hx hq e (ht ▸ rfl) (.unplaced position (by simp [span]) (by simp [span, state])) (.away (.inr state) order) order
  · rename_i hq
    exact forgotten (outsideEngine h.queue hq)

theorem loadAboard (h : RailLaw held s) (hx : x ∉ held) (hs : (s.crane x).state ∈ [.idle, .queued, .lost, .syncing]) :
    RailLaw held (s.loadAboard x) := by
  unfold State.loadAboard
  split
  · rename_i hq
    exact h.failQueued hx hq (.inl rfl)
  · rename_i hq
    have same := (crane_spanToPosition (not_queued_of_state h.queue (x := x) (by rw [hq]; nofun))).1
    exact h.spanToPosition.enterFaulted hx (by rw [same, hq]; simp)
  · rename_i hq _
    exact h.enterFaulted hx fun k => by
      simp only [List.mem_cons, List.not_mem_nil, or_false] at hs k
      obtain e | e | e | e := hs <;> simp_all

/-! ### Orders lost (R142, R145, R146) -/

theorem orderLostIdle (h : RailLaw held s) (hx : x ∉ held) (ho : (s.crane x).order ≠ none) (hw : (s.crane x).state ≠ .awaitYield) :
    RailLaw held (s.orderLostIdle x) := by
  obtain ⟨law, pair, state, order⟩ := h.releasedPartner hx ho hw rfl
  obtain ⟨p, ended, rests, -⟩ := law.giveUp hx order (by rw [state]; exact hw) pair
  have idle := ended.letGo_resting hx rests (st := .idle) (by simp)
  exact (idle.kept (RailKept.refl _).craneStateEvent).releasedTriggers.idleTriggers

theorem orderLostSyncing (h : RailLaw held s) (hx : x ∉ held) (ho : (s.crane x).order ≠ none) (hw : (s.crane x).state ≠ .awaitYield) :
    RailLaw held (s.orderLostSyncing x) := by
  obtain ⟨law, pair, state, order⟩ := h.releasedPartner hx ho hw rfl
  obtain ⟨p, ended, rests, -⟩ := law.giveUp hx order (by rw [state]; exact hw) pair
  unfold State.orderLostSyncing
  dsimp only
  generalize (s.releaseWaiting (s.partnerOf x)).giveUp x = u at *
  have crane := crane_loseSight_syncing u x
  have lost : RailLaw held ((u.loseSight x).setCraneState x .syncing) :=
    ended.forget hx (fun y hy => by simp [hy]) (ended.out x List.mem_cons_self) rests.pair
      (SameElsewhere.refl x u).modCrane.setSpan.modCrane rfl (.inl ⟨by rw [crane], State.spanOf_setSpan_self ..⟩)
      (by rw [crane]; exact rests.order) (by rw [crane])
  exact (lost.kept (RailKept.refl _).craneStateEvent).releasedTriggers

/-! ### Timers (R133, R146) -/

theorem expireAccept (h : RailLaw held s) (hx : x ∉ held) : RailLaw held (s.expireAccept x) := by
  unfold State.expireAccept
  split
  · exact h
  · rename_i o ho
    have revoked (hs : o.state ≠ .awaitYield) : (s.crane x).state ≠ .awaitYield := fun k => hs (((h.settled x hx).waits o ho).2 k)
    rw [modOrder_eq ho]
    dsimp only
    split
    · rename_i hs
      have hw := revoked (by rw [hs]; nofun)
      have bound := h.working hx (by rw [ho]; nofun) hw
      exact h.reworkFailing (q := { o with state := .revoking, acceptTimer := 0 }) (c := { s.crane x with
          order := some { o with state := .revoking, acceptTimer := 0 } }) hx hw ho rfl rfl rfl (by simp) bound
        (RailKept.refl _).emit
    · rename_i hs
      have waits : RailLaw held (s.setCrane x { s.crane x with order := some { o with state := .revoking, acceptTimer := 0 } }) :=
        h.reorder rfl rfl (by simp [ho, Order.role, hs])
      exact waits.kept (RailKept.refl _).emit
    · exact h

theorem loseCrane (h : RailLaw held s) (hx : x ∉ held) : RailLaw held (s.loseCrane x) := by
  have lost {t : State} (k : RailLaw held t) (hs : (t.crane x).state ∉ [.offline, .queued, .awaitYield, .yielding]) :
      RailLaw held ((t.setCraneState x .lost).craneStateEvent x .silence) :=
    (k.failed hx hs (.inr rfl)).kept (RailKept.refl _).craneStateEvent
  unfold State.loseCrane
  dsimp only
  split
  case h_1 | h_2 => exact h
  case h_3 hs | h_4 hs => exact lost h (by rw [hs]; simp)
  case h_5 hs => exact h.failQueued hx hs (.inr rfl)
  case h_6 hs =>
    obtain ⟨p, law, rests, -⟩ := h.discardWaiting ((h.settled x hx).paired hs)
    exact (law.letGo_resting hx rests (st := .lost) (by simp)).kept (RailKept.refl _).craneStateEvent
  all_goals
    rename_i hs
    have hw : (s.crane x).state ≠ .awaitYield := by rw [hs]; nofun
    split
    · rename_i ho
      have settled := h.settled x hx
      refine lost h fun k => ?_
      have := settled.bound
      simp_all
    · rename_i o ho
      split
      · rw [suspendOrder_eq ho, State.setCraneState, State.modCrane, State.crane_setCrane_self, setCrane_setCrane]
        exact h.reworkFailing (q := { o with
            state := .suspended, legs := o.legs.modify o.nextLeg fun l => { l with valid := false } })
          hx hw ho (by rfl) (by rfl) rfl (by simp) (by simp) (RailKept.refl _).craneStateEvent
      · exact h.reworkFailing (c := { s.crane x with state := .lost }) hx hw ho (by rfl) ho rfl
          (h.order_not_waiting hx ho hw) (by simp) (RailKept.refl _).craneStateEvent

end RailLaw

end Sys2Proof.Machine

namespace Sys2Proof.Machine

/-- A crane holds an order of a kind that does not wait. -/
def State.Carries (s : State) (x : Crane) (k : OrderKind) : Prop :=
  ∃ q, (s.crane x).order = some q ∧ q.kind = k ∧ q.state ≠ .awaitYield

theorem State.Carries.startOrder {s : State} {x : Crane} {k : OrderKind} (h : s.Carries x k) {proved : Bool} :
    (s.startOrder x proved).Carries x k := by
  obtain ⟨o, ho, hk, -⟩ := h
  by_cases hf : (s.crane x).state = .faulted
  · rw [startOrder_faulted ho hf]
    exact ⟨_, congrArg CraneCtx.order (State.crane_setCrane_self ..), hk, nofun⟩
  · by_cases hl : (s.crane x).state = .lost
    · rw [startOrder_lost ho hl]
      exact ⟨_, ((RailKept.refl _).craneStateEvent.order x).trans (congrArg CraneCtx.order (State.crane_setCrane_self ..)), hk, nofun⟩
    · rw [startOrder_other ho hf hl]
      exact ⟨_, congrArg CraneCtx.order (State.crane_setCrane_self ..), hk, nofun⟩

theorem State.Carries.startIfSent {s : State} {x : Crane} {k : OrderKind} (h : s.Carries x k) : (s.startIfSent x).Carries x k := by
  unfold State.startIfSent
  split
  · split
    · exact h.startOrder
    · exact h
  · exact h

theorem State.Carries.resumeLost {s : State} {x : Crane} {k : OrderKind} (h : s.Carries x k) : (s.resumeLost x).Carries x k := by
  obtain ⟨o, ho, hk, -⟩ := id h
  simp only [State.resumeLost, ho]
  split
  · rw [modOrder_eq ho]
    have crane : ((s.setCrane x { s.crane x with order := some { o with state := .running } }).crane x).order
        = some { o with state := .running } := congrArg CraneCtx.order (State.crane_setCrane_self ..)
    refine ⟨{ o with state := .running }, ?_, hk, by simp⟩
    by_cases hl : ((s.setCrane x { s.crane x with order := some { o with state := .running } }).crane x).state = .lost
    · rw [takeKindState_lost crane hl, (RailKept.refl _).craneStateEvent.order, State.crane_setCrane_self, crane]
    · rw [takeKindState_eq crane hl, State.crane_setCrane_self, crane]
  · exact h.startIfSent

theorem State.Carries.markLegs {s : State} {x : Crane} {k : OrderKind} (h : s.Carries x k) {n : Nat} :
    (s.markLegs x n).Carries x k := by
  obtain ⟨o, ho, hk, hw⟩ := h
  rw [markLegs_eq ho]
  exact ⟨_, congrArg CraneCtx.order (State.crane_setCrane_self ..), hk, hw⟩

namespace RailLaw

variable {held : List Crane} {s t u : State} {x y w : Crane} {p : Position} {o q : Order} {c : CraneCtx} {k : OrderKind}

theorem carries (h : RailLaw held s) (hx : x ∉ held) (ho : (s.crane x).order = some o) (hw : (s.crane x).state ≠ .awaitYield) :
    s.Carries x o.kind := ⟨o, ho, rfl, h.order_not_waiting hx ho hw⟩

/-- A crane that carries an order has one and does not wait, and a pair is beside it only where the order is a YIELD. -/
theorem of_carries (h : RailLaw held s) (hx : x ∉ held) (hc : s.Carries x k) :
    (s.crane x).order ≠ none ∧ (s.crane x).state ≠ .awaitYield ∧ (k ≠ .yield → s.pairOf (aisleOf x) = none) := by
  obtain ⟨q, hq, rfl, hw⟩ := hc
  have waits : (s.crane x).state ≠ .awaitYield := fun k => hw (((h.settled x hx).waits q hq).2 k)
  refine ⟨by rw [hq]; nofun, waits, fun kind => h.no_pair hx waits ?_⟩
  rintro v ⟨-, q', hq', yield, -⟩
  cases hq.symm.trans hq'
  exact kind yield

/-- A report leaves a lawful crane's state and order. -/
theorem sameReport (h : RailLaw held s) (hx : x ∉ held) (b l : Nat) :
    ((s.reportPosition x b l).crane x).SameButPlace (s.crane x) := by
  refine sameButPlace_reportPosition (fun e he k => ?_) b l
  obtain ⟨-, -, p, -, span⟩ := h.resting hx (.inr (k ▸ (h.queue.1 e he).1))
  exact ⟨p.bay, span⟩

theorem carries_report (h : RailLaw held s) (hx : x ∉ held) (hc : s.Carries x k) (b l : Nat) :
    (s.reportPosition x b l).Carries x k := by
  unfold State.Carries
  rw [(h.sameReport hx b l).order]
  exact hc

/-! ### Crane records -/

theorem unsettled (h : RailLaw held s) (hx : x ∉ held) (hl : (s.crane x).state = .lost) : RailLaw held (s.unsettled x) := by
  have counted : RailLaw held (s.anomaly x) := h.kept (RailKept.refl s).anomaly
  have state : ((s.anomaly x).crane x).state = .lost := ((RailKept.refl s).anomaly.state x).trans hl
  refine kept ?_ (RailKept.refl _).emit
  split
  · rename_i ho
    exact (counted.syncing hx (by simp [state]) ho).kept (RailKept.refl _).craneStateEvent
  · exact counted.enterFaulted hx (by simp [state])

theorem notTaken (h : RailLaw held s) (hx : x ∉ held) : RailLaw held (s.notTaken x) := by
  unfold State.notTaken
  split
  · rename_i hl
    exact h.unsettled hx hl
  · exact h.kept (RailKept.refl s).anomaly

/-- The order that a record names, in a state that does not wait. -/
theorem named (h : RailLaw held s) (hx : x ∉ held) {id : Word16} (hn : s.namedOrder x id = some o) (ho : o.state ≠ .awaitYield) :
    s.Carries x o.kind ∧ (s.crane x).order = some o ∧ (s.crane x).state ≠ .awaitYield := by
  obtain ⟨order, -⟩ := namedOrder_eq_some.1 hn
  exact ⟨⟨o, order, rfl, ho⟩, order, fun k => ho (((h.settled x hx).waits o order).2 k)⟩

theorem takeAccept (h : RailLaw held s) (hx : x ∉ held) {id : Word16} : RailLaw held (s.takeAccept x id) := by
  unfold State.takeAccept
  split
  · exact h.notTaken hx
  · rename_i o hn
    split
    · rename_i hs
      exact h.startOrder hx (h.named hx hn (by rw [hs]; nofun)).2.2
    · split
      · rename_i hl
        exact h.unsettled hx hl
      · exact h.modOrder
    all_goals exact h.notTaken hx

theorem takeDecline (h : RailLaw held s) (hx : x ∉ held) {id : Word16} {reason : Byte} : RailLaw held (s.takeDecline x id reason) := by
  unfold State.takeDecline
  split
  · exact h.notTaken hx
  · split
    · exact h.notTaken hx
    · rename_i o hn
      have declined (hs : o.state ≠ .awaitYield) : RailLaw held (s.declineOrder x o reason) := by
        obtain ⟨carries, -, hw⟩ := h.named hx hn hs
        obtain ⟨law, pair, state, order⟩ := h.releasedPartner hx (h.of_carries hx carries).1 hw rfl
        have jobs := (RailKept.refl (s.releaseWaiting (s.partnerOf x))).declineJobs (o := o) (reason := reason)
        refine (law.kept jobs).endDeclined hx (by rw [jobs.order]; exact order) (by rw [jobs.state, state]; exact hw) ?_
        exact (congrArg (·.pair.get (aisleOf x)) jobs.spans).trans pair
      split
      · rename_i hs
        exact declined (by rw [hs]; nofun)
      · rename_i hs
        exact declined (by rw [hs]; nofun)
      all_goals exact h.notTaken hx

theorem takeRevoked (h : RailLaw held s) (hx : x ∉ held) {id : Word16} {started : Bool} :
    RailLaw held (s.takeRevoked x id started) := by
  unfold State.takeRevoked
  split
  · exact h.notTaken hx
  · rename_i o hn
    split
    · rename_i hs
      obtain ⟨carries, order, hw⟩ := h.named hx hn (by rw [hs]; nofun)
      split
      · exact h.startOrder hx hw
      · have jobs : RailKept s (((if o.lateAccept then s.anomaly x else s).returnJobs o).revertEntries o) :=
          ((RailKept.refl s).anomaly.ite (.refl s)).returnJobs.revertEntries
        have pair : s.pairOf (aisleOf x) = none := by
          refine h.no_pair hx hw ?_
          rintro v ⟨-, q, hq, -, goes, -⟩
          cases order.symm.trans hq
          rw [hs] at goes
          simp at goes
        exact (h.kept jobs).endRevoked hx (by rw [jobs.order, order]; nofun) (by rw [jobs.state]; exact hw)
          ((congrArg (·.pair.get (aisleOf x)) jobs.spans).trans pair)
    all_goals exact h.notTaken hx

theorem markLegDone (h : RailLaw held s) (hw : ¬s.waitsAt x) {i : Nat} {bay level : Byte} :
    RailLaw held (s.markLegDone x o i bay level) := by
  have reported := h.reportPosition hw bay.toNat level.toNat
  unfold State.markLegDone
  split
  · exact h.kept (RailKept.refl s).anomaly
  · refine narrowSpan ?_
    split
    · exact reported.measureLeg
    · exact reported.markLegs.capture

theorem takeLegDone (h : RailLaw held s) (hx : x ∉ held) {id : Word16} {i : Nat} {bay level : Byte} :
    RailLaw held (s.takeLegDone x id i bay level) := by
  unfold State.takeLegDone
  split
  · split
    · rename_i hl
      have reported := h.reportPosition (h.not_waitsAt (x := x) (by rw [hl]; nofun)) bay.toNat level.toNat
      exact reported.unsettled hx ((h.sameReport hx ..).state.trans hl)
    · exact h.kept (RailKept.refl s).anomaly
  · rename_i o hn
    have marked {t : State} (k : RailLaw held t) (hc : t.Carries x o.kind) : RailLaw held (t.markLegDone x o i bay level) :=
      k.markLegDone (k.not_waitsAt (k.of_carries hx hc).2.1)
    split
    · rename_i hl
      have carries := h.carries hx (namedOrder_eq_some.1 hn).1 (by rw [hl]; nofun)
      exact marked (h.resumeLost hx hl) carries.resumeLost
    · split
      · rename_i hs
        exact marked h (h.named hx hn (by rw [hs]; nofun)).1
      · rename_i hs
        obtain ⟨carries, -, hw⟩ := h.named hx hn (by rw [hs]; nofun)
        exact marked (h.startOrder hx hw) carries.startOrder
      · rename_i hs
        obtain ⟨carries, -, hw⟩ := h.named hx hn (by rw [hs]; nofun)
        exact marked (h.startOrder hx hw) carries.startOrder
      all_goals exact h.kept (RailKept.refl s).anomaly

theorem finishOrder (h : RailLaw held s) (hx : x ∉ held) (hc : s.Carries x o.kind) {bay level : Byte} :
    RailLaw held (s.finishOrder x o bay level) := by
  have reported := h.reportPosition (h.not_waitsAt (h.of_carries hx hc).2.1) bay.toNat level.toNat
  have marked : RailLaw held ((s.reportPosition x bay.toNat level.toNat).markLegs x o.legs.length) := reported.markLegs
  have carries := (h.carries_report hx hc bay.toNat level.toNat).markLegs (n := o.legs.length)
  obtain ⟨order, hw, pair⟩ := marked.of_carries hx carries
  have state := marked.state_of_order hx order
  unfold State.finishOrder
  dsimp only
  split
  · rename_i kind
    generalize (s.reportPosition x bay.toNat level.toNat).markLegs x o.legs.length = u at *
    have inv := BusyAt.triggerInvariant (held := held) (x := x) (st := (u.crane x).state) (o := (u.crane x).order)
      (fun k => state (by simp [k])) (fun k => state (by simp [k]))
    have busy : BusyAt held x (u.crane x).state (u.crane x).order u := ⟨marked, rfl, rfl, pair (by simp [kind])⟩
    have ended := inv.endRetrieve (inv.kept busy ((RailKept.refl u).endStore (o := o))) (o := o)
    exact ended.law.endDone hx (by rw [ended.order]; exact order) (by rw [ended.state]; exact hw) ended.pair
  · exact marked.endYield hx order hw
  · rename_i kind
    exact marked.endDone hx order hw (pair (by simp [kind]))

theorem takeOrderDone (h : RailLaw held s) (hx : x ∉ held) {id : Word16} {bay level : Byte} :
    RailLaw held (s.takeOrderDone x id bay level) := by
  unfold State.takeOrderDone
  split
  · split
    · rename_i hl
      have reported := h.reportPosition (h.not_waitsAt (x := x) (by rw [hl]; nofun)) bay.toNat level.toNat
      exact reported.unsettled hx ((h.sameReport hx ..).state.trans hl)
    · exact h.kept (RailKept.refl s).anomaly
  · rename_i o hn
    split
    · rename_i hl
      have carries := h.carries hx (namedOrder_eq_some.1 hn).1 (by rw [hl]; nofun)
      exact (h.resumeLost hx hl).finishOrder hx carries.resumeLost
    · split
      · rename_i hs
        exact h.finishOrder hx (h.named hx hn (by rw [hs]; nofun)).1
      · rename_i hs
        obtain ⟨carries, -, hw⟩ := h.named hx hn (by rw [hs]; nofun)
        exact (h.startOrder hx hw).finishOrder hx carries.startOrder
      · rename_i hs
        obtain ⟨carries, -, hw⟩ := h.named hx hn (by rw [hs]; nofun)
        exact (h.startOrder hx hw).finishOrder hx carries.startOrder
      all_goals exact h.kept (RailKept.refl s).anomaly

theorem faultWaiting (h : RailLaw held s) (hx : x ∉ held) (hs : (s.crane x).state = .awaitYield) {bay level : Byte} :
    RailLaw held (s.faultWaiting x bay level) := by
  obtain ⟨p, law, rests, -⟩ := h.discardWaiting ((h.settled x hx).paired hs)
  have faulted := law.letGo_resting hx rests (st := .faulted) (by simp)
  have away : ¬((s.discardWaiting x).setCraneState x .faulted).waitsAt x :=
    faulted.not_waitsAt (by rw [State.setCraneState, State.crane_modCrane_self]; nofun)
  exact (faulted.reportPosition away bay.toNat level.toNat).kept (RailKept.refl _).craneStateEvent

theorem applyFault (h : RailLaw held s) (hx : x ∉ held) {n : Nat} : RailLaw held (s.applyFault x n) := by
  unfold State.applyFault
  split
  case h_1 | h_2 | h_3 => exact h
  case h_4 hs | h_5 hs => exact h.enterFaulted hx (by simp [hs])
  case h_6 hs =>
    have same := (crane_spanToPosition (not_queued_of_state h.queue (x := x) (by rw [hs]; nofun))).1
    exact h.spanToPosition.enterFaulted hx (by rw [same, hs]; simp)
  case h_7 hs => exact h.failQueued hx hs (.inl rfl)
  all_goals
    rename_i hs
    have hw : (s.crane x).state ≠ .awaitYield := by rw [hs]; nofun
    split
    · rename_i ho
      exact absurd ho ((h.settled x hx).bound (by rw [hs]; simp))
    · rename_i o ho
      have carries := h.carries hx ho hw
      split
      · have marked : RailLaw held ((s.startIfSent x).markLegs x n) := (h.startIfSent hx hw).markLegs
        have carries := carries.startIfSent.markLegs (n := n)
        obtain ⟨-, waits, -⟩ := marked.of_carries hx carries
        obtain ⟨q, hq, -, -⟩ := carries
        rw [suspendOrder_eq hq, State.enterFaulted, State.setCraneState, State.modCrane, State.crane_setCrane_self, setCrane_setCrane]
        exact marked.reworkFailing (q := { q with
            state := .suspended, legs := q.legs.modify q.nextLeg fun l => { l with valid := false } })
          hx waits hq (by rfl) (by rfl) rfl (by simp) (by simp) (RailKept.refl _).craneStateEvent
      · exact h.reworkFailing (c := { s.crane x with state := .faulted }) hx hw ho (by rfl) ho rfl
          (h.order_not_waiting hx ho hw) (by simp) (RailKept.refl _).craneStateEvent

theorem takeFault (h : RailLaw held s) (hx : x ∉ held) {code bay level : Byte} {id : Word16} {n : Nat} :
    RailLaw held (s.takeFault x code bay level id n) := by
  have coded := (RailKept.refl s).countAnomaly (x := x) (id := id) (n := n) |>.nameAnomaly (x := x) (id := id) |>.modCrane (x := x)
    (f := fun c => { c with faultCode := some code })
  unfold State.takeFault
  split
  · exact h.notTaken hx
  · dsimp only
    split
    · rename_i hs
      exact (h.kept coded).faultWaiting hx ((coded.state x).trans hs)
    · rename_i hs
      exact ((h.kept coded).reportPosition ((h.kept coded).not_waitsAt (by rw [coded.state]; exact hs)) ..).applyFault hx

end RailLaw

end Sys2Proof.Machine

namespace Sys2Proof.Machine

theorem takeStatus_lost {s : State} {x : Crane} (h : (s.crane x).state = .lost) (mode : StatusMode) (id : Word16) (k : Nat)
    (bay level : Byte) (aboard : Bool) : s.takeStatus x mode id k bay level aboard
      = (s.statusTaken x mode id k bay level aboard).statusLost x mode (s.namedOrder x id).isSome k aboard := by
  simp only [State.takeStatus, h] <;> rfl

namespace RailLaw

variable {held : List Crane} {s t u : State} {x y w : Crane} {p : Position} {o q : Order} {c : CraneCtx} {k : OrderKind}

/-! ### STATUS and FAULT CLEAR (R126, R142, R143) -/

theorem markCount (h : RailLaw held s) {n : Nat} : RailLaw held (s.markCount x n) := by
  unfold State.markCount
  split
  · exact h
  · split
    · exact h.markLegs
    · exact h

theorem statusPosition (h : RailLaw held s) (hx : x ∉ held) (hw : (s.crane x).state ≠ .awaitYield) {mode : StatusMode}
    {bay level : Byte} : RailLaw held (s.statusPosition x mode bay level)
      ∧ ((s.statusPosition x mode bay level).crane x).SameButPlace (s.crane x) := by
  unfold State.statusPosition
  split
  · refine ⟨h.kept (RailKept.refl s).reportRange, ?_⟩
    obtain e | e := reportRange_cases s x bay.toNat level.toNat <;> rw [e]
    · exact .refl _
    · exact sameButPlace_anomaly s x
  · exact ⟨h.reportPosition (h.not_waitsAt hw) .., h.sameReport hx ..⟩

theorem statusSyncing (h : RailLaw held s) (hx : x ∉ held) (hs : (s.crane x).state = .syncing) {mode : StatusMode} {aboard : Bool} :
    RailLaw held (s.statusSyncing x mode aboard) := by
  unfold State.statusSyncing
  split
  · exact h.settleIdle hx (.inl hs) ((h.settled x hx).free (by simp [hs]))
  · exact h.loadAboard hx (by simp [hs])
  · exact h
  · exact h.applyFault hx

theorem statusFree (h : RailLaw held s) (hx : x ∉ held) (hs : (s.crane x).state = .idle ∨ (s.crane x).state = .queued)
    {mode : StatusMode} {aboard : Bool} : RailLaw held (s.statusFree x mode aboard) := by
  have counted := (RailKept.refl s).anomaly (x := x)
  unfold State.statusFree
  split
  · exact h
  · exact h.loadAboard hx (by obtain e | e := hs <;> simp [e])
  · exact (h.kept counted).busyUnknown hx (by rw [counted.state]; obtain e | e := hs <;> simp [e])
      (by rw [counted.order]; exact (h.resting hx hs).1)
  · exact h.applyFault hx

theorem statusOrder (h : RailLaw held s) (hx : x ∉ held) (ho : (s.crane x).order = some q) (hw : (s.crane x).state ≠ .awaitYield)
    {mode : StatusMode} {named : Bool} {n : Nat} : RailLaw held (s.statusOrder x o mode named n) := by
  have counted := (RailKept.refl s).anomaly (x := x)
  unfold State.statusOrder
  split
  · split
    · exact h.orderLostIdle hx (by rw [ho]; nofun) hw
    · exact h
  · exact (h.startIfSent hx hw).markCount.narrowSpan
  · exact (h.kept counted).orderLostSyncing hx (by rw [counted.order, ho]; nofun) (by rw [counted.state]; exact hw)
  · exact h.applyFault hx

theorem statusFaultedOrder (h : RailLaw held s) (hx : x ∉ held) (ho : (s.crane x).order = some q) (hs : (s.crane x).state = .faulted)
    {mode : StatusMode} {named : Bool} {n : Nat} : RailLaw held (s.statusFaultedOrder x o mode named n) := by
  have hw : (s.crane x).state ≠ .awaitYield := by rw [hs]; nofun
  have counted := (RailKept.refl s).anomaly (x := x)
  have stays : ((s.startIfSent x).crane x).state = .faulted := by
    unfold State.startIfSent
    split
    · rename_i o ho
      split
      · rw [startOrder_faulted ho hs, State.crane_setCrane_self]
        exact hs
      · exact hs
    · exact hs
  unfold State.statusFaultedOrder
  split
  · split
    · exact h.orderLostIdle hx (by rw [ho]; nofun) hw
    · exact h
  · exact ((h.startIfSent hx hw).clearFault hx (.inl stays)).markCount
  · exact (h.kept counted).orderLostSyncing hx (by rw [counted.order, ho]; nofun) (by rw [counted.state]; exact hw)
  · exact h

theorem statusFaultedFree (h : RailLaw held s) (hx : x ∉ held) (hs : (s.crane x).state = .faulted) {mode : StatusMode}
    {aboard : Bool} : RailLaw held (s.statusFaultedFree x mode aboard) := by
  unfold State.statusFaultedFree
  split
  · exact h.clearFault hx (.inl hs)
  · exact h
  · exact h.kept (RailKept.refl s).anomaly
  · exact h

theorem statusLost (h : RailLaw held s) (hx : x ∉ held) (hs : (s.crane x).state = .lost) {mode : StatusMode} {named : Bool} {n : Nat}
    {aboard : Bool} : RailLaw held (s.statusLost x mode named n aboard) := by
  have hw : (s.crane x).state ≠ .awaitYield := by rw [hs]; nofun
  have counted := (RailKept.refl s).anomaly (x := x)
  unfold State.statusLost
  split
  · rename_i ho
    exact h.orderLostIdle hx (by rw [ho]; nofun) hw
  · rename_i ho
    exact h.settleIdle hx (.inr hs) ho
  · exact h.loadAboard hx (by simp [hs])
  · exact (h.resumeLost hx hs).markCount.narrowSpan
  · rename_i ho
    exact (h.kept counted).orderLostSyncing hx (by rw [counted.order, ho]; nofun) (by rw [counted.state]; exact hw)
  · rename_i ho
    exact (h.kept counted).busyUnknown hx (by rw [counted.state, hs]; simp) (by rw [counted.order]; exact ho)
  · exact h.applyFault hx

theorem statusWaiting (h : RailLaw held s) (hx : x ∉ held) (hs : (s.crane x).state = .awaitYield) {mode : StatusMode}
    {bay level : Byte} {aboard : Bool} : RailLaw held (s.statusWaiting x mode bay level aboard) := by
  cases mode
  · exact h
  · exact h.kept (RailKept.refl s).anomaly
  · exact (h.faultWaiting hx hs).kept (RailKept.refl _).takeAboard

theorem takeStatus (h : RailLaw held s) (hx : x ∉ held) {mode : StatusMode} {id : Word16} {n : Nat} {bay level : Byte}
    {aboard : Bool} : RailLaw held (s.takeStatus x mode id n bay level aboard) := by
  have counted := (RailKept.refl s).statusAnomalies (x := x) (mode := mode) (id := id) (n := n)
  have law := h.kept counted
  have taken (hw : (s.crane x).state ≠ .awaitYield) : RailLaw held (s.statusTaken x mode id n bay level aboard)
      ∧ ((s.statusTaken x mode id n bay level aboard).crane x).state = (s.crane x).state
      ∧ ((s.statusTaken x mode id n bay level aboard).crane x).order = (s.crane x).order := by
    obtain ⟨placed, same⟩ := law.statusPosition hx (by rw [counted.state]; exact hw) (mode := mode) (bay := bay) (level := level)
    have aboard := (RailKept.refl ((s.statusAnomalies x mode id n).statusPosition x mode bay level)).takeAboard (x := x) (b := aboard)
    exact ⟨placed.kept aboard, (aboard.state x).trans (same.state.trans (counted.state x)),
      (aboard.order x).trans (same.order.trans (counted.order x))⟩
  by_cases hw : (s.crane x).state = .awaitYield
  · rw [takeStatus_awaitYield hw]
    exact law.statusWaiting hx (by rw [counted.state]; exact hw)
  obtain ⟨placed, state, order⟩ := taken hw
  cases hs : (s.crane x).state
  case offline => simpa only [State.takeStatus, hs] using h
  case awaitYield => exact absurd hs hw
  case syncing =>
    rw [takeStatus_syncing hs]
    exact placed.statusSyncing hx (state.trans hs)
  case lost =>
    rw [takeStatus_lost hs]
    exact placed.statusLost hx (state.trans hs)
  case faulted =>
    cases ho : (s.crane x).order with
    | none =>
      rw [takeStatus_faultedFree hs ho]
      exact placed.statusFaultedFree hx (state.trans hs)
    | some o =>
      rw [takeStatus_faultedOrder hs ho]
      exact placed.statusFaultedOrder hx (order.trans ho) (state.trans hs)
  case idle | queued =>
    rw [takeStatus_free (by simp [hs]) (h.resting hx (by simp [hs])).1]
    exact placed.statusFree hx (by simp [state, hs])
  all_goals
    obtain ⟨o, ho⟩ := Option.ne_none_iff_exists'.1 ((h.settled x hx).bound (by simp [hs]))
    rw [takeStatus_order (by simp [hs]) ho]
    exact placed.statusOrder hx (order.trans ho) (by rw [state]; exact hw)

theorem takeFaultClear (h : RailLaw held s) (hx : x ∉ held) (hw : (s.crane x).state ≠ .awaitYield) {bay level : Byte} :
    RailLaw held (s.takeFaultClear x bay level) := by
  have placed := h.reportPosition (h.not_waitsAt hw) bay.toNat level.toNat
  have state := (h.sameReport hx bay.toNat level.toNat).state
  have order := (h.sameReport hx bay.toNat level.toNat).order
  unfold State.takeFaultClear
  dsimp only
  split
  · rename_i hs
    have aboard := (RailKept.refl (s.reportPosition x bay.toNat level.toNat)).takeAboard (x := x) (b := false)
    exact (placed.kept aboard).settleIdle hx (.inl ((aboard.state x).trans (state.trans hs)))
      ((aboard.order x).trans (order.trans ((h.settled x hx).free (by simp [hs]))))
  · rename_i hs
    exact placed.clearFault hx (.inl (state.trans hs))
  · rename_i hs
    exact placed.clearFault hx (.inr (state.trans hs))
  · exact placed.kept (RailKept.refl _).anomaly

/-! ### Cranes enrolled and withdrawn, and the geometry (R6, R73, R125, R127) -/

theorem takeEnrol (h : RailLaw held s) (hx : x ∉ held) (hs : (s.crane x).state = .offline) : RailLaw held (s.takeEnrol x) := by
  have pair := h.no_pair_of_state hx (by rw [hs]; nofun) (by rw [hs]; nofun)
  have order := (h.settled x hx).free (by simp [hs])
  have crane := State.crane_modCrane_self s x fun c =>
    { c with
      state := .syncing, position := none, aboard := .unknown, timeouts := 0, homeRequest := false, starved := false,
      faultCode := none, stateCause := none }
  generalize ht : (s.modCrane x fun c =>
    { c with
      state := .syncing, position := none, aboard := .unknown, timeouts := 0, homeRequest := false, starved := false,
      faultCode := none, stateCause := none }).setSpan x .unknown = t
  have craneT : t.crane x = _ := (congrArg (State.crane · x) ht.symm).trans crane
  have enrolled : RailLaw held t :=
    h.forget hx (fun _ _ => Iff.rfl) (outsideEngine h.queue (by rw [hs]; nofun)) pair
      (ht ▸ (SameElsewhere.refl x s).modCrane.setSpan) (ht ▸ rfl)
      (.inl ⟨by rw [craneT], ht ▸ State.spanOf_setSpan_self ..⟩) (by rw [craneT]; exact order) (by rw [craneT])
  unfold State.takeEnrol
  dsimp only
  rw [ht]
  exact enrolled.kept (RailKept.refl t).setSilence.emit

theorem takeWithdraw (h : RailLaw held s) (hx : x ∉ held) (hb : s.withdrawBusy x = false) : RailLaw held (s.takeWithdraw x) := by
  have free : (s.crane x).order = none := by
    unfold State.withdrawBusy at hb
    split at hb
    · cases hb
    all_goals assumption
  have quiet : (s.crane x).state ∉ [.queued, .awaitYield, .yielding] := fun k => by
    simp only [List.mem_cons, List.not_mem_nil, or_false] at k
    obtain k | k | k := k <;> simp [State.withdrawBusy, free, k] at hb
  simp only [List.mem_cons, List.not_mem_nil, or_false, not_or] at quiet
  obtain ⟨queued, waits, yields⟩ := quiet
  have pair := h.no_pair_of_state hx waits yields
  have crane := State.crane_modCrane_self s x fun c => { c with
    state := .offline, position := none, aboard := .unknown, homeRequest := false, starved := false }
  generalize ht : (s.modCrane x fun c => { c with
    state := .offline, position := none, aboard := .unknown, homeRequest := false, starved := false }) = t at crane
  have e : SameElsewhere x s t := ht ▸ (SameElsewhere.refl x s).modCrane
  have engine : t.engine = s.engine := ht ▸ rfl
  have silent := (RailKept.refl t).setSilence (x := x) (n := 0)
  have away {u : State} (eu : SameElsewhere x s u) (hu : u.engine = s.engine) (same : RailKept t u) :
      RailLaw held (u.setSpan x .absent) :=
    h.forget hx (fun _ _ => Iff.rfl) (outsideEngine h.queue queued) pair eu.setSpan hu
      (.inr ⟨(same.state x).trans (by rw [crane]), State.spanOf_setSpan_self ..⟩) ((same.order x).trans (by rw [crane]; exact free))
      ((same.position x).trans (by rw [crane]))
  unfold State.takeWithdraw
  dsimp only
  rw [ht]
  refine shrunkFrom ?_
  split
  · exact away ((SameElsewhere.modCrane (t := t.setSilence x 0) (e.elsewhere _) (f := fun k =>
      { k with stateCause := some .withdrawn })).elsewhere _) engine silent.craneStateEvent
  · exact away (e.elsewhere _) engine silent

/-- The geometry of an aisle whose cranes are OFFLINE. -/
theorem setGeometryOf (h : RailLaw [] s) {a : Aisle} {g : Geometry} (hu : ¬s.aisleInUse a = true) :
    RailLaw [] (s.setGeometryOf a g) := by
  obtain ⟨-, -, offline⟩ := aisle_free hu
  have unplaced {y : Crane} (hy : aisleOf y = a) : (s.crane y).position = none := by
    by_contra k
    exact h.enrolled_of_position k (offline y hy)
  have other {b : Aisle} (hb : b ≠ a) : (s.setGeometryOf a g).geometryOf b = s.geometryOf b :=
    (upd_get ..).trans (if_neg hb.symm)
  refine ⟨h.queue, h.spans, fun y => ?_, fun y hy => ?_, h.out, h.busy, h.partner, fun b r hr => ?_, fun y known beside => ?_⟩
  · obtain ⟨onRail, absent, known⟩ := h.place y
    refine ⟨fun p hp => ?_, absent, known⟩
    by_cases hy : aisleOf y = a
    · cases hp.symm.trans (unplaced hy)
    · rw [other hy]
      exact onRail p hp
  · obtain ⟨bound, free, waits, rests, placed, paired⟩ := h.settled y hy
    exact ⟨bound, free, waits, rests, placed, paired⟩
  · obtain ⟨aisle, sib, state, out, yields⟩ := h.pair b r hr
    exact ⟨aisle, sib, state, out, yields⟩
  · by_cases hy : aisleOf y = a
    · exact absurd (unplaced hy) known
    · rw [other hy]
      exact h.apart y known beside

end RailLaw

end Sys2Proof.Machine

namespace Sys2Proof.Machine

/-! ### RESET with scope JOBS and power-on (R74, R150) -/

theorem SameElsewhere.setTrimOf {x y : Crane} {s t : State} (h : SameElsewhere x s t) {r : Trim} :
    SameElsewhere x s (t.setTrimOf y r) := h.elsewhere _

/-- An operation on each crane of a list that touches that crane alone. -/
theorem foldl_cranes {f : State → Crane → State} (hf : ∀ s x, SameElsewhere x s (f s x))
    {Q : CraneCtx → Span → CraneCtx → Span → Prop}
    (hq : ∀ s x, Q (s.crane x) (s.spanOf x) ((f s x).crane x) ((f s x).spanOf x))
    {xs : List Crane} (nodup : xs.Nodup) (s : State) :
    (∀ x ∈ xs, Q (s.crane x) (s.spanOf x) ((xs.foldl f s).crane x) ((xs.foldl f s).spanOf x))
      ∧ (∀ x ∉ xs, (xs.foldl f s).crane x = s.crane x ∧ (xs.foldl f s).spanOf x = s.spanOf x)
      ∧ (xs.foldl f s).cost.geometry = s.cost.geometry := by
  induction xs generalizing s with
  | nil => exact ⟨nofun, fun _ _ => ⟨rfl, rfl⟩, rfl⟩
  | cons y xs ih =>
    obtain ⟨fresh, nodup⟩ := List.nodup_cons.1 nodup
    obtain ⟨each, others, geometry⟩ := ih nodup (f s y)
    have same := hf s y
    refine ⟨fun x hx => ?_, fun x hx => ?_, geometry.trans same.geometry⟩ <;> rw [List.foldl_cons]
    · by_cases e : x = y
      · subst e
        rw [(others x fresh).1, (others x fresh).2]
        exact hq s x
      · have kept := each x ((List.mem_cons.1 hx).resolve_left e)
        rwa [same.crane x e, same.span x e] at kept
    · rw [List.mem_cons, not_or] at hx
      rw [(others x hx.2).1, (others x hx.2).2]
      exact ⟨same.crane x hx.1, same.span x hx.1⟩

/-- A crane and its span before and after RESET with scope JOBS: no order, SYNCING unless OFFLINE, and the span of a crane that
waited at its position bay. -/
structure ResetTo (c : CraneCtx) (sp : Span) (d : CraneCtx) (sq : Span) : Prop where
  position : d.position = c.position
  order : d.order = none
  state : d.state = if c.state = .offline then .offline else .syncing
  waiting : ∀ p, c.state = .awaitYield → c.position = some p → sq = .bays p.bay p.bay
  kept : c.state ≠ .awaitYield ∨ c.position = none → sq = sp

theorem CraneCtx.resetJobs_eq (c : CraneCtx) : c.resetJobs.position = c.position ∧ c.resetJobs.order = none
    ∧ c.resetJobs.state = if c.state = .offline then .offline else .syncing := by
  unfold CraneCtx.resetJobs
  split
  · rename_i hs
    exact ⟨rfl, rfl, by rw [hs]; rfl⟩
  · rename_i hs
    exact ⟨rfl, rfl, (if_neg hs).symm⟩

/-- The ABORT and the poll of a reset leave the contexts of the cranes and the rail. -/
theorem resetLines (s : State) (x : Crane) : ∃ l u, ((s.abortSent x).resetSpan x).pollEnrolled x
    = { s.resetSpan x with lines := l, sup := u } := by
  have aborted : ∃ l, s.abortSent x = { s with lines := l } := by
    unfold State.abortSent
    split
    · split <;> exact ⟨_, rfl⟩
    · exact ⟨_, rfl⟩
  obtain ⟨l, hl⟩ := aborted
  have span : ({ s with lines := l } : State).resetSpan x = { s.resetSpan x with lines := l } := by
    unfold State.resetSpan
    dsimp only [State.crane]
    split <;> rfl
  rw [hl, span]
  unfold State.pollEnrolled
  split <;> exact ⟨_, _, rfl⟩

theorem resetSpan_facts (s : State) (x : Crane) : SameElsewhere x s (s.resetSpan x) ∧ (s.resetSpan x).crane x = s.crane x
    ∧ (∀ p, (s.crane x).state = .awaitYield → (s.crane x).position = some p → (s.resetSpan x).spanOf x = .bays p.bay p.bay)
    ∧ ((s.crane x).state ≠ .awaitYield ∨ (s.crane x).position = none → (s.resetSpan x).spanOf x = s.spanOf x) := by
  have same := SameElsewhere.refl x s
  unfold State.resetSpan
  split
  · rename_i p hs hp
    refine ⟨same.setSpan, rfl, fun q _ hq => ?_, fun k => ?_⟩
    · cases hp.symm.trans hq
      exact State.spanOf_setSpan_self ..
    · exact k.elim (absurd hs) fun none => by cases hp.symm.trans none
  · rename_i other
    exact ⟨same, rfl, fun p hs hp => absurd hp (other p hs), fun _ => rfl⟩

theorem resetCrane_facts (s : State) (x : Crane) : SameElsewhere x s (s.resetCrane x)
    ∧ ResetTo (s.crane x) (s.spanOf x) ((s.resetCrane x).crane x) ((s.resetCrane x).spanOf x) := by
  obtain ⟨l, u, lines⟩ := resetLines s x
  obtain ⟨same, crane, waiting, kept⟩ := resetSpan_facts s x
  obtain ⟨position, order, state⟩ := CraneCtx.resetJobs_eq (s.crane x)
  have reset : (s.resetCrane x).crane x = (s.crane x).resetJobs := by
    refine (State.crane_modCrane_self ..).trans ?_
    rw [lines]
    exact congrArg CraneCtx.resetJobs crane
  have span : (s.resetCrane x).spanOf x = (s.resetSpan x).spanOf x := by
    unfold State.resetCrane
    rw [lines, State.spanOf_setTrimOf, State.spanOf_modCrane]
    rfl
  refine ⟨?_, ?_⟩
  · unfold State.resetCrane
    rw [lines]
    exact ((same.elsewhere _).modCrane).setTrimOf
  · rw [reset, span]
    exact ⟨position, order, state, waiting, kept⟩

namespace RailLaw

variable {held : List Crane} {s t : State} {x y : Crane} {p : Pass}

/-- A state without orders, pairs and a queue, in which every known position lies in a span clear of its sibling's. -/
theorem of_free (queue : t.engine.queue = []) (pass : t.engine.pass = none) (pairs : ∀ a, t.pairOf a = none)
    (order : ∀ x, (t.crane x).order = none) (state : ∀ x, (t.crane x).state = .offline ∨ (t.crane x).state = .syncing)
    (stands : ∀ x, t.StandsAt x) : RailLaw [] t := by
  have free (p : Pass) : t.engine.pass ≠ some p := by rw [pass]; nofun
  refine ⟨⟨by simp [queue], by simp [queue], fun p hp => absurd hp (free p)⟩, fun x => (stands x).within,
    fun x => (stands x).place, fun x _ => .away (state x) (order x), nofun, nofun, fun y o w ho => ?_, fun a r hr => ?_,
    fun x => (stands x).apart⟩
  · cases (order y).symm.trans ho
  · cases (pairs a).symm.trans hr

/-- What the guarded span of a crane says of its state and position. -/
structure GuardAt (s : State) (x : Crane) : Prop where
  absent : s.guardOf x = .absent ↔ (s.crane x).state = .offline
  known : (s.crane x).position ≠ none ↔ ∃ lo hi, s.guardOf x = .bays lo hi
  within : InSpan (s.crane x).position (s.guardOf x)

theorem guard (h : RailLaw held s) (x : Crane) : GuardAt s x := by
  by_cases hw : s.waitsAt x
  · have state := (h.of_waitsAt hw).1
    have settled := h.settled x (h.of_waitsAt hw).2
    obtain ⟨p, hp⟩ := Option.ne_none_iff_exists'.1 (settled.placed (settled.bound (by rw [state]; decide)))
    have bay := State.guardOf_waiting hw hp
    refine ⟨?_, ?_, ?_⟩ <;> rw [bay]
    · rw [state]
      exact iff_of_false nofun nofun
    · rw [hp]
      exact iff_of_true nofun ⟨_, _, rfl⟩
    · exact .bays (Nat.le_refl _) fun q hq => by
        cases hp.symm.trans hq
        exact ⟨Nat.le_refl _, Nat.le_refl _⟩
  · refine ⟨?_, ?_, ?_⟩ <;> rw [State.guardOf_other hw]
    · exact (h.place x).absent
    · exact (h.place x).known
    · exact h.spans x

/-- Every crane reset, and then the pairs and the engine. -/
theorem resetRest (h : RailLaw [] s) (each : ∀ x, ResetTo (s.crane x) (s.spanOf x) (t.crane x) (t.spanOf x))
    (geometry : t.cost.geometry = s.cost.geometry) : RailLaw [] t.resetRest := by
  have geometryOf (a : Aisle) : t.resetRest.geometryOf a = s.geometryOf a := congrArg (Vector.get · a) geometry
  have pairs (a : Aisle) : t.resetRest.pairOf a = none := by simp [State.pairOf, State.resetRest, Vector.get]
  have settled (x : Crane) := h.settled x List.not_mem_nil
  have away (x : Crane) : ¬t.resetRest.waitsAt x := not_waitsAt_of_no_pair (pairs _)
  have position (x : Crane) : (t.resetRest.crane x).position = (s.crane x).position := (each x).position
  have state (x : Crane) : (t.resetRest.crane x).state = if (s.crane x).state = .offline then .offline else .syncing := (each x).state
  have span (x : Crane) : t.resetRest.spanOf x = s.guardOf x := by
    by_cases hs : (s.crane x).state = .awaitYield
    · obtain ⟨p, hp⟩ := Option.ne_none_iff_exists'.1 ((settled x).placed ((settled x).bound (by rw [hs]; decide)))
      rw [State.guardOf_waiting ((settled x).paired hs) hp]
      exact (each x).waiting p hs hp
    · rw [State.guardOf_other (h.not_waitsAt hs)]
      exact (each x).kept (.inl hs)
  have offline (x : Crane) : (t.resetRest.crane x).state = .offline ↔ (s.crane x).state = .offline := by
    rw [state]
    split <;> simp_all
  refine of_free rfl rfl pairs (fun x => (each x).order) (fun x => ?_) fun x => ⟨⟨?_, ?_, ?_⟩, ?_, ?_⟩
  · rw [state]
    split
    · exact .inl rfl
    · exact .inr rfl
  · rw [position, geometryOf]
    exact (h.place x).onRail
  · rw [span, offline]
    exact (h.guard x).absent
  · rw [span, position]
    exact (h.guard x).known
  · rw [span, position]
    exact (h.guard x).within
  · unfold State.ApartAt
    rw [position, position, geometryOf, State.guardOf_other (away _), State.guardOf_other (away _), span, span]
    exact h.apart x

theorem resetJobs (h : RailLaw [] s) : RailLaw [] s.resetJobs := by
  have nodup : allCranes.Nodup := allCranes_eq ▸ List.nodup_finRange 16
  obtain ⟨each, -, geometry⟩ := foldl_cranes (f := State.resetCrane) (Q := ResetTo) (fun s x => (resetCrane_facts s x).1)
    (fun s x => (resetCrane_facts s x).2) nodup s
  exact h.resetRest (fun x => each x (allCranes_eq ▸ List.mem_finRange x)) geometry

theorem powerOn (orders : t.orders = .powerOn) (spans : t.spans = .powerOn) (engine : t.engine = .powerOn) : RailLaw [] t := by
  have crane (x : Crane) : t.crane x = .powerOn := by simp [State.crane, orders, OrderUnit.powerOn, Vector.get]
  have span (x : Crane) : t.spanOf x = .absent := by simp [State.spanOf, spans, SpanUnit.powerOn, Vector.get]
  have pairs (a : Aisle) : t.pairOf a = none := by simp [State.pairOf, spans, SpanUnit.powerOn, Vector.get]
  refine of_free (by rw [engine]; rfl) (by rw [engine]; rfl) pairs (fun x => by rw [crane]; rfl) (fun x => .inl (by rw [crane]; rfl))
    fun x => .unplaced (by rw [crane]; rfl) (fun lo hi => by rw [span]; nofun) ?_
  rw [span, crane]
  exact iff_of_true rfl rfl

/-! ### The completion of a pass (R62, R63, R116 to R119) -/

/-- The crane under evaluation is QUEUED, and once its pass has ended it is outside the engine. -/
theorem passing (h : RailLaw [] s) (hp : s.engine.pass = some p) :
    (s.crane p.crane).state = .queued ∧ (s.setPass none).OutsideEngine p.crane := by
  obtain ⟨standing, -, passing⟩ := h.queue
  have free (q : Pass) : (none : Option Pass) ≠ some q := nofun
  refine ⟨passing p hp, fun e he k => ?_, fun q hq => absurd hq (free q)⟩
  have evaluated := (underEvaluation_iff s e.crane).2 ⟨p, hp, k.symm⟩
  rw [(standing e he).2] at evaluated
  cases evaluated

theorem endStarved (h : RailLaw [] s) (hp : s.engine.pass = some p) : RailLaw [] (s.endStarved p) := by
  obtain ⟨queued, out⟩ := h.passing hp
  obtain ⟨order, pair, q, position, span⟩ := h.resting List.not_mem_nil (.inr queued)
  have starved : RailLaw [] ((s.setPass none).modCrane p.crane fun c => { c with state := .idle, starved := true }) := by
    refine restate (s := s.setPass none) rfl (iff_of_false nofun fun k => by cases queued.symm.trans k)
      (fun o w ho => by cases order.symm.trans ho) h.freeEngine List.not_mem_nil out (fun k => by cases queued.symm.trans k)
      (.resting ?_ ?_ ?_ span) (fun k => absurd pair k)
    · exact .inl (by rw [State.crane_setCrane_self])
    · rw [State.crane_setCrane_self]; exact order
    · rw [State.crane_setCrane_self]; exact position
  unfold State.endStarved
  dsimp only
  refine engineRun ?_
  split
  · exact starved.trigger
  · exact starved

theorem putAside (h : RailLaw [] s) (hp : s.engine.pass = some p) : RailLaw [] (s.putAside p) := by
  obtain ⟨queued, out⟩ := h.passing hp
  obtain ⟨standing, nodup, -⟩ := h.queue
  have free (q : Pass) : (none : Option Pass) ≠ some q := nofun
  refine engineRun (h.setEngine (e := ⟨{ crane := p.crane, invalid := p.invalid } :: s.engine.queue, none⟩)
    ⟨fun e he => ⟨?_, rfl⟩, List.nodup_cons.2 ⟨fun k => ?_, nodup⟩, fun q hq => absurd hq (free q)⟩ nofun)
  · obtain rfl | he := List.mem_cons.1 he
    · exact queued
    · exact (standing e he).1
  · obtain ⟨e, he, same⟩ := List.mem_map.1 k
    exact out.1 e he same

theorem rerun (h : RailLaw [] s) (hp : s.engine.pass = some p) : RailLaw [] (s.rerun p) := by
  unfold State.rerun
  split
  · exact h.kept ((RailKept.refl s).setPass hp rfl)
  · exact h.endStarved hp

theorem dispatchSent (h : RailLaw [] s) (queued : (s.crane x).state = .queued) (out : (s.setPass none).OutsideEngine x)
    {r : PassResult} (answer : s.resultAnswer x r = .eligible) : RailLaw [] ((s.dispatchSent x r).setPass none) := by
  obtain ⟨-, -, q, position, -⟩ := h.resting List.not_mem_nil (.inr queued)
  rw [State.resultAnswer, position, State.spanAnswer_eligible_iff] at answer
  rw [State.dispatchSent_eq position]
  exact h.freeEngine.ordered (s := s.setPass none)
    (c := { s.crane x with state := .ordered, order := some (s.jobOrder .sent r), starved := false })
    List.not_mem_nil (.inr queued) out (((SameElsewhere.refl x (s.setPass none)).setCrane.setSpan).elsewhere _) rfl
    (State.crane_withOrder_self ..) (State.spanOf_setSpan_self ..) position position rfl (by simp) rfl rfl fun _ => answer

/-- A crane whose claim holds its position. -/
theorem placed_claim {q : Position} {ps : List Place} (hp : (t.crane x).position = some q) (hs : t.spanOf x = s.routeSpan q.bay ps)
    (ho : (t.crane x).state ≠ .offline) (rail : q.bay ≤ (t.geometryOf (aisleOf x)).bays + 1) :
    t.PlacedAt x ∧ InSpan (t.crane x).position (t.spanOf x) := by
  obtain ⟨low, high, -, -⟩ := interval_least q.bay (s.targetBays ps)
  refine ⟨⟨fun p k => ?_, ?_, ?_⟩, ?_⟩
  · cases hp.symm.trans k
    exact rail
  · rw [hs]
    exact iff_of_false nofun ho
  · rw [hp, hs]
    exact iff_of_true nofun ⟨_, _, rfl⟩
  · rw [hs]
    exact .bays (low.trans high) fun p k => by
      cases hp.symm.trans k
      exact ⟨low, high⟩

/-- The yield span of a sibling is apart from the bay at which the crane waits (R61, R63). -/
theorem yieldApart (h : RailLaw held s) {b q : Position} {ps : List Place} {n : Nat} (pair : s.pairOf (aisleOf x) = none)
    (hq : (s.crane x).position = some q) (sx : s.spanOf x = .bays q.bay q.bay) (hb : (s.crane (sibling x)).position = some b)
    (sy : s.spanOf (sibling x) = .bays b.bay b.bay) (answer : s.spanAnswer x (some q) ps = .yieldEligible n) :
    apartAt (s.geometryOf (aisleOf x)) (endOf x) (.bays q.bay q.bay) (s.routeSpan b.bay [.rail (aisleOf x) n b.level]) = true := by
  have two (sp sq : Span) : ((s.setSpan x sp).setSpan (sibling x) sq).separatedAt (aisleOf x)
      ↔ apartAt (s.geometryOf (aisleOf x)) (endOf x) sp sq = true := by
    rw [separatedAt_iff_clear, clear_eq_apartAt, State.spanOf_setSpan_self, State.spanOf_setSpan, if_neg (sibling_ne x),
      State.spanOf_setSpan_self]
    rfl
  obtain ⟨-, -, -, yields, -⟩ := claimsKeepSeparation s x q ps _ rfl
  obtain ⟨-, -, b', -, hb', keeps⟩ := yields n answer
  cases hb.symm.trans hb'
  refine (two ..).1 (keeps ((two ..).2 ?_))
  have apart := h.apart x (by rw [hq]; nofun) (by rw [hb]; nofun)
  rwa [State.guardOf_other (not_waitsAt_of_no_pair pair), State.guardOf_other (not_waitsAt_sibling_of_no_pair pair), sx, sy] at apart

/-- A claim with a yield (R63): the crane waits at its bay with its claim, and the IDLE sibling yields beyond it. -/
theorem stepsAside (h : RailLaw [] s) (queued : (s.crane x).state = .queued) (out : s.OutsideEngine x)
    (e : SameBeyond (aisleOf x) s t) (engine : t.engine = s.engine) {q b : Position} {ps : List Place} {n : Nat} {cx cy : CraneCtx}
    {o yo : Order} (hy : y = sibling x) (hq : (s.crane x).position = some q) (hb : (s.crane y).position = some b)
    (answer : s.spanAnswer x (some q) ps = .yieldEligible n)
    (crane : t.crane x = cx) (position : cx.position = some q) (waits : cx.state = .awaitYield) (order : cx.order = some o)
    (waiting : o.state = .awaitYield) (alone : o.yieldPartner = none) (span : t.spanOf x = s.routeSpan q.bay ps)
    (beside : t.crane y = cy) (place : cy.position = some b) (yielding : cy.state = .yielding) (leaving : cy.order = some yo)
    (kind : yo.kind = .yield) (sent : yo.state = .sent) (partner : yo.yieldPartner = some x)
    (aside : t.spanOf y = s.routeSpan b.bay [.rail (aisleOf x) n b.level])
    (pair : t.pairOf (aisleOf x) = some { waiting := x, yielding := y, target := n }) : RailLaw [] t := by
  subst crane beside
  obtain ⟨-, idle, -⟩ := State.spanAnswer_yield_iff.1 answer
  rw [← hy] at idle
  obtain ⟨-, alonePair, _, hq', sx⟩ := h.resting List.not_mem_nil (.inr queued)
  obtain ⟨-, -, _, hb', sy⟩ := h.resting List.not_mem_nil (.inl idle)
  cases hq.symm.trans hq'
  cases hb.symm.trans hb'
  have aisle : aisleOf y = aisleOf x := hy ▸ aisleOf_sibling x
  have mate : sibling y = x := by rw [hy, sibling_sibling]
  have waitsAt : t.waitsAt x := ⟨_, pair, rfl⟩
  have other : ¬t.waitsAt y := fun ⟨r, hr, k⟩ => by
    cases (aisle ▸ pair).symm.trans hr
    exact sibling_ne x (hy ▸ k.symm)
  obtain ⟨placeX, withinX⟩ := placed_claim position span (by rw [waits]; nofun) (by rw [e.geometryOf]; exact (h.place x).onRail q hq)
  obtain ⟨placeY, withinY⟩ := placed_claim place aside (by rw [yielding]; nofun) (by rw [e.geometryOf]; exact (h.place y).onRail b hb)
  have apart := h.yieldApart alonePair hq sx (hy ▸ hb) (hy ▸ sy) answer
  have queue : t.queueInLaw := by
    refine queueInLaw_of_states h.queue (fun z hz => ?_) (by rw [engine]) (by rw [engine])
    by_cases hx : z = x
    · exact .inr (hx ▸ out)
    · by_cases ha : aisleOf z = aisleOf x
      · rw [eq_sibling hx ha, ← hy, idle] at hz
        cases hz
      · exact .inl (e.crane z ha ▸ hz)
  refine h.within_aisle e engine queue (fun _ _ => Iff.rfl) ⟨placeX, withinX, fun _ => ?_, nofun, fun p w hp hw => ?_⟩
    ⟨hy ▸ placeY, hy ▸ withinY, fun _ => ?_, nofun, fun p w hp hw => ?_⟩ (fun r hr => ?_) fun _ _ => ?_
  · refine ⟨fun _ => by rw [order]; nofun, fun k => ?_, fun p hp => ?_, fun k => ?_, fun _ => by rw [position]; nofun, fun _ => waitsAt⟩
    · simp [waits] at k
    · cases order.symm.trans hp
      exact iff_of_true waiting waits
    · simp [waits] at k
  · cases order.symm.trans hp
    cases alone.symm.trans hw
  · rw [← hy]
    exact .atWork (by rw [yielding]; decide) leaving (by rw [sent]; nofun) (by rw [place]; nofun)
  · rw [← hy] at hp ⊢
    cases leaving.symm.trans hp
    cases partner.symm.trans hw
    exact ⟨mate.symm, waits, _, aisle ▸ pair, rfl⟩
  · cases pair.symm.trans hr
    exact ⟨rfl, hy, waits, List.not_mem_nil, fun _ => ⟨yielding, yo, leaving, kind, .inl sent, partner⟩⟩
  · rw [State.guardOf_waiting waitsAt position, ← hy, State.guardOf_other other, aside, e.geometryOf]
    exact apart

theorem dispatchWaiting (h : RailLaw [] s) (queued : (s.crane x).state = .queued) (out : (s.setPass none).OutsideEngine x)
    {r : PassResult} {n : Nat} (answer : s.resultAnswer x r = .yieldEligible n) :
    RailLaw [] ((s.dispatchWaiting p x n r).setPass none) := by
  obtain ⟨-, -, q, position, -⟩ := h.resting List.not_mem_nil (.inr queued)
  rw [State.resultAnswer, position] at answer
  obtain ⟨-, idle, b, place, -⟩ := State.spanAnswer_yield_iff.1 answer
  have away := sibling_ne x
  have aisle := aisleOf_sibling x
  rw [State.dispatchWaiting_eq rfl position place _ _ _ rfl]
  generalize hv : s.withOrder x { s.crane x with state := .awaitYield, order := some (s.jobOrder .awaitYield r), starved := false }
    (s.routeSpan q.bay r.places) s.nextId = v
  have crane : v.crane x = { s.crane x with state := .awaitYield, order := some (s.jobOrder .awaitYield r), starved := false } := by
    rw [← hv]
    exact State.crane_withOrder_self ..
  have span : v.spanOf x = s.routeSpan q.bay r.places := by
    rw [← hv]
    exact State.spanOf_setSpan_self ..
  have claimed : SameBeyond (aisleOf x) (s.setPass none) (v.setPass none) := by
    rw [← hv]
    exact (((SameBeyond.refl _ (s.setPass none)).setCrane rfl).setSpan rfl).elsewhere _
  have engine : v.engine = s.engine := by
    rw [← hv]
    rfl
  have route : s.routeSpan b.bay [.rail (aisleOf (sibling x)) n b.level]
      = (s.setPass none).routeSpan b.bay [.rail (aisleOf x) n b.level] := by
    rw [aisle]
    rfl
  refine h.freeEngine.stepsAside (s := s.setPass none) (x := x) (y := sibling x) (q := q) (b := b) (n := n) queued out
    (((claimed.setCrane aisle).setSpan aisle).setPair.elsewhere _) ?_ rfl position place answer
    ((State.crane_setCrane ..).trans ((if_neg away).trans crane)) position rfl rfl rfl rfl
    ((State.spanOf_setSpan ..).trans ((if_neg away).trans span)) (State.crane_setCrane_self ..) place rfl rfl rfl rfl rfl
    ((State.spanOf_setSpan_self ..).trans route) ((State.pairOf_setPair ..).trans (if_pos rfl))
  exact congrArg (fun e : Engine => { e with pass := none }) engine

/-- The jobs of a result are all that its ordering changes. -/
theorem orderJobs_eq (s : State) (r : PassResult) : ∃ js, s.orderJobs r = s.setJobs js := by
  unfold State.orderJobs
  cases r.storeTag <;> cases r.retrieveTag <;> exact ⟨_, rfl⟩

theorem dispatch (h : RailLaw [] s) (hp : s.engine.pass = some p) {r : PassResult} {a : SpanAnswer}
    (answer : s.resultAnswer p.crane r = a) (valid : a ≠ .ineligible) : RailLaw [] (s.dispatch p r a) := by
  obtain ⟨queued, out⟩ := h.passing hp
  unfold State.dispatch
  dsimp only
  refine engineRun ?_
  obtain ⟨js, ordered⟩ := orderJobs_eq (s.setTable (State.convertRetrieve (State.convertStore s.table r) r)) r
  rw [ordered]
  have law : RailLaw [] ((s.setTable (State.convertRetrieve (State.convertStore s.table r) r)).setJobs js) :=
    h.kept (RailKept.refl s).setTable.setJobs
  split
  · exact law.dispatchWaiting queued out answer
  · rename_i sent
    refine law.dispatchSent queued out (answer.trans ?_)
    cases a
    · rfl
    · exact absurd rfl (sent _)
    · exact absurd rfl valid

theorem completePass (h : RailLaw [] s) (hp : s.engine.pass = some p) : RailLaw [] (s.completePass p) := by
  unfold State.completePass
  split
  · exact h.endStarved hp
  · rename_i r _
    split
    · exact h.putAside hp
    · split
      · exact h.rerun hp
      · rename_i valid
        have checked : s.recheck p r = s.resultAnswer p.crane r := by
          unfold State.recheck at valid ⊢
          split
          · rfl
          · rename_i refused
            exact absurd (if_neg refused) valid
        exact h.dispatch hp checked.symm valid

/-! ### Every step -/

theorem giveUp_failed (h : RailLaw [] s) (hs : (s.crane x).state = .faulted ∨ (s.crane x).state = .lost) : RailLaw [] (s.giveUp x) := by
  cases ho : (s.crane x).order with
  | none =>
    have same : s.giveUp x = s := by simp only [State.giveUp, ho]
    rwa [same]
  | some o =>
    have waits : (s.crane x).state ≠ .awaitYield := by obtain e | e := hs <;> rw [e] <;> nofun
    have yields : (s.crane x).state ≠ .yielding := by obtain e | e := hs <;> rw [e] <;> nofun
    obtain ⟨p, law, rests, state⟩ := h.giveUp List.not_mem_nil (by rw [ho]; nofun) waits
      (h.no_pair_of_state List.not_mem_nil waits yields)
    exact law.release_failed List.not_mem_nil rests (by rwa [state])

theorem countAccept (h : RailLaw [] s) : RailLaw [] (s.countAccept x) :=
  h.modOrder fun o => by
    split
    · rfl
    · rfl

theorem railInvariant : RailInvariant (· ≠ .awaitYield) (RailLaw []) where
  kept h k := h.kept k
  trigger h := h.trigger
  engineRun h := h.engineRun
  completePass h hp := h.completePass hp
  unsettled h hl := h.unsettled List.not_mem_nil hl
  takeAccept h := h.takeAccept List.not_mem_nil
  takeDecline h := h.takeDecline List.not_mem_nil
  takeRevoked h := h.takeRevoked List.not_mem_nil
  takeLegDone h := h.takeLegDone List.not_mem_nil
  takeOrderDone h := h.takeOrderDone List.not_mem_nil
  takeFault h := h.takeFault List.not_mem_nil
  takeFaultClear h hw := h.takeFaultClear List.not_mem_nil hw
  takeStatus h := h.takeStatus List.not_mem_nil
  takeEnrol h hs := h.takeEnrol List.not_mem_nil hs
  takeWithdraw h hb := h.takeWithdraw List.not_mem_nil hb
  giveUp h hs := h.giveUp_failed hs
  loseCrane h := h.loseCrane List.not_mem_nil
  expireAccept h := h.expireAccept List.not_mem_nil
  countAccept h := h.countAccept
  setGeometryOf h hu := h.setGeometryOf hu
  resetJobs h := h.resetJobs
  powerOn := powerOn

end RailLaw

/-- Settles O9: the law with the cranes in hand, kept by each operation on a crane, a pair and a pass, and so by the step. -/
theorem spansStaySeparated : Obligations.SpansStaySeparated :=
  fun _ _ h hc e => (RailLaw.railInvariant.step (railLaw_of_railInLaw h) hc e).railInLaw

end Sys2Proof.Machine

namespace Sys2Proof.Machine

/-! ## Requests with effects of events alone (R22 to R30, R47, R48, R145, R147, R153, R154, R160)

What these requests change they change by the operations that crane records and the clocks use too, so that `Keeps` holds of
their owners. -/

namespace Keeps

variable {s t : State}

theorem addJob (h : Keeps s t) (j : Job) : Keeps s (t.addJob j) :=
  watch (h.withPool { t.pool with jobs := t.pool.jobs ++ [j], serial := j.serial }) _ _

theorem raiseLane (h : Keeps s t) (l : Option (LaneNo × Word16)) : Keeps s (t.raiseLane l) := by
  unfold State.raiseLane
  split
  · exact h.setLane _ _
  · exact h

theorem skipDelivery (h : Keeps s t) (j : Job) (skip : Bool) : Keeps s (t.skipDelivery j skip) := by
  unfold State.skipDelivery
  split
  · exact h.deliver _ _
  · exact h

theorem cancelTriggers (h : Keeps s t) (j : Job) (wasHead : Bool) : Keeps s (t.cancelTriggers j wasHead) := by
  unfold State.cancelTriggers
  split
  · exact ite (h.trigger _) h
  · exact h.triggerAisle _

theorem afterRelease (h : Keeps s t) (xs : List Crane) : Keeps s (t.afterRelease xs) := h.engineRun.triggerAll xs

theorem takeHome (h : Keeps s t) (x : Crane) : Keeps s (t.takeHome x) := by
  have requested : Keeps s (t.modCrane x fun c => { c with homeRequest := true }) := h.modCrane _ _
  unfold State.takeHome
  dsimp only
  split
  · exact requested.trigger x
  · exact requested.engineRun
  · exact requested

theorem countAccept (h : Keeps s t) (x : Crane) : Keeps s (t.countAccept x) := h.modOrder _ _

theorem serviceSilence (h : Keeps s t) (x : Crane) : Keeps s (t.serviceSilence x) := ite (h.loseCrane x) h

theorem serviceAccept (h : Keeps s t) (x : Crane) : Keeps s (t.serviceAccept x) := ite (h.expireAccept x) h

end Keeps

open RailInvariant (check ranged okWith)

theorem admitStore_keeps (s : State) (r : StoreRequest) : Keeps s (s.admitStore r).1 := by
  have h := Keeps.refl s
  unfold State.admitStore
  split
  · exact check (fun _ => h) fun _ => check (fun _ => h) fun _ => check (fun _ => h) fun _ => check (fun _ => h) fun _ =>
      check (fun _ => h) fun _ => check (fun _ => h) fun _ => (h.addJob _).trigger _
  · exact h

theorem admitRetrieve_keeps (s : State) (r : RetrieveRequest) : Keeps s (s.admitRetrieve r).1 := by
  have h := Keeps.refl s
  unfold State.admitRetrieve
  split
  · refine check (fun _ => h) fun _ => check (fun _ => h) fun _ => check (fun _ => h) fun _ => check (fun _ => h) fun _ =>
      check (fun _ => h) fun _ => ?_
    split
    · exact h
    · exact check (fun _ => h) fun _ => (((h.setTable _).raiseLane _).addJob _).triggerAisle _
  · exact h

theorem amendStore_keeps (s : State) (r : Word32 × List Place) : Keeps s (s.amendStore r).1 := by
  have h := Keeps.refl s
  unfold State.amendStore
  split
  · exact h
  · split
    · exact h
    · exact check (fun _ => h) fun _ => check (fun _ => h) fun _ => (h.modJobOf _ _).trigger _

theorem cancelJob_keeps (s : State) (r : Word32 × Bool) : Keeps s (s.cancelJob r).1 := by
  have h := Keeps.refl s
  unfold State.cancelJob
  split
  · exact h
  · exact check (fun _ => h) fun _ => ((h.removeJob _ _).skipDelivery _ _).cancelTriggers _ _

theorem homeCrane_keeps (s : State) (b : Byte) : Keeps s (s.homeCrane b).1 := by
  have h := Keeps.refl s
  exact ranged h fun x => check (fun _ => h) fun _ => check (fun _ => h) fun _ => h.takeHome x

theorem abandonOrder_keeps (s : State) (b : Byte) : Keeps s (s.abandonOrder b).1 := by
  have h := Keeps.refl s
  exact ranged h fun x => check (fun _ => (h.emit x abortFrame).giveUp x) fun _ => h

theorem addSpare_keeps (s : State) (p : Place) : Keeps s (s.addSpare p).1 := by
  have h := Keeps.refl s
  unfold State.addSpare
  split
  · exact check (fun _ => h) fun _ => check (fun _ => h) fun _ => check (fun _ => h) fun _ => (h.setTable _).triggerAisle _
  · exact h

theorem removeSpare_keeps (s : State) (p : Place) : Keeps s (s.removeSpare p).1 := by
  have h := Keeps.refl s
  unfold State.removeSpare
  split
  · refine check (fun _ => h) fun _ => ?_
    split
    · exact h.setTable _
    · exact h
    · exact h
  · exact h

theorem laneOpen_keeps (s : State) (r : Byte × Word16 × Nat) : Keeps s (s.laneOpen r).1 := by
  have h := Keeps.refl s
  exact ranged h fun _ => check (fun _ => h) fun _ => okWith ((h.setLane _ _).triggerAll _)

theorem laneClose_keeps (s : State) (b : Byte) : Keeps s (s.laneClose b).1 := by
  have h := Keeps.refl s
  exact ranged h fun _ => check (fun _ => h) fun _ => check (fun _ => h) fun _ => h.setLane _ _

theorem skipSequence_keeps (s : State) (r : Byte × Word16) : Keeps s (s.skipSequence r).1 := by
  have h := Keeps.refl s
  refine ranged h fun _ => check (fun _ => h) fun _ => check (fun _ => h) fun _ => check (fun _ => h) fun _ =>
    check (fun _ => h) fun _ => ?_
  unfold State.takeSkip
  exact okWith ((h.deliverOnly _ _).triggerAll _)

end Sys2Proof.Machine

namespace Sys2Proof.Machine

open RailInvariant (check ranged okWith)

/-! ## The bounds of the trims, the notices, the replies and the weights (R11, R91, R178, R183)

`BoundsKept room s t` says of a state `t` that comes of `s` that no bound is broken on the way. `room` is the bound of the
reply stream: the owner of a request works beside 15 replies, and its own is then the sixteenth. -/

/-- The bounds that hold in the first state hold in the second. -/
structure BoundsKept (room : Nat) (s t : State) : Prop where
  trims : s.trimsInLaw → t.trimsInLaw
  notices : s.noticesInLaw → t.noticesInLaw
  replies : s.port.replies.length ≤ room → t.port.replies.length ≤ room
  weights : s.weightsInLaw → t.weightsInLaw

/-- A part with the cost unit and the notice unit of power-on is in the bounds of both. -/
theorem BoundsKept.powerOn {room : Nat} {s t : State} (hc : t.cost = .powerOn) (hn : t.notices = .powerOn)
    (hr : t.port.replies.length ≤ s.port.replies.length) : BoundsKept room s t where
  trims _ x := by simp [State.trimOf, hc, CostUnit.powerOn, Trim.powerOn, Vector.get_eq_getElem]
  notices _ := by simp [State.noticesInLaw, hn, NoticeUnit.powerOn]
  replies h := hr.trans h
  weights _ := by
    rw [State.weightsInLaw, hc]
    rfl

namespace BoundsKept

variable {room : Nat} {s t u : State}

theorem refl (s : State) : BoundsKept room s s := ⟨id, id, id, id⟩

theorem trans (h : BoundsKept room s t) (k : BoundsKept room t u) : BoundsKept room s u :=
  ⟨k.trims ∘ h.trims, k.notices ∘ h.notices, k.replies ∘ h.replies, k.weights ∘ h.weights⟩

/-- The effects of an event keep every bound. -/
theorem keeps (h : BoundsKept room s t) (k : Keeps t u) : BoundsKept room s u :=
  h.trans ⟨k.trims, k.notices, k.replies.length_le.trans, fun w => by
    rw [State.weightsInLaw, k.cost]
    exact w⟩

/-- A state that differs only in parts that no bound speaks of. -/
theorem elsewhere (h : BoundsKept room s t) (u : State) (ht : u.cost.trims = t.cost.trims := by rfl)
    (hw : u.cost.weights = t.cost.weights := by rfl) (hn : u.notices.queue = t.notices.queue := by rfl)
    (hr : u.port.replies = t.port.replies := by rfl) : BoundsKept room s u :=
  h.trans
    { trims := by unfold State.trimsInLaw State.trimOf; rw [ht]; exact id
      notices := by unfold State.noticesInLaw; rw [hn]; exact id
      replies := by rw [hr]; exact id
      weights := by unfold State.weightsInLaw; rw [hw]; exact id }

theorem setSup (h : BoundsKept room s t) {v : Supervision} : BoundsKept room s { t with sup := v } := h.elsewhere _

theorem foldl {α : Type} {f : State → α → State} {l : List α} (h : BoundsKept room s t)
    (hf : ∀ v a, BoundsKept room s v → BoundsKept room s (f v a)) : BoundsKept room s (l.foldl f t) :=
  RailInvariant.foldl h hf

/-! ### Requests -/

theorem autoRelease (h : BoundsKept room s t) : BoundsKept room s t.autoRelease := by
  unfold State.autoRelease
  split
  · exact (h.elsewhere ({ t with sup := { t.sup with holdSilence := false } }.recordRelease .hostTraffic none)).keeps
      ((Keeps.refl _).holdChanged.afterRelease _)
  · exact h

theorem hearHost (s : State) : BoundsKept room s s.hearHost :=
  autoRelease ((refl s).elsewhere { s with sup := { s.sup with hostSilence := 0 } })

/-- A reply joins a stream that has room for it (R178). -/
theorem pushReply (h : BoundsKept 15 s t) (hs : s.port.replies.length ≤ 15) (r : Reply) : BoundsKept 16 s (t.pushReply r) := by
  have joined : BoundsKept 16 s (t.setNotices { t.port with replies := t.port.replies ++ [r] } t.notices) :=
    { trims := h.trims
      notices := h.notices
      replies := fun _ => by
        rw [State.setNotices, List.length_append]
        exact Nat.succ_le_succ (h.replies hs)
      weights := h.weights }
  exact joined.keeps (Keeps.refl _).transmit

/-- A request finds the stream full and is dropped, or its owner works beside 15 replies at most (R178). -/
theorem takeRequest (s : State) {kind : Byte} {body : List Byte} {owner : State → List Byte → Answer}
    (ho : ∀ u fields, BoundsKept 15 u (owner u fields).1) : BoundsKept 16 s (s.takeRequest kind body owner) := by
  unfold State.takeRequest
  split
  · exact (refl s).elsewhere _
  · rename_i room
    have room : s.port.replies.length ≤ 15 := Nat.le_of_lt_succ (Nat.not_le.1 room)
    split
    · exact ((hearHost s).trans (ho _ _)).pushReply room _
    · exact (hearHost s).pushReply room _

/-- A request whose fields are read. -/
theorem readRequest (s : State) {α : Type} {kind : Byte} {body : List Byte} {read : List Byte → Option α}
    {act : State → α → Answer} (ha : ∀ u r, BoundsKept 15 u (act u r).1) :
    BoundsKept 16 s (s.takeRequest kind body (State.reading read act)) :=
  takeRequest s fun u fields => by
    unfold State.reading
    split
    · exact ha u _
    · exact refl u

/-- A request whose owner has only effects of events. -/
theorem keptRequest (s : State) {α : Type} {kind : Byte} {body : List Byte} {read : List Byte → Option α}
    {act : State → α → Answer} (ha : ∀ u r, Keeps u (act u r).1) :
    BoundsKept 16 s (s.takeRequest kind body (State.reading read act)) :=
  readRequest s fun u r => (refl u).keeps (ha u r)

/-- SET TRIM clamps the trim it takes (R92). -/
theorem setTrim (s : State) (r : Byte × Nat × Bool) : BoundsKept room s (s.setTrim r).1 :=
  ranged (refl s) fun x => (refl s).keeps ((Keeps.refl s).setTrimOf x _ fun _ => by
    simp only [State.takenTrim, clamp, Config.trimLow, Config.trimHigh]
    omega)

/-- LOAD WEIGHTS writes a run of the table's entries (R13). -/
theorem loadWeights (s : State) (r : Nat × List Weight) : BoundsKept room s (s.loadWeights r).1 :=
  check (fun _ => refl s) fun fits => check (fun _ => refl s) fun _ =>
    ⟨id, id, id, fun w => weightRun_wf r.2 s.cost.weights r.1 (Nat.not_lt.1 fits) w⟩

theorem setGeometry (s : State) (r : GeometryRequest) : BoundsKept room s (s.setGeometry r).1 := by
  have replaced (a : Aisle) (g : Geometry) : BoundsKept room s (s.replaceGeometry a g).1 :=
    check (fun _ => refl s) fun _ => (refl s).elsewhere _
  unfold State.setGeometry
  split
  · exact refl s
  · refine check (fun _ => ?_) fun _ => replaced _ _
    split
    · exact refl s
    · exact check (fun _ => refl s) fun _ => replaced _ _

theorem setPolicy (s : State) (r : PolicyRequest) : BoundsKept room s (s.setPolicy r).1 := by
  unfold State.setPolicy
  split
  · exact refl s
  · exact check (fun _ => refl s) fun _ => check (fun _ => refl s) fun _ => (refl s).elsewhere _

theorem setProfile (s : State) (r : Byte × Profile) : BoundsKept room s (s.setProfile r).1 := by
  refine check (fun _ => refl s) fun _ => ?_
  split
  · exact (refl s).elsewhere _
  · exact (refl s).elsewhere _
  · exact refl s

theorem enrol (s : State) (b : Byte) : BoundsKept room s (s.enrol b).1 :=
  ranged (refl s) fun _ => check (fun _ => refl s) fun _ => check (fun _ => refl s) fun _ => (refl s).elsewhere _

theorem takeWithdraw (s : State) (x : Crane) : BoundsKept room s (s.takeWithdraw x) := by
  unfold State.takeWithdraw
  dsimp only
  split
  · refine keeps ?_ (((Keeps.refl _).craneStateEvent x .withdrawn).changeSpan x .absent)
    exact (refl s).elsewhere _
  · refine keeps ?_ ((Keeps.refl _).changeSpan x .absent)
    exact (refl s).elsewhere _

theorem withdraw (s : State) (b : Byte) : BoundsKept room s (s.withdraw b).1 :=
  ranged (refl s) fun x => check (fun _ => refl s) fun _ => check (fun _ => refl s) fun _ => takeWithdraw s x

theorem holdRequest (s : State) (b : Byte) : BoundsKept room s (s.holdRequest b).1 := by
  refine ranged (refl s) fun sc => check (fun _ => refl s) fun _ => ?_
  have held : BoundsKept room s (s.setCause sc) := by cases sc <;> exact (refl s).elsewhere _
  exact held.keeps (Keeps.refl _).holdChanged

theorem resumeRequest (s : State) (b : Byte) : BoundsKept room s (s.resumeRequest b).1 := by
  refine ranged (refl s) fun sc => check (fun _ => ?_) fun _ => refl s
  have cleared : BoundsKept room s (s.clearCauses sc) := by cases sc <;> exact (refl s).elsewhere _
  exact cleared.keeps ((Keeps.refl _).holdChanged.afterRelease _)

/-- Changes of class records leave the notice queue. -/
theorem foldl_modClass_queue {α : Type} {f : NoticeUnit → α → NoticeUnit} (hf : ∀ n a, (f n a).queue = n.queue)
    (l : List α) (n : NoticeUnit) : (l.foldl f n).queue = n.queue := by
  induction l generalizing n with
  | nil => rfl
  | cons a l ih => exact (ih _).trans (hf n a)

theorem setNoticeEntries (s : State) (es : List NoticeEntry) : BoundsKept room s (s.setNoticeEntries es).1 :=
  check (fun _ => refl s) fun _ =>
    (refl s).elsewhere _ (hn := foldl_modClass_queue (f := State.applyEntry) (fun _ _ => rfl) es s.notices)

theorem clearFlags (s : State) (marks : Nat) : BoundsKept room s (s.clearFlags marks).1 :=
  (refl s).elsewhere _ (hn := foldl_modClass_queue (fun n k => by split <;> rfl) allClasses s.notices)

/-! ### RESET and power-on (R91, R150, R180) -/

/-- A crane's reset clears the accumulators of its trim and leaves the trim (R91). -/
theorem resetCrane (h : BoundsKept room s t) (x : Crane) : BoundsKept room s (t.resetCrane x) := by
  have aborted : Keeps t (t.abortSent x) := by
    unfold State.abortSent
    split
    · exact Keeps.ite ((Keeps.refl t).emit _ _) (Keeps.refl t)
    · exact Keeps.refl t
  have spanned : Keeps t ((t.abortSent x).resetSpan x) := by
    unfold State.resetSpan
    split
    · exact aborted.setSpan _ _
    · exact aborted
  have polled : BoundsKept room s (((t.abortSent x).resetSpan x).pollEnrolled x) := by
    unfold State.pollEnrolled
    split
    · exact (h.keeps spanned).elsewhere _
    · exact h.keeps spanned
  exact polled.keeps (((Keeps.refl _).modCrane _ _).setTrimOf _ _ fun k => k x)

theorem resetRest (h : BoundsKept room s t) : BoundsKept room s t.resetRest :=
  h.trans ⟨id, fun _ => Nat.zero_le _, id, id⟩

theorem resetJobs (s : State) : BoundsKept room s s.resetJobs :=
  ((refl s).foldl fun _ _ k => k.resetCrane _).resetRest

theorem resetRequest (s : State) (b : Byte) : BoundsKept room s (s.resetRequest b).1 :=
  ranged (refl s) fun sc => by
    cases sc
    · exact powerOn rfl rfl le_rfl
    · exact resetJobs s

/-! ### Crane records and the clocks -/

/-- A record with effects of events, of a crane that is heard (R128). -/
theorem hearCrane (s : State) {x : Crane} {record : State → State} (hr : ∀ u, Keeps u (record u)) :
    BoundsKept room s (s.hearCrane x record) := by
  unfold State.hearCrane
  split
  · exact ((refl s).elsewhere (s.setSilence x 0)).keeps (hr _)
  · exact refl s

theorem countSilence (h : BoundsKept room s t) (x : Crane) : BoundsKept room s (t.countSilence x) := by
  unfold State.countSilence
  split
  · exact h.elsewhere _
  · exact h

theorem poll (h : BoundsKept room s t) (before : Crane → Nat) : BoundsKept room s (t.poll before) := by
  unfold State.poll
  split
  · exact h.elsewhere _
  · exact h

theorem serviceHost (h : BoundsKept room s t) : BoundsKept room s t.serviceHost := by
  unfold State.serviceHost
  split
  · exact (h.elsewhere ({ t with sup := { t.sup with holdSilence := true } }.recordHold .silence none)).keeps
      (Keeps.refl _).holdChanged
  · exact h

theorem paceExpires (s : State) : BoundsKept room s s.paceExpires := by
  have silent : BoundsKept room s (allCranes.foldl State.countSilence s.tickPace) :=
    (refl s).setSup.foldl fun _ _ k => k.countSilence _
  have counted : BoundsKept room s
      (allCranes.foldl State.countAccept (allCranes.foldl State.countSilence s.tickPace)).countHost :=
    (silent.foldl fun _ _ k => k.keeps ((Keeps.refl _).countAccept _)).setSup
  have served := counted.foldl (f := State.serviceSilence) (l := allCranes)
    fun _ _ k => k.keeps ((Keeps.refl _).serviceSilence _)
  exact (served.poll _).serviceHost.foldl fun _ _ k => k.keeps ((Keeps.refl _).serviceAccept _)

theorem transmitted (s : State) : BoundsKept room s s.transmitted := by
  unfold State.transmitted
  split
  · exact refl s
  · exact ((refl s).elsewhere _).keeps (Keeps.refl _).transmit

/-! ### Every command and every step -/

/-- Every command keeps the bounds. -/
theorem exec {c : Instr} (e : exec c s = .next t) : BoundsKept 16 s t := by
  cases c <;> have e := Host.Outcome.next.inj e <;> subst e
  case powerOn => exact powerOn rfl rfl (Nat.zero_le _)
  case admitStore => exact keptRequest s admitStore_keeps
  case admitRetrieve => exact keptRequest s admitRetrieve_keeps
  case amendStore => exact keptRequest s amendStore_keeps
  case cancelJob => exact keptRequest s cancelJob_keeps
  case enrolCrane => exact readRequest s enrol
  case withdrawCrane => exact readRequest s withdraw
  case homeCrane => exact keptRequest s homeCrane_keeps
  case abandonOrder => exact keptRequest s abandonOrder_keeps
  case setTrim => exact readRequest s setTrim
  case setAisleGeometry => exact readRequest s setGeometry
  case setAislePolicy => exact readRequest s setPolicy
  case loadWeights => exact readRequest s loadWeights
  case setProfile => exact readRequest s setProfile
  case setScoring => exact readRequest s fun u _ => (refl u).elsewhere _
  case addSpare => exact keptRequest s addSpare_keeps
  case removeSpare => exact keptRequest s removeSpare_keeps
  case laneOpen => exact keptRequest s laneOpen_keeps
  case laneClose => exact keptRequest s laneClose_keeps
  case skipSequence => exact keptRequest s skipSequence_keeps
  case hold => exact readRequest s holdRequest
  case resume => exact readRequest s resumeRequest
  case setNotices => exact readRequest s setNoticeEntries
  case clearFlags => exact readRequest s clearFlags
  case reset => exact readRequest s resetRequest
  case queryCrane | queryAisle | queryLane | setTiming | setWatch =>
    exact readRequest s fun u _ => ranged (refl u) fun _ => (refl u).elsewhere _
  case queryJob =>
    refine readRequest s fun u _ => ?_
    unfold State.queryJob
    split <;> exact refl u
  case queryStatus =>
    refine takeRequest s fun u _ => ?_
    unfold State.queryStatus
    split <;> exact refl u
  case unknownRequest => exact takeRequest s fun u _ => refl u
  case managementFrameDropped | frameGapAbandon | craneFrameDropped => exact (refl s).elsewhere _
  case unknownCraneRecord => exact hearCrane s fun u => (Keeps.refl u).notTaken _
  case accept => exact hearCrane s fun u => (Keeps.refl u).takeAccept _ _
  case decline => exact hearCrane s fun u => (Keeps.refl u).takeDecline _ _ _
  case legDone => exact hearCrane s fun u => (Keeps.refl u).takeLegDone _ _ _ _ _
  case orderDone => exact hearCrane s fun u => (Keeps.refl u).takeOrderDone _ _ _ _
  case revoked => exact hearCrane s fun u => (Keeps.refl u).takeRevoked _ _ _
  case fault => exact hearCrane s fun u => (Keeps.refl u).takeFault _ _ _ _ _ _
  case faultClear => exact hearCrane s fun u => (Keeps.refl u).takeFaultClear _ _ _
  case status => exact hearCrane s fun u => (Keeps.refl u).takeStatus _ _ _ _ _ _ _
  case passCompletion => exact (refl s).keeps (Keeps.refl s).passCompletes
  case paceIntervalExpiry => exact paceExpires s
  case silenceLimitReached => exact (refl s).keeps ((Keeps.refl s).serviceSilence _)
  case hostLimitReached => exact (refl s).serviceHost
  case acceptTimerExpiry => exact (refl s).keeps ((Keeps.refl s).serviceAccept _)
  case frameTransmitComplete => exact transmitted s

/-- The part's own time keeps the bounds. -/
theorem idle (s : State) : BoundsKept room s s.idle := by
  unfold State.idle
  split
  · exact (refl s).elsewhere _
  · exact (refl s).elsewhere _
  · rename_i p _ _ _
    unfold State.workPass
    split
    · rename_i e
      exact (refl s).keeps ((Keeps.refl s).passItem p e)
    · exact (refl s).elsewhere _
  · exact (refl s).elsewhere _

/-- Every step keeps the bounds. -/
theorem step (e : step s = .next t) : BoundsKept 16 s t := by
  unfold Machine.step at e
  split at e
  · rename_i rest _
    exact ((refl s).elsewhere { s with pending := rest }).trans (exec e)
  · cases e
    exact idle s

end BoundsKept

/-- Settles O3: the effects of events keep the bounds by `Keeps`; what else a command does is checked command by command. -/
theorem boundsStayInLaw : Obligations.BoundsStayInLaw :=
  ⟨fun _ _ h e => (BoundsKept.step e).trims h, fun _ _ h e => (BoundsKept.step e).notices h,
    fun _ _ h e => (BoundsKept.step e).replies h, fun _ _ h e => (BoundsKept.step e).weights h⟩

end Sys2Proof.Machine

namespace Sys2Proof.Machine

/-! ## Route times and scores (R84, R88) -/

/-- The leg times added one by one to a time within the limit (R84). -/
theorem foldl_satAdd (legs : List Leg) (t : Nat) (ht : t ≤ 65535) :
    legs.foldl (fun t l => satAdd Config.timeLimit t l.legMs) t = min 65535 (t + (legs.map (·.legMs)).sum) := by
  induction legs generalizing t with
  | nil => simpa using ht
  | cons l legs ih =>
    have next : satAdd Config.timeLimit t l.legMs = min 65535 (t + l.legMs) := rfl
    rw [List.foldl_cons, next, ih _ (Nat.min_le_left _ _), List.map_cons, List.sum_cons]
    omega

/-- Settles O24: saturating at each leg is saturating once, and a difference cut off at 0 is the signed one clamped. -/
theorem routeTimesAndScores : Obligations.RouteTimesAndScores := by
  refine ⟨fun legs => ?_, fun sc cls age route penalty => ?_⟩
  · rw [routeMs, foldl_satAdd legs 0 (Nat.zero_le _), Nat.zero_add]
  · rw [scoreOf, ← Nat.cast_mul, Config.timeLimit]
    omega

end Sys2Proof.Machine

namespace Sys2Proof.Machine

/-! ## SET PROFILE, SET SCORING and SET TRIM (R76, R86, R92) -/

/-- A number of two bytes is the two bytes in their order (R189). -/
theorem number2_eq_toNat (hi lo : Byte) : number2 hi lo = (hi ++ lo).toNat := by
  rw [← word16Of_eq_append, word16Of, BitVec.toNat_ofNat]
  have := hi.isLt
  have := lo.isLt
  exact (Nat.mod_eq_of_lt (by unfold number2; omega)).symm

theorem yesNo_eq {b : Byte} (h : b.toNat ≤ 1) : yesNo b = some (b == 1) := by
  have bit : b = 0 ∨ b = 1 := by
    rcases Nat.le_one_iff_eq_zero_or_eq_one.1 h with e | e
    · exact .inl (BitVec.eq_of_toNat_eq e)
    · exact .inr (BitVec.eq_of_toNat_eq e)
  rcases bit with rfl | rfl <;> rfl

theorem profileInRange_iff (p : Profile) : State.profileInRange p = true ↔
    ¬(16383 < p.cx ∨ 16383 < p.cy ∨ 16383 < p.kf ∨ 16383 < p.kd ∨ 16383 < p.ks) := by
  simp only [State.profileInRange, Bool.and_eq_true, decide_eq_true_eq]
  omega

/-- SET PROFILE by the profile it names (R76). -/
theorem setProfile_eq (h : State) (n : Byte) (p : Profile) :
    h.setProfile (n, p) =
      if 1 < n.toNat ∨ 16383 < p.cx ∨ 16383 < p.cy ∨ 16383 < p.kf ∨ 16383 < p.kd ∨ 16383 < p.ks then h.refuse .range
      else State.ok
        { h with cost := if n = 0 then { h.cost with profileA := p } else { h.cost with profileB := p } } := by
  unfold State.setProfile
  by_cases fits : State.profileInRange p = true
  · have inRange := (profileInRange_iff p).1 fits
    dsimp only
    rw [if_neg (by simp [fits])]
    split
    · rename_i e
      rw [if_neg (by omega), if_pos (BitVec.eq_of_toNat_eq e)]
    · rename_i e
      rw [if_neg (by omega), if_neg (by rintro rfl; cases e)]
    · rename_i e0 e1
      have past : n.toNat ≠ 0 ∧ n.toNat ≠ 1 := ⟨e0, e1⟩
      rw [if_pos (by omega)]
  · rw [if_pos (by simpa using fits), if_pos (.inr (not_not.1 fun k => fits ((profileInRange_iff p).2 k)))]

/-- Settles O26: each request by what its reader reads; the checks of SET PROFILE are `setProfile_eq`. -/
theorem costSettingsTaken : Obligations.CostSettingsTaken := by
  intro r1 r0 hi lo auto fields s h hs hh
  refine ⟨fun n p hr => ?_, fun c hr => ?_, fun x n ha hn => ?_, fun b hb ha => ?_⟩
  · refine (congrArg Host.Outcome.next (takeRequest_read hs hh hr ..)).trans (congrArg _ ?_)
    rw [setProfile_eq]
    exact apply_ite _ _ _ _
  · exact congrArg _ (takeRequest_read hs hh hr ..)
  · have read : readSetTrim [BitVec.ofNat 8 x.val, hi, lo, auto] = some (BitVec.ofNat 8 x.val, (hi ++ lo).toNat, auto == 1) := by
      rw [readSetTrim, yesNo_eq ha, number2_eq_toNat]
      rfl
    refine (congrArg Host.Outcome.next (takeRequest_read hs hh read ..)).trans (congrArg _ ?_)
    rw [State.setTrim, craneOfByte, asFin_ofNat (by decide), hn]
    rfl
  · have read : readSetTrim [b, hi, lo, auto] = some (b, number2 hi lo, auto == 1) := by
      rw [readSetTrim, yesNo_eq ha]
      rfl
    refine (congrArg Host.Outcome.next (takeRequest_read hs hh read ..)).trans (congrArg _ ?_)
    rw [State.setTrim, craneOfByte, asFin_eq_none hb]
    rfl

end Sys2Proof.Machine

namespace Sys2Proof.Machine

/-! ## Measured legs (R93, R94) -/

/-- Settles O29: the accumulators by `accumulated`, and the update just when auto-trim is on at 64 legs. -/
theorem measuredLegsTrim : Obligations.MeasuredLegsTrim := by
  intro s x predicted measured n p a t ht hn hp ha
  have summed : State.accumulated (s.trimOf x) predicted measured = { t with legs := n, predicted := p, actual := a } := by
    subst ht hn hp ha
    rfl
  unfold State.accumulate
  rw [summed, Config.trimLegs]
  refine ⟨fun short => if_neg ?_, fun on full trim htrim => ?_⟩
  · simpa [imp_iff_not_or] using short
  · have updated : State.updatedTrim { t with legs := n, predicted := p, actual := a } = trim := htrim.symm
    have due : (t.auto && decide (64 ≤ n)) = true := by simpa [on] using full
    dsimp only
    rw [if_pos due, updated, on]

end Sys2Proof.Machine

namespace Sys2Proof.Machine

/-! ## The least candidate, the first of equals (R46, R88 to R90) -/

section Least

variable {α β : Type} {key : β → Nat} {l : List α} {cand : α → Option β} {b : β}

/-- The elements before the least one are above it, and those after it not below. -/
theorem argmin_split [DecidableEq β] {l : List β} (h : l.argmin key = some b) :
    ∃ before after, l = before ++ b :: after ∧ (∀ a ∈ before, key b < key a) ∧ ∀ a ∈ after, key b ≤ key a := by
  obtain ⟨before, after, rfl, first⟩ := List.eq_append_cons_of_mem (List.argmin_mem h)
  refine ⟨before, after, rfl, fun a ha => not_le.1 fun k => ?_, fun a ha => List.le_of_mem_argmin (by simp [ha]) h⟩
  have index := List.index_of_argmin h (List.mem_append_left _ ha) k
  rw [List.idxOf_append_of_notMem first, List.idxOf_cons_self, List.idxOf_append_of_mem ha] at index
  exact absurd (List.idxOf_lt_length_of_mem ha) (not_lt.2 index)

/-- The least of the candidates that the elements of a list give, and the element that gives it. -/
theorem argmin_filterMap_split [DecidableEq β] (h : (l.filterMap cand).argmin key = some b) :
    ∃ before q after, l = before ++ q :: after ∧ cand q = some b
      ∧ (∀ x ∈ before, ∀ c, cand x = some c → key b < key c) ∧ ∀ x ∈ after, ∀ c, cand x = some c → key b ≤ key c := by
  obtain ⟨above, notBelow, e, less, le⟩ := argmin_split h
  obtain ⟨l1, l2, rfl, rfl, e2⟩ := List.filterMap_eq_append_iff.1 e
  obtain ⟨l3, q, l4, rfl, idle, hq, rfl⟩ := List.filterMap_eq_cons_iff.1 e2
  refine ⟨l1 ++ l3, q, l4, (List.append_assoc ..).symm, hq, fun x hx c hc => ?_, fun x hx c hc => ?_⟩
  · rcases List.mem_append.1 hx with hx | hx
    · exact less c (List.mem_filterMap.2 ⟨x, hx, hc⟩)
    · rw [idle x hx] at hc
      cases hc
  · exact le c (List.mem_filterMap.2 ⟨x, hx, hc⟩)

/-- A fold that goes over to a candidate just when its key is less keeps the least candidate. -/
theorem foldl_eq_argmin {f : Option β → α → Option β}
    (hf : ∀ best x, f best x = (f none x).elim best (List.argAux (fun c b => key c < key b) best)) (l : List α) :
    l.foldl f none = (l.filterMap (f none)).argmin key := by
  rw [List.argmin, List.foldl_filterMap]
  refine congrArg (fun g => l.foldl g none) (funext fun best => funext fun x => ?_)
  rw [hf best x]
  cases f none x <;> rfl

end Least

/-! ### The store stage (R90) -/

/-- A candidate of the store stage goes over the best so far when its sum is less. -/
theorem considerSlot_eq (s : State) (p : Pass) (tag serial : Word32) (a : Slot) (best : Option StorePick) :
    s.considerSlot p tag serial a best
      = (s.considerSlot p tag serial a none).elim best (List.argAux (fun c b => c.sum < b.sum) best) := by
  unfold State.considerSlot
  by_cases eligible : s.storeEligible a = true
  · simp only [if_pos eligible]
    cases s.passAnswer p (storePart (stationOf p.crane) a) <;> cases best <;> rfl
  · simp only [if_neg eligible]
    rfl

/-- What a candidate of the store stage is by itself: a choice when it is eligible and its route not INELIGIBLE. -/
theorem considerSlot_none {s : State} {p : Pass} {fits : Slot → Bool} {sum : Slot → Nat} {answer : Slot → SpanAnswer}
    (tag serial : Word32)
    (hanswer : ∀ a, answer a = s.spanAnswer p.crane p.latch.position [.station (stationOf p.crane), .slot a])
    (hfits : ∀ a, fits a = true ↔ s.storeEligible a = true ∧ answer a ≠ .ineligible)
    (hsum : ∀ a, sum a
      = (s.makeLeg p.latch.values (aisleOf p.crane) (.place (.station (stationOf p.crane))) (.slot a) .drop).legMs
        + s.penaltyOf p (answer a)) (a : Slot) :
    s.considerSlot p tag serial a none
      = if fits a then some { tag := tag, serial := serial, slot := a, sum := sum a, answer := answer a } else none := by
  have route : s.passAnswer p (storePart (stationOf p.crane) a) = answer a := (hanswer a).symm
  unfold State.considerSlot
  dsimp only
  rw [route, hsum a]
  by_cases eligible : s.storeEligible a = true
  · rw [if_pos eligible]
    cases e : answer a with
    | ineligible => rw [if_neg fun k => ((hfits a).1 k).2 e]
    | eligible => rw [if_pos ((hfits a).2 ⟨eligible, by rw [e]; nofun⟩)]
    | yieldEligible => rw [if_pos ((hfits a).2 ⟨eligible, by rw [e]; nofun⟩)]
  · rw [if_neg eligible, if_neg fun k => eligible ((hfits a).1 k).1]

/-- The store stage chooses the least sum, the earliest placed of equals (R90). -/
theorem foldl_considerSlot {s : State} {p : Pass} {fits : Slot → Bool} {sum : Slot → Nat} {answer : Slot → SpanAnswer}
    {tag serial : Word32}
    (cand : ∀ a, s.considerSlot p tag serial a none
      = if fits a then some { tag := tag, serial := serial, slot := a, sum := sum a, answer := answer a } else none)
    (l : List Slot) :
    (l.foldl (fun b a => s.considerSlot p tag serial a b) none = none ↔ ∀ a ∈ l, fits a = false)
    ∧ ∀ k, l.foldl (fun b a => s.considerSlot p tag serial a b) none = some k →
      ∃ before after, l = before ++ k.slot :: after ∧ fits k.slot = true
        ∧ k = { tag := tag, serial := serial, slot := k.slot, sum := sum k.slot, answer := answer k.slot }
        ∧ (∀ a ∈ before, fits a = true → sum k.slot < sum a) ∧ ∀ a ∈ after, fits a = true → sum k.slot ≤ sum a := by
  rw [foldl_eq_argmin (key := fun c : StorePick => c.sum) fun best a => considerSlot_eq s p tag serial a best]
  refine ⟨?_, fun k hk => ?_⟩
  · simp [List.filterMap_eq_nil_iff, cand]
  · obtain ⟨before, a, after, rfl, ha, less, le⟩ := argmin_filterMap_split hk
    obtain ⟨fit, rfl⟩ := by simpa [cand] using ha
    exact ⟨before, after, rfl, fit, rfl, fun c hc k => less c hc _ ((cand c).trans (if_pos k)),
      fun c hc k => le c hc _ ((cand c).trans (if_pos k))⟩

/-! ### The relocation spare (R46) -/

theorem bestSpare_eq_argmin (s : State) (v : Values) (front : Slot) (store : Option Slot) :
    s.bestSpare v front store
      = ((Table.spareList s.table front.aisle).filterMap (Option.guard fun x => s.spareUsable x store)).argmin
          fun x => (s.makeLeg v front.aisle (.place (.slot front)) (.slot x) .drop).legMs := by
  rw [List.filterMap_eq_filter]
  refine congrArg (fun g => List.foldl g none _) (funext fun best => funext fun x => ?_)
  cases best <;> rfl

/-- The usable spare with the least leg time, the earliest on the list of equals (R46). -/
theorem bestSpare_least {s : State} {v : Values} {front : Slot} {store : Option Slot} {time : Slot → Nat}
    (htime : ∀ x, time x = (s.makeLeg v front.aisle (.place (.slot front)) (.slot x) .drop).legMs) :
    (s.bestSpare v front store = none ↔ ∀ x ∈ Table.spareList s.table front.aisle, s.spareUsable x store = false)
    ∧ ∀ x, s.bestSpare v front store = some x →
      ∃ before after, Table.spareList s.table front.aisle = before ++ x :: after ∧ s.spareUsable x store = true
        ∧ (∀ y ∈ before, s.spareUsable y store = true → time x < time y)
        ∧ ∀ y ∈ after, s.spareUsable y store = true → time x ≤ time y := by
  rw [bestSpare_eq_argmin, ← funext htime]
  refine ⟨?_, fun x hx => ?_⟩
  · simp
  · obtain ⟨before, y, after, hl, hy, less, le⟩ := argmin_filterMap_split hx
    obtain ⟨rfl, usable⟩ := Option.guard_eq_some_iff.1 hy
    exact ⟨before, after, hl, usable, fun c hc k => less c hc c (Option.guard_eq_some_iff.2 ⟨rfl, k⟩),
      fun c hc k => le c hc c (Option.guard_eq_some_iff.2 ⟨rfl, k⟩)⟩

/-! ### The retrieve stage (R88, R89) -/

/-- A scored retrieve goes over the best so far when its score is less. -/
theorem scoreRetrieve_elim (s : State) (p : Pass) (j : Job) (a : Slot) (store : Option StorePick)
    (reloc : Option Relocation) (best : Option RetrievePick) :
    s.scoreRetrieve p j a store reloc best
      = (s.scoreRetrieve p j a store reloc none).elim best (List.argAux (fun c b => c.score < b.score) best) := by
  simp only [State.scoreRetrieve_eq]
  generalize s.retrievePick p j store reloc _ = x
  obtain ⟨tag, serial, score, legs, relocation, answer⟩ := x
  cases answer <;> cases best <;> rfl

/-- A retrieve that is scored by itself is kept as its route makes it (R88). -/
theorem scoreRetrieve_none {s : State} {p : Pass} {j : Job} {a : Slot} {store : Option StorePick}
    {reloc : Option Relocation} {b : RetrievePick} (h : s.scoreRetrieve p j a store reloc none = some b) :
    b = s.retrievePick p j store reloc
      (State.storeRoute p store ++ retrievePart (stationOf p.crane) a (reloc.map fun r => (r.front, r.spare))) := by
  rw [State.scoreRetrieve_eq] at h
  unfold State.betterRetrieve at h
  split at h
  · cases h
  · exact (Option.some.inj h).symm
  · contradiction

/-- The retrieve stage on retrieves without relocation keeps the least score (R89). -/
theorem foldl_scoreRetrieve (s : State) (p : Pass) (store : Option StorePick) (l : List (Job × Slot)) :
    l.foldl (fun best q => s.scoreRetrieve p q.1 q.2 store none best) none
      = (l.filterMap fun q => s.scoreRetrieve p q.1 q.2 store none none).argmin (·.score) :=
  foldl_eq_argmin (f := fun best (q : Job × Slot) => s.scoreRetrieve p q.1 q.2 store none best)
    (fun best q => scoreRetrieve_elim s p q.1 q.2 store none best) l

/-- Settles O55: the folds of the stages and of the spares are `List.argmin` of the candidates, which is the first of the
least. -/
theorem passesChooseTheLeast : Obligations.PassesChooseTheLeast := by
  refine ⟨fun s p tag serial l fits sum answer hanswer hfits hsum =>
    foldl_considerSlot (considerSlot_none tag serial hanswer hfits hsum) l,
    fun s v front store time htime => bestSpare_least htime, fun s p store l b hb => ?_⟩
  rw [foldl_scoreRetrieve] at hb
  obtain ⟨before, q, after, hl, hq, less, le⟩ := argmin_filterMap_split hb
  refine ⟨before, q, after, hl, hq, less, le, ?_⟩
  rintro rfl
  obtain rfl := scoreRetrieve_none hq
  exact ⟨rfl, rfl⟩

end Sys2Proof.Machine

namespace Sys2Proof.Machine

/-! ## A step that breaks the law of the orders (R71, R101, R124, R142)

`ordersInLaw` bounds no span, so it holds of `State.wideInQueue`, where a QUEUED crane has a span wider than its position bay
and the FREE engine may take it. `railInLaw`, which is no premise of the statement, rules that state out (R58). -/

/-- Refutes O7: one step from `wideInQueue`, which is in the law, leaves a SYNCING crane with an order. -/
theorem not_ordersStayInLaw : ¬ Obligations.OrdersStayInLaw := by
  intro keeps
  obtain ⟨-, orders, -, -⟩ := State.wideInQueue_inLaw
  exact State.afterBusy_not_ordersInLaw (keeps _ _ orders State.step_wideInQueue)

end Sys2Proof.Machine

namespace Sys2Proof.Machine

/-! ## The part after power-on (R149) -/

theorem get_replicate {α : Type} {n : Nat} (a : α) (i : Fin n) : (Vector.replicate n a).get i = a := by
  rw [Vector.get_eq_getElem, Vector.getElem_replicate]

namespace State

theorem crane_reset (x : Crane) : reset.crane x = .powerOn := get_replicate ..

theorem spanOf_reset (x : Crane) : reset.spanOf x = .absent := get_replicate ..

theorem trimOf_reset (x : Crane) : reset.trimOf x = .powerOn := get_replicate ..

theorem laneOf_reset (l : LaneNo) : reset.laneOf l = .powerOn := get_replicate ..

/-- The classes have their default levels, in the order of the table of R181. -/
theorem classOf_reset (k : Fin 11) :
    reset.notices.classOf k = .powerOn ([1, 2, 3, 1, 2, 2, 3, 1, 0, 3, 0].getD k.val 0) := by
  revert k
  decide

/-! ### The laws that hold then -/

theorem trimsInLaw_reset : reset.trimsInLaw := fun x => by
  rw [trimOf_reset]
  decide

theorem railInLaw_reset : reset.railInLaw := (RailLaw.powerOn rfl rfl rfl).railInLaw

theorem workInLaw_reset : reset.workInLaw := by
  obtain ⟨⟨queue, -⟩, -⟩ := railInLaw_reset
  refine workInLaw_of_no_work rfl rfl (fun x => ?_) (fun x => ?_) queue <;> rw [crane_reset]
  · rfl
  · decide

theorem lanesInLaw_reset : reset.lanesInLaw := by
  refine ⟨.nil, nofun, fun l => ?_⟩
  rw [laneOf_reset]
  exact ⟨rfl, le_rfl, by decide, .nil, nofun⟩

theorem slotsInLaw_reset : reset.slotsInLaw := by
  have jobs : reset.pool.jobs = [] := rfl
  have table : reset.table = [] := rfl
  have pass : reset.engine.pass = none := rfl
  simp [slotsInLaw, jobs, table, pass, crane_reset, CraneCtx.powerOn]

theorem spansOnRail_reset : reset.spansOnRail := fun x lo hi h => by
  rw [spanOf_reset] at h
  cases h

end State

/-- Settles O60: every collection holds one value, but for the levels of the notice classes, and the laws hold of a part
without work, orders and spans. -/
theorem powerOnValues : Obligations.PowerOnValues := by
  refine ⟨fun strap s => rfl, State.reset, rfl, rfl, rfl, rfl, rfl, rfl, rfl, rfl, State.spanOf_reset, fun a => get_replicate ..,
    fun a => get_replicate .., fun a => get_replicate .., fun i => rfl, rfl, rfl, rfl, State.trimOf_reset, rfl,
    State.crane_reset, rfl, State.laneOf_reset, rfl, rfl, rfl, fun x => get_replicate .., rfl, rfl, rfl, rfl, rfl,
    fun a => get_replicate .., rfl, rfl, State.classOf_reset, State.trimsInLaw_reset, Nat.zero_le _, Nat.zero_le _, rfl,
    State.workInLaw_reset, State.lanesInLaw_reset, State.railInLaw_reset, State.slotsInLaw_reset, State.spansOnRail_reset⟩

end Sys2Proof.Machine

namespace Sys2Proof.Machine

/-! ## Records that are not taken (R128, R129, R146) -/

section

variable {s : State} {x : Crane} {id : Word16}

theorem hearCrane_offline (h : (s.crane x).state = .offline) (record : State → State) : s.hearCrane x record = s :=
  if_neg fun e => (s.enrolled_iff x).1 e h

theorem namedOrder_eq_none (h : ∀ o, (s.crane x).order = some o → o.id ≠ id) : s.namedOrder x id = none :=
  Option.eq_none_iff_forall_ne_some.2 fun o e => by
    obtain ⟨ho, hid⟩ := namedOrder_eq_some.1 e
    exact h o ho hid

theorem notTaken_enrolled (hl : (s.crane x).state ≠ .lost) : s.notTaken x = s.anomaly x := if_neg hl

theorem notTaken_lost (hl : (s.crane x).state = .lost) : s.notTaken x = s.unsettled x := if_pos hl

/-- An unsettled reconciliation by whether the crane holds an order (R146). -/
theorem unsettled_eq (s : State) (x : Crane) :
    s.unsettled x = State.emit
      (if (s.crane x).order = none then ((s.anomaly x).setCraneState x .syncing).craneStateEvent x .reconciled
      else ((s.anomaly x).setCraneState x .faulted).craneStateEvent x .unsettled) x (frameOf 0x04#8 [0]) := by
  have order : ((s.anomaly x).crane x).order = (s.crane x).order := (sameButPlace_anomaly s x).order
  unfold State.unsettled
  dsimp only
  rw [order]
  cases (s.crane x).order <;> rfl

/-! ### By the order that a record names -/

theorem takeDecline_malformed (id : Word16) : s.takeDecline x id 0#8 = s.notTaken x := if_pos rfl

theorem takeFault_malformed (bay level : Byte) (id : Word16) (n : Nat) : s.takeFault x 0#8 bay level id n = s.notTaken x :=
  if_pos rfl

theorem takeAccept_unnamed (h : s.namedOrder x id = none) : s.takeAccept x id = s.notTaken x := by
  simp only [State.takeAccept, h]

theorem takeDecline_unnamed (h : s.namedOrder x id = none) (reason : Byte) : s.takeDecline x id reason = s.notTaken x := by
  simp only [State.takeDecline, h, ite_self]

theorem takeRevoked_unnamed (h : s.namedOrder x id = none) (started : Bool) : s.takeRevoked x id started = s.notTaken x := by
  simp only [State.takeRevoked, h]

theorem takeLegDone_unnamed (h : s.namedOrder x id = none) (i : Nat) (bay level : Byte) :
    s.takeLegDone x id i bay level
      = if (s.crane x).state = .lost then (s.reportPosition x bay.toNat level.toNat).unsettled x else s.anomaly x := by
  simp only [State.takeLegDone, h]

theorem takeOrderDone_unnamed (h : s.namedOrder x id = none) (bay level : Byte) :
    s.takeOrderDone x id bay level
      = if (s.crane x).state = .lost then (s.reportPosition x bay.toNat level.toNat).unsettled x else s.anomaly x := by
  simp only [State.takeOrderDone, h]

variable {o : Order} (ho : (s.crane x).order = some o)
include ho

theorem takeAccept_notTaken (hs : o.state ≠ .sent) (hr : o.state ≠ .revoking) : s.takeAccept x o.id = s.notTaken x := by
  cases h : o.state
  case sent => exact absurd h hs
  case revoking => exact absurd h hr
  all_goals simp only [State.takeAccept, namedOrder_id ho, h]

theorem takeDecline_notTaken (hs : o.state ≠ .sent) (hr : o.state ≠ .revoking) (reason : Byte) :
    s.takeDecline x o.id reason = s.notTaken x := by
  cases h : o.state
  case sent => exact absurd h hs
  case revoking => exact absurd h hr
  all_goals simp only [State.takeDecline, namedOrder_id ho, h, ite_self]

theorem takeRevoked_notTaken (hr : o.state ≠ .revoking) (started : Bool) : s.takeRevoked x o.id started = s.notTaken x := by
  cases h : o.state
  case revoking => exact absurd h hr
  all_goals simp only [State.takeRevoked, namedOrder_id ho, h]

theorem takeLegDone_anomaly (h : o.state ∈ [.awaitYield, .suspended]) (hl : (s.crane x).state ≠ .lost) (i : Nat)
    (bay level : Byte) : s.takeLegDone x o.id i bay level = s.anomaly x := by
  simp only [List.mem_cons, List.not_mem_nil, or_false] at h
  obtain h | h := h <;> simp only [State.takeLegDone, namedOrder_id ho, if_neg hl, h]

theorem takeOrderDone_anomaly (h : o.state ∈ [.awaitYield, .suspended]) (hl : (s.crane x).state ≠ .lost)
    (bay level : Byte) : s.takeOrderDone x o.id bay level = s.anomaly x := by
  simp only [List.mem_cons, List.not_mem_nil, or_false] at h
  obtain h | h := h <;> simp only [State.takeOrderDone, namedOrder_id ho, if_neg hl, h]

end

/-- Settles O44: a frame is heard by an enrolled crane only, and each record goes by the order it names; then the writes of one
place of a collection. -/
theorem recordsNotTaken : Obligations.RecordsNotTaken := by
  rintro x id reason code index bay level legsDone started aboard mode s h rfl
  have heard (enrolled : (s.crane x).state ≠ .offline) (record : State → State) {u : State}
      (hu : record (s.setSilence x 0) = u) :
      Host.Outcome.next (s.hearCrane x record) = (.next u : Host.Outcome State Fault Refusal) :=
    congrArg _ ((hearCrane_enrolled enrolled record).trans hu)
  refine ⟨fun offline => ?_, fun enrolled seen => ?_, fun lost u hu => ?_, fun t => ?_, fun t c f st => ?_, fun t n frame => ?_⟩
  · have unheard (record : State → State) : Host.Outcome.next (s.hearCrane x record) = (.next s : Host.Outcome State Fault Refusal) :=
      congrArg _ (hearCrane_offline offline record)
    exact ⟨unheard _, unheard _, unheard _, unheard _, unheard _, unheard _, unheard _, unheard _, unheard _⟩
  · have seen' : ((s.setSilence x 0).crane x).state ≠ .lost := seen
    have untaken := notTaken_enrolled seen'
    refine ⟨heard enrolled _ untaken, heard enrolled _ ((takeDecline_malformed id).trans untaken),
      heard enrolled _ ((takeFault_malformed ..).trans untaken), fun unnamed => ?_, ?_⟩
    · have none : (s.setSilence x 0).namedOrder x id = none := namedOrder_eq_none unnamed
      exact ⟨heard enrolled _ ((takeAccept_unnamed none).trans untaken),
        heard enrolled _ ((takeDecline_unnamed none _).trans untaken),
        heard enrolled _ ((takeLegDone_unnamed none ..).trans (if_neg seen')),
        heard enrolled _ ((takeOrderDone_unnamed none ..).trans (if_neg seen')),
        heard enrolled _ ((takeRevoked_unnamed none _).trans untaken)⟩
    · rintro o ho rfl
      have ho' : ((s.setSilence x 0).crane x).order = some o := ho
      refine ⟨fun h => ?_, fun h => heard enrolled _ ((takeRevoked_notTaken ho' h _).trans untaken),
        fun h => ⟨heard enrolled _ (takeLegDone_anomaly ho' h seen' ..), heard enrolled _ (takeOrderDone_anomaly ho' h seen' ..)⟩⟩
      have notSent : o.state ≠ .sent := fun e => by simp [e] at h
      have notRevoking : o.state ≠ .revoking := fun e => by simp [e] at h
      exact ⟨heard enrolled _ ((takeAccept_notTaken ho' notSent notRevoking).trans untaken),
        heard enrolled _ ((takeDecline_notTaken ho' notSent notRevoking _).trans untaken)⟩
  · have enrolled : (s.crane x).state ≠ .offline := by rw [lost]; nofun
    have lost' : ((s.setSilence x 0).crane x).state = .lost := lost
    have untaken : (s.setSilence x 0).notTaken x = u := (notTaken_lost lost').trans ((unsettled_eq ..).trans hu.symm)
    exact ⟨heard enrolled _ untaken, heard enrolled _ ((takeDecline_malformed id).trans untaken),
      heard enrolled _ ((takeFault_malformed ..).trans untaken)⟩
  · exact ⟨State.crane_modCrane_self .., fun y hy => (State.crane_modCrane ..).trans (if_neg hy.symm), rfl⟩
  · exact ⟨State.crane_setCrane_self .., fun y hy => (State.crane_setCrane ..).trans (if_neg hy.symm), rfl, rfl, rfl⟩
  · exact ⟨State.silenceOf_setSilence_self .., fun y hy => (State.silenceOf_setSilence ..).trans (if_neg hy.symm), rfl,
      upd_get_self .., fun y hy => upd_get_other _ _ hy.symm, rfl⟩

end Sys2Proof.Machine

namespace Sys2Proof.Machine

/-! ## The crane requests (R125, R127, R145, R147) -/

theorem not_enrolled_iff (s : State) (x : Crane) : (!s.enrolled x) = true ↔ (s.crane x).state = .offline := by
  simp [State.enrolled]

/-- A crane at work is not withdrawn (R127). -/
theorem withdrawBusy_iff (s : State) (x : Crane) :
    s.withdrawBusy x = true ↔ (s.crane x).order ≠ none
      ∨ (s.crane x).state ∈ [.queued, .awaitYield, .ordered, .running, .yielding, .homing] := by
  unfold State.withdrawBusy
  cases (s.crane x).order with
  | some o => simp
  | none => cases (s.crane x).state <;> simp

/-- A home request that was clear, by the crane's state (R100, R147). -/
theorem takeHome_eq {s t : State} {x : Crane} (ht : t = s.setCrane x { s.crane x with homeRequest := true }) :
    s.takeHome x = if (s.crane x).state = .idle then t.trigger x else if (s.crane x).state = .queued then t.engineRun else t := by
  subst ht
  unfold State.takeHome
  cases (s.crane x).state <;> rfl

/-! ### An order given up (R54, R55) -/

theorem legIsDone_eq (o : Order) (i : Nat) : o.legIsDone i = (o.legs[i]?).any (·.done) := by
  unfold Order.legIsDone
  cases o.legs[i]? <;> rfl

theorem giveUp_eq {s : State} {x : Crane} {o : Order} (ho : (s.crane x).order = some o) :
    s.giveUp x = State.spanToPosition
      (State.dropOrder (if o.kind = .job then (s.abandonStore o x).abandonRetrieve o x else s) x) x := by
  simp only [State.giveUp, ho]
  cases o.kind <;> rfl

/-- Settles O43: each request by its checks, then the parts of an abandoned order by its legs done. -/
theorem craneRequestsTaken : Obligations.CraneRequestsTaken := by
  refine ⟨fun r1 r0 b x s h t u hs hh ht hu => ⟨?_, ?_, fun hb => ?_⟩, fun r1 r0 b x s h t hs hh ht => ⟨?_, ?_, fun hb => ?_⟩,
    fun s x o done k hdone hk => ?_⟩
  · refine congrArg _ ((takeRequest_named hs hh (by decide) x ..).trans ?_)
    rw [State.replyTo_ite, State.replyTo_ite, ht]
    exact if_congr (h.enrolled_iff x) rfl (if_congr (Bool.not_eq_true' _).to_iff rfl rfl)
  · have failed : (h.crane x).state ∈ [.faulted, .lost] ↔ (h.crane x).state = .faulted ∨ (h.crane x).state = .lost := by simp
    refine congrArg _ ((takeRequest_named hs hh (by decide) x ..).trans ?_)
    rw [State.replyTo_ite, State.replyTo_ite, hu]
    simp only [failed]
    exact if_congr (not_enrolled_iff h x) rfl (if_congr (withdrawBusy_iff h x) rfl rfl)
  · exact ⟨congrArg _ (takeRequest_unnamed hs hh hb ..), congrArg _ (takeRequest_unnamed hs hh hb ..)⟩
  · refine congrArg _ ((takeRequest_named hs hh (by decide) x ..).trans ?_)
    rw [State.replyTo_ite, State.replyTo_ite, ← takeHome_eq ht]
    exact if_congr (not_enrolled_iff h x) rfl (apply_ite (State.pushReply · _) ..).symm
  · refine congrArg _ ((takeRequest_named hs hh (by decide) x ..).trans ?_)
    rw [State.replyTo_ite]
    exact if_congr (by simp [Option.isSome_iff_ne_none]) rfl rfl
  · exact ⟨congrArg _ (takeRequest_unnamed hs hh hb ..), congrArg _ (takeRequest_unnamed hs hh hb ..)⟩
  · have done_eq (i : Nat) : o.legIsDone i = done i := (legIsDone_eq o i).trans (hdone i).symm
    have first : (if o.storeTag.isSome then 2 else 0) = k := by
      rw [hk]
      cases o.storeTag <;> rfl
    refine ⟨fun t ht => ?_, fun t ht hr => ?_, fun t r ht hr => ?_, fun t r => ⟨rfl, rfl, rfl, relocationDone_eq s t r⟩, giveUp_eq⟩
    · simp only [State.abandonStore, ht, done_eq]
    · simp only [State.abandonRetrieve, ht, hr, first, done_eq]
    · simp only [State.abandonRetrieve, ht, hr, first, done_eq]

end Sys2Proof.Machine

namespace Sys2Proof.Machine

/-! ## The reconciliation of a LOST crane (R146) -/

section

variable {s : State} {x : Crane}

/-! ### A crane that stands in the queue holds a single bay -/

/-- The span set to the position bay does not shrink where the crane stands in the queue, so no turn of the engine reaches it. -/
theorem crane_spanToPosition_atBay (hq : s.QueuedAtBay x) : (s.spanToPosition x).crane x = s.crane x := by
  unfold State.spanToPosition
  split
  · unfold State.changeSpan State.shrunkFrom
    split
    · rename_i shrunk
      refine State.crane_trigger_other (sibling_ne x) fun e he hx => ?_
      obtain ⟨b, hb⟩ := hq e he hx
      simp [hb, narrower] at shrunk
    · rfl
  · rfl

theorem State.QueuedAtBay.modCrane (hq : s.QueuedAtBay x) {f : CraneCtx → CraneCtx} : (s.modCrane x f).QueuedAtBay x := hq

/-- A report of a crane at rest leaves it at a single bay, if it stands in the queue (R58, R68). -/
theorem queuedAtBay_reportPosition (hq : s.QueuedAtBay x) (ho : (s.crane x).order = none)
    (hst : (s.crane x).state ∈ [.idle, .queued, .faulted, .lost]) (b l : Nat) : (s.reportPosition x b l).QueuedAtBay x := by
  by_cases queued : ∃ e ∈ s.engine.queue, e.crane = x
  · obtain ⟨e, he, hx⟩ := queued
    obtain ⟨c, hc⟩ := hq e he hx
    obtain ⟨p, -, hp, -⟩ := takePosition_rest (bay := b) (level := l) rfl ho hst hc
    have still : s.reportPosition x b l = s.takePosition x b l := by
      simp [State.reportPosition, State.shrunkFrom, hp, hc, narrower]
    exact fun _ _ _ => ⟨p.bay, by rw [still, hp]⟩
  · have out : ∀ e ∈ s.engine.queue, e.crane ≠ x := fun e he hx => queued ⟨e, he, hx⟩
    exact fun e he hx => absurd hx ((unreached_reportPosition out b l).queue e he)

/-- The same of the report of a STATUS IDLE, with an anomaly or without. -/
theorem queuedAtBay_statusReport {g : State} (hq : s.QueuedAtBay x) (hg : g = s ∨ g = s.anomaly x)
    (ho : (s.crane x).order = none) (hst : (s.crane x).state ∈ [.idle, .queued, .faulted, .lost])
    (bay level : Byte) (aboard : Bool) :
    ((g.statusPosition x .idle bay level).takeAboard x aboard).QueuedAtBay x := by
  have counted : (g.crane x).SameButPlace (s.crane x) := by
    obtain e | e := hg <;> rw [e]
    · exact .refl _
    · exact sameButPlace_anomaly s x
  have hq' : g.QueuedAtBay x := by
    obtain e | e := hg <;> rw [e] <;> exact hq
  rw [State.statusPosition, if_neg (by simp)]
  exact (queuedAtBay_reportPosition hq' (counted.order.trans ho) (counted.state ▸ hst) bay.toNat level.toNat).modCrane

/-! ### Its STATUS -/

theorem settleIdle_lost (hl : (s.crane x).state = .lost) (hq : s.QueuedAtBay x) :
    s.settleIdle x = if s.spanOf x = .unknown then (s.setCraneState x .syncing).craneStateEvent x .reconciled
      else (((s.spanToPosition x).setCraneState x .idle).craneStateEvent x .reconciled).idleTriggers x := by
  have rested : ((s.spanToPosition x).crane x).state = .lost := by rw [crane_spanToPosition_atBay hq, hl]
  simp only [State.settleIdle, if_pos hl, State.becomeIdle, State.setIdle, if_pos rested]

theorem statusLost_fault (hl : (s.crane x).state = .lost) (named : Bool) (k : Nat) (aboard : Bool) :
    s.statusLost x .fault named k aboard = (s.setCraneState x .faulted).craneStateEvent x .fault := by
  simp only [State.statusLost, State.applyFault, hl]
  rfl

/-- STATUS from a LOST crane without an order (R146). -/
theorem statusLost_free (hl : (s.crane x).state = .lost) (ho : (s.crane x).order = none) (mode : StatusMode)
    (named : Bool) (k : Nat) (aboard : Bool) :
    s.statusLost x mode named k aboard = match mode, aboard with
      | .idle, false => s.settleIdle x
      | .idle, true => (s.setCraneState x .faulted).craneStateEvent x .loadAboard
      | .busy, _ => (((s.anomaly x).loseSight x).setCraneState x .syncing).craneStateEvent x .reconciled
      | .fault, _ => (s.setCraneState x .faulted).craneStateEvent x .fault := by
  have counted : ((s.anomaly x).crane x).state = .lost := (sameButPlace_anomaly s x).state.trans hl
  cases mode
  case idle =>
    cases aboard
    · simp only [State.statusLost, ho]
    · simp only [State.statusLost, ho, State.loadAboard, hl]
      rfl
  case busy => simp only [State.statusLost, ho, State.busyUnknown, counted]
  case fault => exact statusLost_fault hl ..

variable {o : Order} (ho : (s.crane x).order = some o)
include ho

/-- STATUS from a LOST crane with an order (R146). -/
theorem statusLost_order (hl : (s.crane x).state = .lost) (mode : StatusMode) (named : Bool) (k : Nat) (aboard : Bool) :
    s.statusLost x mode named k aboard = match mode, named with
      | .idle, _ => s.orderLostIdle x
      | .busy, true => ((s.resumeLost x).markCount x k).narrowSpan x
      | .busy, false => (s.anomaly x).orderLostSyncing x
      | .fault, _ => (s.setCraneState x .faulted).craneStateEvent x .fault := by
  cases mode
  case idle => simp only [State.statusLost, ho]
  case busy => cases named <;> simp only [State.statusLost, ho]
  case fault => exact statusLost_fault hl ..

/-! ### The resumption of its order -/

theorem resumeLost_suspended (hl : (s.crane x).state = .lost) (h : o.state = .suspended) :
    s.resumeLost x = (s.setCrane x { s.crane x with
      order := some { o with state := .running }, state := stateOfKind o.kind .running }).craneStateEvent x .reconciled := by
  simp only [State.resumeLost, ho, if_pos h]
  rw [modOrder_eq ho, takeKindState_lost (by rw [State.crane_setCrane_self]) (by rwa [State.crane_setCrane_self]),
    State.crane_setCrane_self, setCrane_setCrane]

theorem resumeLost_start (h : o.state = .sent ∨ o.state = .revoking) : s.resumeLost x = s.startOrder x true := by
  have moving : o.state ≠ .suspended := fun e => by simp [e] at h
  simp only [State.resumeLost, ho, if_neg moving]
  exact startIfSent_start ho h

/-! ### The records that name its order -/

/-- Only a SENT order takes an ACCEPT of a LOST crane. -/
theorem takeAccept_lost (hl : (s.crane x).state = .lost) (hs : o.state ≠ .sent) : s.takeAccept x o.id = s.unsettled x := by
  by_cases hr : o.state = .revoking
  · simp only [State.takeAccept, namedOrder_id ho, hr, if_pos hl]
  · exact (takeAccept_notTaken ho hs hr).trans (notTaken_lost hl)

theorem takeLegDone_lost (hl : (s.crane x).state = .lost) (i : Nat) (bay level : Byte) :
    s.takeLegDone x o.id i bay level = (s.resumeLost x).markLegDone x o i bay level := by
  simp only [State.takeLegDone, namedOrder_id ho, if_pos hl]

theorem takeOrderDone_lost (hl : (s.crane x).state = .lost) (bay level : Byte) :
    s.takeOrderDone x o.id bay level = (s.resumeLost x).finishOrder x o bay level := by
  simp only [State.takeOrderDone, namedOrder_id ho, if_pos hl]

end

/-- Settles O52: each record by the order it names, and a STATUS by its row on the state with the report taken. -/
theorem lostCranesReconcile : Obligations.LostCranesReconcile := by
  intro x id reason index n bay level started aboard mode s h t lost queued hh ht
  have hcrane : h.crane x = s.crane x := hh ▸ rfl
  have lost' : (h.crane x).state = .lost := hcrane ▸ lost
  have enrolled : (s.crane x).state ≠ .offline := by rw [lost]; nofun
  have heard (record : State → State) {u : State} (hu : record h = u) :
      Host.Outcome.next (s.hearCrane x record) = (.next u : Host.Outcome State Fault Refusal) :=
    congrArg _ ((hearCrane_enrolled enrolled record).trans (hh ▸ hu))
  have untaken := notTaken_lost lost'
  rw [← hcrane]
  refine ⟨fun unnamed => ?_, ?_, unsettled_eq h x, ?_,
    fun r j o kind ho hl hkind hj => ⟨fun hs => ?_, resumeLost_start ho, ?_⟩, fun g u misfit misnamed hfit hname hg hu => ?_⟩
  · have none := namedOrder_eq_none unnamed
    refine ⟨heard _ ((takeAccept_unnamed none).trans untaken), heard _ ((takeDecline_unnamed none _).trans untaken),
      heard _ ((takeRevoked_unnamed none _).trans untaken), ?_, ?_⟩ <;> rw [ht]
    · exact heard _ ((takeLegDone_unnamed none ..).trans (if_pos lost'))
    · exact heard _ ((takeOrderDone_unnamed none ..).trans (if_pos lost'))
  · rintro o ho rfl
    exact ⟨fun hs => heard _ (takeAccept_lost ho lost' hs),
      fun hs hr => heard _ ((takeDecline_notTaken ho hs hr _).trans untaken),
      fun hr => heard _ ((takeRevoked_notTaken ho hr _).trans untaken),
      fun hr => heard _ (takeRevoked_revoking ho hr true)⟩
  · rintro o u kind ho rfl rfl suspended starts notWaiting notRunning
    have resumed : h.resumeLost x = u := by
      cases hs : o.state
      case suspended => rw [suspended hs, resumeLost_suspended ho lost' hs, stateOfKind_running]
      case sent => rw [starts (.inl hs), resumeLost_start ho (.inl hs)]
      case revoking => rw [starts (.inr hs), resumeLost_start ho (.inr hs)]
      case awaitYield => exact absurd hs notWaiting
      case running => exact absurd hs notRunning
    rw [← resumed]
    exact ⟨heard _ (takeLegDone_lost ho lost' ..), heard _ (takeOrderDone_lost ho lost' ..)⟩
  · rw [resumeLost_suspended ho hl hs, stateOfKind_running, hkind]
  · rw [startOrder_lost ho hl, activateJobs_eq, stateOfKind_running, hkind, hj]
    rfl
  · have anomalies : h.statusAnomalies x mode id n.toNat = g := by
      refine (statusAnomalies_eq hfit (hname.trans ?_)).trans hg.symm
      simp only [lost', ne_eq, reduceCtorEq, not_false_eq_true, true_and, not_exists, not_and]
    have gcases : g = h ∨ g = h.anomaly x := hg ▸ (ite_eq_or_eq ..).symm
    have gspan : g.spanOf x = s.spanOf x := by
      obtain e | e := gcases <;> rw [e, hh] <;> rfl
    have told : u = (g.statusPosition x mode bay level).takeAboard x aboard := by
      rw [hu, State.statusPosition, gspan]
      rfl
    obtain ⟨order, state⟩ := context_statusReport (s := h) (hh ▸ queued) gcases mode bay level aboard
    rw [← told] at order state
    have lostStill := state.trans lost'
    have row : exec (.status x mode id n bay level aboard) s
        = .next (u.statusLost x mode (h.namedOrder x id).isSome n.toNat aboard) := by
      refine heard _ ((takeStatus_lost lost' ..).trans ?_)
      rw [State.statusTaken, anomalies, ← told]
    have atBay (idle : mode = .idle) (ho : (h.crane x).order = none) : u.QueuedAtBay x := by
      rw [told, idle]
      exact queuedAtBay_statusReport (hh ▸ queued) gcases ho (by simp [lost']) bay level aboard
    have settled (idle : mode = .idle) (ho : (h.crane x).order = none) := settleIdle_lost lostStill (atBay idle ho)
    rw [row]
    refine ⟨fun o ho => ?_, fun ho => ?_, ?_⟩
    · rw [statusLost_order (order.trans ho) lostStill]
      refine ⟨?_, ?_, ?_⟩
      · rintro rfl
        rfl
      · rintro rfl rfl
        rw [namedOrder_id ho]
        rfl
      · rintro rfl other
        rw [namedOrder_eq_none fun q hq => Option.some.inj (ho.symm.trans hq) ▸ other]
        rfl
    · rw [statusLost_free lostStill (order.trans ho)]
      refine ⟨?_, ?_, ?_, ?_⟩
      · rintro rfl
        rfl
      · rintro rfl rfl
        rfl
      · rintro rfl rfl known
        exact congrArg _ ((settled rfl ho).trans (if_neg known))
      · rintro rfl rfl unknown
        exact congrArg _ ((settled rfl ho).trans (if_pos unknown))
    · rintro rfl
      exact congrArg _ (statusLost_fault lostStill ..)

end Sys2Proof.Machine

namespace Sys2Proof.Machine

/-! ## A delivery to a lane (R152, R157, R161) -/

/-- A sequence is its distance ahead of another beyond it (R152). -/
theorem add_ahead (d n : Word16) : n + BitVec.ofNat 16 (ahead d n) = d := by
  rw [ahead, BitVec.ofNat_toNat, BitVec.setWidth_eq, BitVec.add_comm, BitVec.sub_add_cancel]

theorem ahead_add {n : Word16} {i : Nat} (hi : i < 65536) : ahead (n + BitVec.ofNat 16 i) n = i := by
  rw [ahead, BitVec.add_comm, BitVec.add_sub_cancel, BitVec.toNat_ofNat, Nat.mod_eq_of_lt hi]

theorem ahead_eq_zero {d n : Word16} : ahead d n = 0 ↔ d = n := by
  unfold ahead
  bv_omega

/-- The distance falls by one as next due moves one on. -/
theorem ahead_succ {d n : Word16} (h : d ≠ n) : ahead d n = ahead d (n + 1) + 1 := by
  unfold ahead
  bv_omega

theorem add_one_add_ofNat (n : Word16) (i : Nat) : n + 1 + BitVec.ofNat 16 i = n + BitVec.ofNat 16 (i + 1) := by
  rw [BitVec.add_assoc, Nat.add_comm i 1, BitVec.ofNat_add]
  rfl

/-- Next due moves on past just the members of the set that follow one another, and they leave the set (R157). -/
theorem advanceLane_eq (n : Word16) (set : List Word16) (small : set.length < 65536) (nodup : set.Nodup) :
    ∃ k, k ≤ set.length ∧ (∀ i, i < k → n + BitVec.ofNat 16 i ∈ set) ∧ n + BitVec.ofNat 16 k ∉ set
      ∧ advanceLane set.length n set = (n + BitVec.ofNat 16 k, set.filter fun e => k ≤ ahead e n) := by
  induction hf : set.length generalizing n set with
  | zero =>
    obtain rfl := List.eq_nil_of_length_eq_zero hf
    exact ⟨0, Nat.le_refl 0, nofun, nofun, by simp [advanceLane]⟩
  | succ fuel ih =>
    by_cases member : n ∈ set
    case neg => exact ⟨0, Nat.zero_le _, nofun, by simpa using member, by simp [advanceLane, member]⟩
    case pos =>
      have rest : set.filter (fun d => d != n) = set.erase n := (nodup.erase_eq_filter n).symm
      have length : (set.filter fun d => d != n).length = fuel := by
        rw [rest, List.length_erase_of_mem member, hf, Nat.add_sub_cancel]
      obtain ⟨k, le, run, stop, result⟩ := ih (n + 1) (set.filter fun d => d != n) (by omega) (nodup.filter _) length
      have apart : n + BitVec.ofNat 16 (k + 1) ≠ n := fun e => by
        have := ahead_add (n := n) (i := k + 1) (by omega)
        rw [e, ahead_eq_zero.2 rfl] at this
        omega
      refine ⟨k + 1, Nat.succ_le_succ le, fun i hi => ?_, fun hm => stop ?_, ?_⟩
      · cases i with
        | zero => simpa using member
        | succ i =>
          have := run i (Nat.lt_of_succ_lt_succ hi)
          rw [add_one_add_ofNat] at this
          exact List.mem_of_mem_filter this
      · rw [add_one_add_ofNat]
        exact List.mem_filter.2 ⟨hm, by simpa using apart⟩
      · rw [advanceLane, if_pos member, result, add_one_add_ofNat, List.filter_filter]
        refine congrArg _ (List.filter_congr fun e _ => ?_)
        by_cases here : e = n
        · simp [here, ahead_eq_zero.2]
        · simp [here, ahead_succ here]

/-- The delivered set gains the sequence, wherever its distance puts it. -/
theorem insertAhead_perm (n d : Word16) (set : List Word16) : (insertAhead n d set).Perm (d :: set) := by
  induction set with
  | nil => exact .refl _
  | cons e rest ih =>
    unfold insertAhead
    split
    · exact .refl _
    · exact (ih.cons e).trans (.swap d e rest)

namespace Lane

variable {r : Lane} {d : Word16}

/-- A delivery of the sequence that is DUE (R157). -/
theorem deliver_due (opened : r.opened = true) (small : r.delivered.length < 65536) (nodup : r.delivered.Nodup) :
    (r.deliver r.nextDue).2 = true ∧ ∃ k, k ≤ r.delivered.length
      ∧ (∀ i, i < k → r.nextDue + 1 + BitVec.ofNat 16 i ∈ r.delivered)
      ∧ r.nextDue + 1 + BitVec.ofNat 16 k ∉ r.delivered
      ∧ (r.deliver r.nextDue).1
        = { r with
            nextDue := r.nextDue + 1 + BitVec.ofNat 16 k
            delivered := r.delivered.filter fun e => k ≤ ahead e (r.nextDue + 1) } := by
  obtain ⟨k, le, run, stop, result⟩ := advanceLane_eq (r.nextDue + 1) r.delivered small nodup
  have moved : r.deliver r.nextDue
      = ({ r with
            nextDue := (advanceLane r.delivered.length (r.nextDue + 1) r.delivered).1
            delivered := (advanceLane r.delivered.length (r.nextDue + 1) r.delivered).2 }, true) := by
    simp [deliver, opened, ahead_eq_zero.2]
  rw [moved, result]
  exact ⟨rfl, k, le, run, stop, rfl⟩

/-- A delivery of a sequence 1 to 31 ahead (R157). -/
theorem deliver_ahead (opened : r.opened = true) (lo : 1 ≤ ahead d r.nextDue) (hi : ahead d r.nextDue ≤ 31)
    (fresh : d ∉ r.delivered) : r.deliver d = ({ r with delivered := insertAhead r.nextDue d r.delivered }, false) := by
  have ne : ahead d r.nextDue ≠ 0 := by omega
  simp [deliver, opened, ne, hi, fresh]

/-- A delivery of any other sequence, or to a CLOSED lane, changes nothing (R157). -/
theorem deliver_else (h : r.opened = true → d ≠ r.nextDue ∧ (32 ≤ ahead d r.nextDue ∨ d ∈ r.delivered)) :
    r.deliver d = (r, false) := by
  unfold deliver
  cases opened : r.opened with
  | false => rfl
  | true =>
    obtain ⟨ne, other⟩ := h opened
    rw [if_neg (by simp), if_neg (mt ahead_eq_zero.1 ne), if_neg]
    rintro ⟨near, fresh⟩
    rcases other with far | member
    · omega
    · exact fresh member

end Lane

/-- Settles O41: the three branches of a delivery to a lane, then the event and the triggers of an advance. -/
theorem laneDelivery : Obligations.LaneDelivery := by
  refine ⟨fun r d opened short nodup => ⟨?_, fun lo hi fresh => ?_, fun ne other => ?_⟩, ?_⟩
  · rintro rfl
    exact Lane.deliver_due opened (by omega) nodup
  · rw [Lane.deliver_ahead opened lo hi fresh]
    exact ⟨rfl, insertAhead_perm .., rfl⟩
  · exact Lane.deliver_else fun _ => ⟨ne, other⟩
  · rintro s l d _ _ rfl rfl
    refine ⟨fun moved => ?_, fun stays => ?_⟩
    · rw [State.deliver, State.deliverOnly, if_pos moved, if_pos moved]
      rfl
    · rw [State.deliver, State.deliverOnly, if_neg (by simp [stays]), if_neg (by simp [stays])]
      rfl

end Sys2Proof.Machine

namespace Sys2Proof.Machine

/-! ## The requests of the lane unit (R153, R154, R160, R161) -/

/-- A request that names a lane is answered for it. -/
theorem ranged_lane (h : State) (l : LaneNo) (act : State → LaneNo → Answer) :
    h.ranged (laneOfByte (BitVec.ofNat 8 l.val)) act = act h l := by
  rw [laneOfByte, asFin_ofNat (by decide), State.ranged]

/-- A lane number above 7 is refused RANGE. -/
theorem ranged_noLane (h : State) {b : Byte} (hb : 7 < b.toNat) (act : State → LaneNo → Answer) :
    h.ranged (laneOfByte b) act = h.refuse .range := by
  rw [laneOfByte, asFin_eq_none hb, State.ranged]

namespace Lane

theorem stale_iff (r : Lane) (d : Word16) : r.stale d = true ↔ 32768 ≤ (d - r.nextDue).toNat ∨ d ∈ r.delivered := by
  rw [stale, ahead, Bool.or_eq_true, decide_eq_true_eq, decide_eq_true_eq]

end Lane

theorem Pool.holder_isSome_iff (p : Pool) (l : LaneNo) (d : Word16) :
    (p.holder l d).isSome = true ↔ ∃ j ∈ p.jobs, j.lane? = some (l, d) := by
  simp [holder]

/-- Settles O42: each request is read, its lane named, and its checks taken one by one. -/
theorem laneRequestsTaken : Obligations.LaneRequestsTaken := by
  rintro r1 r0 q1 q0 w b l s h _ hs hh rfl
  have sequence : word16Of q1 q0 = q1 ++ q0 := word16Of_eq_append q1 q0
  have opens (n : Byte) : exec (.laneOpen [r1, r0, n, q1, q0, w]) s
      = .next (State.replyTo (r1 ++ r0) 0x14#8 (h.laneOpen (n, q1 ++ q0, w.toNat))) :=
    congrArg Host.Outcome.next (takeRequest_read hs hh (by rw [readLaneOpen, sequence]) ..)
  have closes (n : Byte) : exec (.laneClose [r1, r0, n]) s
      = .next (State.replyTo (r1 ++ r0) 0x15#8 (h.laneClose n)) :=
    congrArg Host.Outcome.next (takeRequest_read hs hh rfl ..)
  have skips (n : Byte) : exec (.skipSequence [r1, r0, n, q1, q0]) s
      = .next (State.replyTo (r1 ++ r0) 0x16#8 (h.skipSequence (n, q1 ++ q0))) :=
    congrArg Host.Outcome.next (takeRequest_read hs hh (by rw [readSkip, sequence]) ..)
  refine ⟨?_, ?_, ?_, ?_, fun hb => ⟨?_, ?_, ?_⟩⟩
  · rw [opens, State.laneOpen, ranged_lane, State.replyTo_ite, replyTo_okWith]
    exact congrArg Host.Outcome.next (if_congr Iff.rfl rfl rfl)
  · rw [closes, State.laneClose, ranged_lane]
    simp only [State.replyTo_ite]
    exact congrArg Host.Outcome.next (if_congr (by simp) rfl rfl)
  · rintro _ _ rfl rfl
    rfl
  · intro t ht
    have taken : h.takeSkip l (q1 ++ q0) = t.okWith (.nextDue (t.laneOf l).nextDue) := by
      rw [ht]
      rfl
    rw [skips, State.skipSequence, ranged_lane]
    simp only [taken, State.replyTo_ite]
    exact congrArg Host.Outcome.next (if_congr (by simp) rfl <| if_congr (Lane.stale_iff ..) rfl <|
      if_congr Iff.rfl rfl <| if_congr (Pool.holder_isSome_iff ..) rfl rfl)
  · rw [opens, State.laneOpen, ranged_noLane h hb, replyTo_refuse]
  · rw [closes, State.laneClose, ranged_noLane h hb, replyTo_refuse]
  · rw [skips, State.skipSequence, ranged_noLane h hb, replyTo_refuse]

end Sys2Proof.Machine

namespace Sys2Proof.Machine

/-! ## The law of the lanes, lane by lane (R151, R155)

The law reads of the live jobs the lane references alone. It holds just when each lane fits the sequences that live jobs name
on it, so that an operation on one lane has only that lane to show. -/

/-- A lane fits the sequences that live jobs name on it. -/
structure Lane.Fits (r : Lane) (named : List Word16) : Prop where
  distinct : named.Nodup
  opened : ∀ d ∈ named, r.opened = true
  notPassed : ∀ d ∈ named, ahead d r.nextDue < 32768
  undelivered : ∀ d ∈ named, d ∉ r.delivered
  count : r.liveJobs = named.length
  window : 1 ≤ r.window ∧ r.window ≤ 32
  nodup : r.delivered.Nodup
  near : ∀ d ∈ r.delivered, 1 ≤ ahead d r.nextDue ∧ ahead d r.nextDue ≤ 31

namespace Lane.Fits

variable {r : Lane} {d : Word16} {named before after : List Word16}

/-- At most 31 sequences stand 1 to 31 ahead. -/
theorem delivered_length (h : r.Fits named) : r.delivered.length ≤ 31 := by
  have within : r.delivered ⊆ (List.range' 1 31).map fun i => r.nextDue + BitVec.ofNat 16 i := fun d hd => by
    obtain ⟨lo, hi⟩ := h.near d hd
    exact List.mem_map.2 ⟨ahead d r.nextDue, List.mem_range'_1.2 ⟨lo, by omega⟩, add_ahead d r.nextDue⟩
  simpa using (h.nodup.subperm within).length_le

/-- Next due moves on past sequences that no live job names. -/
theorem moved (h : r.Fits named) (free : r.nextDue ∉ named) {k : Nat} (le : k ≤ r.delivered.length)
    (run : ∀ i, i < k → r.nextDue + 1 + BitVec.ofNat 16 i ∈ r.delivered)
    (stop : r.nextDue + 1 + BitVec.ofNat 16 k ∉ r.delivered) :
    Fits { r with
      nextDue := r.nextDue + 1 + BitVec.ofNat 16 k
      delivered := r.delivered.filter fun e => k ≤ ahead e (r.nextDue + 1) } named := by
  have short := h.delivered_length
  have falls {e : Word16} (he : k + 1 ≤ ahead e r.nextDue) :
      ahead e (r.nextDue + 1 + BitVec.ofNat 16 k) = ahead e r.nextDue - (k + 1) := by
    unfold ahead at he ⊢
    bv_omega
  have beyond {e : Word16} (he : e ∈ named) : k + 1 ≤ ahead e r.nextDue := by
    by_contra less
    cases hi : ahead e r.nextDue with
    | zero => exact free (ahead_eq_zero.1 hi ▸ he)
    | succ i =>
      have passed := run i (by omega)
      rw [add_one_add_ofNat, ← hi, add_ahead] at passed
      exact h.undelivered e he passed
  refine ⟨h.distinct, h.opened, fun e he => ?_, fun e he hd => ?_, h.count, h.window, h.nodup.filter _, fun e he => ?_⟩
  · have := h.notPassed e he
    simp only [falls (beyond he)]
    omega
  · exact h.undelivered e he (List.mem_of_mem_filter hd)
  · obtain ⟨member, kept⟩ := List.mem_filter.1 he
    obtain ⟨lo, hi⟩ := h.near e member
    have ne : e ≠ r.nextDue := fun q => by
      rw [ahead_eq_zero.2 q] at lo
      omega
    have far : k + 1 ≤ ahead e r.nextDue := by
      have := of_decide_eq_true kept
      rw [ahead_succ ne]
      omega
    have other : ahead e r.nextDue ≠ k + 1 := fun q => stop (by rwa [add_one_add_ofNat, ← q, add_ahead])
    simp only [falls far]
    omega

/-- A sequence ahead joins the delivered set. -/
theorem deliverAhead (h : r.Fits named) (free : d ∉ named) (lo : 1 ≤ ahead d r.nextDue) (hi : ahead d r.nextDue ≤ 31)
    (fresh : d ∉ r.delivered) : Fits { r with delivered := insertAhead r.nextDue d r.delivered } named := by
  have joined := insertAhead_perm r.nextDue d r.delivered
  refine ⟨h.distinct, h.opened, h.notPassed, fun e he hd => ?_, h.count, h.window,
    joined.nodup_iff.2 (List.nodup_cons.2 ⟨fresh, h.nodup⟩), fun e he => ?_⟩
  · obtain rfl | old := List.mem_cons.1 (joined.mem_iff.1 hd)
    · exact free he
    · exact h.undelivered e he old
  · obtain rfl | old := List.mem_cons.1 (joined.mem_iff.1 he)
    · exact ⟨lo, hi⟩
    · exact h.near e old

/-- A delivery of a sequence that no live job names (R157). -/
theorem deliver (h : r.Fits named) (free : d ∉ named) : (r.deliver d).1.Fits named := by
  by_cases same : r.opened = true → d ≠ r.nextDue ∧ (32 ≤ ahead d r.nextDue ∨ d ∈ r.delivered)
  · rwa [Lane.deliver_else same]
  · obtain ⟨opened, moves⟩ := Classical.not_imp.1 same
    by_cases due : d = r.nextDue
    · subst due
      obtain ⟨-, k, le, run, stop, e⟩ := Lane.deliver_due opened (by have := h.delivered_length; omega) h.nodup
      rw [e]
      exact h.moved free le run stop
    · obtain ⟨near, fresh⟩ := not_or.1 fun k => moves ⟨due, k⟩
      have lo : 1 ≤ ahead d r.nextDue := Nat.one_le_iff_ne_zero.2 (mt ahead_eq_zero.1 due)
      rw [Lane.deliver_ahead opened lo (by omega) fresh]
      exact h.deliverAhead free lo (by omega) fresh

/-- A live job with a sequence of the lane leaves (R35). -/
theorem lower (h : r.Fits (before ++ d :: after)) : Fits { r with liveJobs := r.liveJobs - 1 } (before ++ after) := by
  have stays {e : Word16} (he : e ∈ before ++ after) : e ∈ before ++ d :: after := by
    simp only [List.mem_append, List.mem_cons] at he ⊢
    tauto
  exact ⟨(List.nodup_middle.1 h.distinct).of_cons, fun e he => h.opened e (stays he), fun e he => h.notPassed e (stays he),
    fun e he => h.undelivered e (stays he), by simp [h.count], h.window, h.nodup, h.near⟩

/-- A live job joins with a sequence of an OPEN lane that is not stale and that no other names (R24, R25). -/
theorem raise (h : r.Fits named) (opened : r.opened = true) (fresh : r.stale d = false) (free : d ∉ named) :
    Fits { r with liveJobs := r.liveJobs + 1 } (named ++ [d]) := by
  have notStale : ¬(32768 ≤ ahead d r.nextDue ∨ d ∈ r.delivered) :=
    mt (Lane.stale_iff r d).2 (by rw [fresh]; nofun)
  obtain ⟨notPassed, undelivered⟩ := not_or.1 notStale
  refine ⟨?_, fun _ _ => opened, fun e he => ?_, fun e he => ?_, by simp [h.count], h.window, h.nodup, h.near⟩
  · exact List.nodup_middle.2 (by simpa using ⟨free, h.distinct⟩)
  · obtain old | new := List.mem_append.1 he
    · exact h.notPassed e old
    · rw [List.mem_singleton.1 new]
      exact Nat.lt_of_not_le notPassed
  · obtain old | new := List.mem_append.1 he
    · exact h.undelivered e old
    · rwa [List.mem_singleton.1 new]

/-- No live job names a CLOSED lane. -/
theorem named_nil (h : r.Fits named) (closed : ¬r.opened = true) : named = [] :=
  List.eq_nil_iff_forall_not_mem.2 fun d hd => closed (h.opened d hd)

/-- A CLOSED lane is opened (R153). -/
theorem openLane (h : r.Fits named) (closed : ¬r.opened = true) (first : Word16) (window : Nat) :
    (State.openedLane first window r.liveJobs).Fits named := by
  obtain rfl := h.named_nil closed
  refine ⟨.nil, nofun, nofun, nofun, h.count, ?_, .nil, nofun⟩
  simp only [State.openedLane, clamp]
  omega

/-- A lane without live jobs is closed (R154). -/
theorem closeLane (h : r.Fits named) (idle : ¬0 < r.liveJobs) : Fits { r with opened := false } named := by
  obtain rfl := List.eq_nil_of_length_eq_zero (h.count.symm.trans (Nat.eq_zero_of_not_pos idle))
  exact { h with opened := nofun }

end Lane.Fits

theorem Lane.fits_powerOn : Lane.powerOn.Fits [] := ⟨.nil, nofun, nofun, nofun, rfl, by decide, .nil, nofun⟩

/-! ### The sequences that live jobs name -/

/-- The sequence of a lane reference, when it is of lane `l`. -/
def sequenceOn (l : LaneNo) (n : LaneNo × Word16) : Option Word16 := if n.1 = l then some n.2 else none

/-- The sequences of lane `l` among lane references. -/
def sequencesOn (l : LaneNo) (ns : List (LaneNo × Word16)) : List Word16 := ns.filterMap (sequenceOn l)

theorem mem_sequencesOn {l : LaneNo} {ns : List (LaneNo × Word16)} {d : Word16} : d ∈ sequencesOn l ns ↔ (l, d) ∈ ns := by
  simp [sequencesOn, sequenceOn]

theorem sequencesOn_append (l : LaneNo) (ms ns : List (LaneNo × Word16)) :
    sequencesOn l (ms ++ ns) = sequencesOn l ms ++ sequencesOn l ns := List.filterMap_append

theorem sequencesOn_cons_self (l : LaneNo) (d : Word16) (ns : List (LaneNo × Word16)) :
    sequencesOn l ((l, d) :: ns) = d :: sequencesOn l ns := List.filterMap_cons_some (if_pos rfl)

theorem sequencesOn_cons_other {l m : LaneNo} (h : m ≠ l) (d : Word16) (ns : List (LaneNo × Word16)) :
    sequencesOn l ((m, d) :: ns) = sequencesOn l ns := List.filterMap_cons_none (if_neg h)

/-- Lane references are distinct when the sequences of each lane are. -/
theorem nodup_iff_sequencesOn (ns : List (LaneNo × Word16)) : ns.Nodup ↔ ∀ l, (sequencesOn l ns).Nodup := by
  refine ⟨fun h l => h.filterMap ?_, fun h => ?_⟩
  · rintro ⟨m, d⟩ ⟨m', d'⟩ e he he'
    simp only [sequenceOn, Option.mem_def, Option.ite_none_right_eq_some, Option.some.injEq] at he he'
    obtain ⟨rfl, rfl⟩ := he
    obtain ⟨rfl, rfl⟩ := he'
    rfl
  · induction ns with
    | nil => exact .nil
    | cons n rest ih =>
      obtain ⟨l, d⟩ := n
      have here := h l
      rw [sequencesOn_cons_self] at here
      refine List.nodup_cons.2 ⟨fun member => here.notMem (mem_sequencesOn.2 member), ih fun m => ?_⟩
      have there := h m
      by_cases e : l = m
      · subst e
        exact here.of_cons
      · rwa [sequencesOn_cons_other e] at there

namespace State

/-- The lane references of the live jobs. -/
def laneNames (s : State) : List (LaneNo × Word16) := s.pool.jobs.filterMap Job.lane?

theorem mem_laneNames {s : State} {n : LaneNo × Word16} : n ∈ s.laneNames ↔ ∃ j ∈ s.pool.jobs, j.lane? = some n :=
  List.mem_filterMap

/-- The live jobs of a lane are as many as its sequences. -/
theorem countP_lane (js : List Job) (l : LaneNo) :
    js.countP (fun j => j.lane?.any (fun n => n.1 == l)) = (sequencesOn l (js.filterMap Job.lane?)).length := by
  induction js with
  | nil => rfl
  | cons j rest ih =>
    cases hj : j.lane? with
    | none => rw [List.countP_cons_of_neg (by simp [hj]), List.filterMap_cons_none hj, ih]
    | some n =>
      obtain ⟨m, d⟩ := n
      rw [List.filterMap_cons_some hj]
      by_cases e : m = l
      · subst e
        rw [List.countP_cons_of_pos (by simp [hj]), sequencesOn_cons_self, List.length_cons, ih]
      · rw [List.countP_cons_of_neg (by simp [hj, e]), sequencesOn_cons_other e, ih]

/-- The law of the lanes, lane by lane. -/
theorem lanesInLaw_iff (s : State) : s.lanesInLaw ↔ ∀ l, (s.laneOf l).Fits (sequencesOn l s.laneNames) := by
  have named {l : LaneNo} {d : Word16} : d ∈ sequencesOn l s.laneNames ↔ ∃ j ∈ s.pool.jobs, j.lane? = some (l, d) :=
    mem_sequencesOn.trans mem_laneNames
  constructor
  · rintro ⟨distinct, live, lanes⟩ l
    obtain ⟨count, lo, hi, nodup, near⟩ := lanes l
    have each (d : Word16) (hd : d ∈ sequencesOn l s.laneNames) : (s.laneOf l).opened = true
        ∧ ahead d (s.laneOf l).nextDue < 32768 ∧ d ∉ (s.laneOf l).delivered := by
      obtain ⟨j, hj, e⟩ := named.1 hd
      exact live j hj l d e
    exact ⟨(nodup_iff_sequencesOn _).1 distinct l, fun d hd => (each d hd).1, fun d hd => (each d hd).2.1,
      fun d hd => (each d hd).2.2, count.trans (countP_lane ..), ⟨lo, hi⟩, nodup, near⟩
  · intro h
    refine ⟨(nodup_iff_sequencesOn _).2 fun l => (h l).distinct, fun j hj l d e => ?_, fun l => ?_⟩
    · have member := named.2 ⟨j, hj, e⟩
      exact ⟨(h l).opened d member, (h l).notPassed d member, (h l).undelivered d member⟩
    · exact ⟨(h l).count.trans (countP_lane ..).symm, (h l).window.1, (h l).window.2, (h l).nodup, (h l).near⟩

end State

end Sys2Proof.Machine

namespace Sys2Proof.Machine

/-! ## What keeps the law of the lanes (R35, R151, R155, R157)

A removal takes the first job of a tag and lowers the count of its lane by one; a delivery keeps the law when no live job
names its sequence. Everything else within an event leaves the lanes and the lane references as they are. -/

namespace Job

variable (j : Job)

@[simp] theorem lane?_setChosen (c : Option Slot) : (j.setChosen c).lane? = j.lane? := by
  obtain ⟨_, _, _, _, _, _, _, _ | _⟩ := j <;> rfl

@[simp] theorem lane?_setStalled (b : Bool) : (j.setStalled b).lane? = j.lane? := by
  obtain ⟨_, _, _, _, _, _, _, _ | _⟩ := j <;> rfl

@[simp] theorem lane?_setCandidates (c : List Slot) : (j.setCandidates c).lane? = j.lane? := by
  obtain ⟨_, _, _, _, _, _, _, _ | _⟩ := j <;> rfl

@[simp] theorem lane?_clearBlocker (pallet : Word32) : (j.clearBlocker pallet).lane? = j.lane? := by
  obtain ⟨_, _, _, _, _, _, _, _ | _⟩ := j
  · rfl
  · unfold clearBlocker
    dsimp only
    split <;> rfl

@[simp] theorem lane?_withState (n : Nat) (st : JobState) : ({ j with declines := n, state := st } : Job).lane? = j.lane? := rfl

end Job

namespace State

/-- Jobs changed in other things than their lane references. -/
theorem laneNames_modJobOf (s : State) (tag : Word32) {f : Job → Job} (hf : ∀ j, (f j).lane? = j.lane?) :
    (s.modJobOf tag f).laneNames = s.laneNames := by
  rw [laneNames, modJobOf, setJobs, modJob, List.filterMap_map]
  refine List.filterMap_congr fun j _ => ?_
  rw [Function.comp_apply]
  split
  · exact hf j
  · rfl

@[simp] theorem watch_lanes (s : State) (old new : Nat) : (s.watch old new).lanes = s.lanes := by
  unfold watch
  split
  · split <;> rfl
  · rfl

/-- The removal of the job that a tag finds: its lane reference leaves, and the count of its lane falls (R35). -/
theorem removeJob_lanes {s : State} {tag : Word32} {j : Job} (hf : s.pool.find tag = some j) (clears : Bool) :
    (s.removeJob tag clears).lanes = (s.lowerLane j.lane?).lanes
      ∧ ∃ before after, s.laneNames = before ++ (j.lane?.toList ++ after)
        ∧ (s.removeJob tag clears).laneNames = before ++ after := by
  obtain ⟨found, before, after, split, first⟩ := List.find?_eq_some_iff_append.1 hf
  have removed : s.removeJob tag clears
      = (((s.setJobs (if clears && j.isRetrieve then (before ++ after).map (Job.clearBlocker j.pallet)
          else before ++ after)).setTable (dropOwner s.table tag)).lowerLane j.lane?).watch s.pool.jobs.length
        (s.pool.jobs.length - 1) := by
    have rest : s.pool.jobs.eraseP (fun k => k.tag == tag) = before ++ after := by
      rw [split, List.eraseP_append_right _ (by simpa using first),
        List.eraseP_cons_of_pos (p := fun k : Job => k.tag == tag) found]
    simp only [removeJob, hf, rest]
  refine ⟨?_, before.filterMap Job.lane?, after.filterMap Job.lane?, ?_, ?_⟩
  · rw [removed, watch_lanes]
    cases j.lane? <;> rfl
  · rw [laneNames, split, List.filterMap_append]
    cases e : j.lane? with
    | none => rw [List.filterMap_cons_none e]; rfl
    | some n => rw [List.filterMap_cons_some e]; rfl
  · rw [removed, laneNames, watch_pool, lowerLane_pool, setTable_pool, setJobs, ← List.filterMap_append]
    dsimp only
    split
    · rw [List.filterMap_map]
      exact List.filterMap_congr fun k _ => k.lane?_clearBlocker j.pallet
    · rfl

namespace lanesInLaw

variable {s t : State}

/-- The law reads the lanes and the lane references of the live jobs alone. -/
theorem kept (h : s.lanesInLaw) (lanes : t.lanes = s.lanes := by rfl) (names : t.laneNames = s.laneNames := by rfl) :
    t.lanesInLaw := by
  rw [lanesInLaw_iff] at h ⊢
  intro l
  rw [laneOf, lanes, names]
  exact h l

theorem stored (h : s.lanesInLaw) (k : StoreKept True s t) : t.lanesInLaw :=
  h.kept k.lanes (by rw [laneNames, (k.jobs trivial).1, laneNames])

theorem ite {c : Prop} [Decidable c] (hs : s.lanesInLaw) (ht : t.lanesInLaw) : (if c then s else t).lanesInLaw := by
  split
  · exact hs
  · exact ht

/-- One lane replaced by one that fits the sequences named on it. -/
theorem setLane (h : s.lanesInLaw) {l : LaneNo} {r : Lane} (hr : r.Fits (sequencesOn l s.laneNames)) :
    (s.setLane l r).lanesInLaw := by
  rw [lanesInLaw_iff] at h ⊢
  intro m
  rw [laneOf_setLane]
  split
  · rename_i e
    exact e ▸ hr
  · exact h m

theorem fits (h : s.lanesInLaw) (l : LaneNo) : (s.laneOf l).Fits (sequencesOn l s.laneNames) := (lanesInLaw_iff s).1 h l

/-! ### The single updates -/

theorem setCrane (h : s.lanesInLaw) {x : Crane} {c : CraneCtx} : (s.setCrane x c).lanesInLaw := h.kept
theorem modCrane (h : s.lanesInLaw) {x : Crane} {f : CraneCtx → CraneCtx} : (s.modCrane x f).lanesInLaw := h.setCrane
theorem modOrder (h : s.lanesInLaw) {x : Crane} {f : Order → Order} : (s.modOrder x f).lanesInLaw := h.modCrane
theorem setCraneState (h : s.lanesInLaw) {x : Crane} {st : CraneState} : (s.setCraneState x st).lanesInLaw := h.modCrane
theorem anomaly (h : s.lanesInLaw) {x : Crane} : (s.anomaly x).lanesInLaw := h.modCrane
theorem setSpan (h : s.lanesInLaw) {x : Crane} {sp : Span} : (s.setSpan x sp).lanesInLaw := h.kept
theorem setPair (h : s.lanesInLaw) {a : Aisle} {p : Option YieldPair} : (s.setPair a p).lanesInLaw := h.kept
theorem setTable (h : s.lanesInLaw) {u : List Entry} : (s.setTable u).lanesInLaw := h.kept
theorem setTrimOf (h : s.lanesInLaw) {x : Crane} {r : Trim} : (s.setTrimOf x r).lanesInLaw := h.kept
theorem setSilence (h : s.lanesInLaw) {x : Crane} {n : Nat} : (s.setSilence x n).lanesInLaw := h.kept
theorem setSup (h : s.lanesInLaw) {u : Supervision} : State.lanesInLaw { s with sup := u } := h.kept
theorem setEngine (h : s.lanesInLaw) {e : Engine} : (s.setEngine e).lanesInLaw := h.kept
theorem setPass (h : s.lanesInLaw) {p : Option Pass} : (s.setPass p).lanesInLaw := h.kept
theorem emit (h : s.lanesInLaw) {x : Crane} {f : List Byte} : (s.emit x f).lanesInLaw := h.kept
theorem raise (h : s.lanesInLaw) {e : Event} : (s.raise e).lanesInLaw := h.kept
theorem pushReply (h : s.lanesInLaw) {r : Reply} : (s.pushReply r).lanesInLaw := h.kept
theorem craneStateEvent (h : s.lanesInLaw) {x : Crane} {c : StateCause} : (s.craneStateEvent x c).lanesInLaw :=
  raise h.modCrane

theorem modJobOf (h : s.lanesInLaw) {tag : Word32} {f : Job → Job} (hf : ∀ j, (f j).lane? = j.lane? := by simp) :
    (s.modJobOf tag f).lanesInLaw := h.kept rfl (s.laneNames_modJobOf tag hf)

/-! ### The engine and the spans -/

theorem engineRun (h : s.lanesInLaw) : s.engineRun.lanesInLaw := h.stored (StoreKept.refl s).engineRun
theorem trigger (h : s.lanesInLaw) {x : Crane} : (s.trigger x).lanesInLaw := h.stored (StoreKept.refl s).trigger
theorem changeSpan (h : s.lanesInLaw) {x : Crane} {sp : Span} : (s.changeSpan x sp).lanesInLaw :=
  h.stored (StoreKept.refl s).changeSpan
theorem reportPosition (h : s.lanesInLaw) {x : Crane} {b l : Nat} : (s.reportPosition x b l).lanesInLaw :=
  h.stored (StoreKept.refl s).reportPosition
theorem spanToPosition (h : s.lanesInLaw) {x : Crane} : (s.spanToPosition x).lanesInLaw :=
  h.stored (StoreKept.refl s).spanToPosition
theorem narrowSpan (h : s.lanesInLaw) {x : Crane} : (s.narrowSpan x).lanesInLaw := h.stored (StoreKept.refl s).narrowSpan
theorem sendOrder (h : s.lanesInLaw) {x : Crane} : (s.sendOrder x).lanesInLaw := h.stored (StoreKept.refl s).sendOrder
theorem placeOrder (h : s.lanesInLaw) {x : Crane} {o : Order} : (s.placeOrder x o).lanesInLaw :=
  h.stored (StoreKept.refl s).placeOrder
theorem claimSpan (h : s.lanesInLaw) {x : Crane} {p : Option Position} {ps : List Place} :
    (s.claimSpan x p ps).lanesInLaw := h.stored (StoreKept.refl s).claimSpan

theorem idleTriggers (h : s.lanesInLaw) {x : Crane} : (s.idleTriggers x).lanesInLaw := trigger h.trigger

theorem triggerAll (h : s.lanesInLaw) (xs : List Crane) : (s.triggerAll xs).lanesInLaw :=
  RailInvariant.foldl (P := State.lanesInLaw) h fun _ _ k => k.trigger

theorem triggerAisle (h : s.lanesInLaw) {a : Aisle} : (s.triggerAisle a).lanesInLaw := trigger h.trigger

theorem afterRelease (h : s.lanesInLaw) {xs : List Crane} : (s.afterRelease xs).lanesInLaw := h.engineRun.triggerAll xs

theorem setIdle (h : s.lanesInLaw) {x : Crane} : (s.setIdle x).lanesInLaw :=
  ite (craneStateEvent h.setCraneState) h.setCraneState

theorem leaveEngine (h : s.lanesInLaw) {x : Crane} : (s.leaveEngine x).lanesInLaw := ite (engineRun h.setPass) h.setEngine

/-! ### Jobs and their lanes -/

/-- A removal takes one job, and lowers one count (R35). -/
theorem removeJob (h : s.lanesInLaw) {tag : Word32} {clears : Bool} : (s.removeJob tag clears).lanesInLaw := by
  cases hf : s.pool.find tag with
  | none =>
    have same : s.removeJob tag clears = s := by simp only [State.removeJob, hf]
    rwa [same]
  | some j =>
    obtain ⟨lanes, before, after, names, left⟩ := removeJob_lanes hf clears
    cases hj : j.lane? with
    | none => exact h.kept (by rw [lanes, hj]; rfl) (by rw [left, names, hj]; rfl)
    | some n =>
      obtain ⟨l, d⟩ := n
      rw [hj] at names lanes
      rw [lanesInLaw_iff]
      intro m
      have fits := h.fits m
      have lane : (s.removeJob tag clears).laneOf m = (s.lowerLane (some (l, d))).laneOf m := congrArg (·.get m) lanes
      rw [lane, left, sequencesOn_append, lowerLane, laneOf_setLane]
      rw [names, sequencesOn_append, Option.toList_some, List.singleton_append] at fits
      split
      · rename_i e
        subst e
        rw [sequencesOn_cons_self] at fits
        exact fits.lower
      · rename_i e
        rwa [sequencesOn_cons_other e] at fits

/-- The job that left was the only one to name its sequence. -/
theorem free_of_removeJob (h : s.lanesInLaw) {tag : Word32} {j : Job} (hf : s.pool.find tag = some j)
    {n : LaneNo × Word16} (hn : j.lane? = some n) (clears : Bool) : n ∉ (s.removeJob tag clears).laneNames := by
  obtain ⟨-, before, after, names, left⟩ := removeJob_lanes hf clears
  have distinct : s.laneNames.Nodup := h.1
  rw [names, hn, Option.toList_some, List.singleton_append] at distinct
  rw [left]
  exact (List.nodup_middle.1 distinct).notMem

theorem deliverOnly (h : s.lanesInLaw) {l : LaneNo} {d : Word16} (free : (l, d) ∉ s.laneNames) :
    (s.deliverOnly l d).lanesInLaw := by
  have delivered := h.setLane ((h.fits l).deliver (mt mem_sequencesOn.1 free))
  exact ite delivered.raise delivered

/-- A delivery of a sequence that no live job names, with the triggers of an advance (R157, R161). -/
theorem deliver (h : s.lanesInLaw) {l : LaneNo} {d : Word16} (free : (l, d) ∉ s.laneNames) : (s.deliver l d).lanesInLaw :=
  ite ((h.deliverOnly free).triggerAll _) (h.deliverOnly free)

theorem returnJob (h : s.lanesInLaw) {tag : Word32} : (s.returnJob tag).lanesInLaw := h.modJobOf

theorem activateJob (h : s.lanesInLaw) {tag : Word32} : (s.activateJob tag).lanesInLaw := h.modJobOf

theorem strandJob (h : s.lanesInLaw) {tag : Word32} {x : Crane} : (s.strandJob tag x).lanesInLaw := h.removeJob.raise

theorem completeStore (h : s.lanesInLaw) {tag : Word32} : (s.completeStore tag).lanesInLaw := by
  unfold State.completeStore
  split
  · exact h.removeJob.raise
  · exact h.removeJob

/-- A retrieve that completes has left before its sequence is delivered (R139). -/
theorem completeRetrieve (h : s.lanesInLaw) {tag : Word32} : (s.completeRetrieve tag).lanesInLaw := by
  unfold State.completeRetrieve
  split
  · exact h
  · rename_i j hf
    have removed : (s.removeJob tag true).lanesInLaw := h.removeJob
    have free {n : LaneNo × Word16} (hn : j.lane? = some n) := h.free_of_removeJob hf hn true
    dsimp only
    split <;> split
    · exact removed.raise.deliver (free (by assumption))
    · exact removed.deliver (free (by assumption))
    · exact removed.raise
    · exact removed

theorem declineJob (h : s.lanesInLaw) {tag : Word32} {reason : Byte} : (s.declineJob tag reason).lanesInLaw := by
  unfold State.declineJob
  split
  · exact h
  · exact ite h.modJobOf h.removeJob.raise

theorem relocationDone (h : s.lanesInLaw) {tag : Word32} {r : Relocation} : (s.relocationDone tag r).lanesInLaw :=
  h.setTable.raise

theorem relocationUndone (h : s.lanesInLaw) {tag : Word32} : (s.relocationUndone tag).lanesInLaw := h.setTable

theorem revertEntries (h : s.lanesInLaw) {o : Order} : (s.revertEntries o).lanesInLaw := h.setTable

theorem returnJobs (h : s.lanesInLaw) {o : Order} : (s.returnJobs o).lanesInLaw :=
  RailInvariant.foldl (P := State.lanesInLaw) h fun _ _ k => k.returnJob

theorem activateJobs (h : s.lanesInLaw) {o : Order} : (s.activateJobs o).lanesInLaw :=
  RailInvariant.foldl (P := State.lanesInLaw) h fun _ _ k => k.activateJob

theorem declineJobs (h : s.lanesInLaw) {o : Order} {reason : Byte} : (s.declineJobs o reason).lanesInLaw := by
  unfold State.declineJobs
  split
  · exact RailInvariant.foldl (P := State.lanesInLaw) h.revertEntries fun _ _ k => k.declineJob
  · exact h

theorem endStore (h : s.lanesInLaw) {o : Order} : (s.endStore o).lanesInLaw := by
  unfold State.endStore
  split
  · exact h.completeStore
  · exact h

theorem endRetrieve (h : s.lanesInLaw) {o : Order} : (s.endRetrieve o).lanesInLaw := by
  unfold State.endRetrieve
  split
  · exact h
  · split
    · exact h.relocationDone.completeRetrieve
    · exact h.completeRetrieve

theorem abandonStore (h : s.lanesInLaw) {o : Order} {x : Crane} : (s.abandonStore o x).lanesInLaw := by
  unfold State.abandonStore
  split
  · exact h
  · exact ite h.returnJob.setTable (ite h.strandJob h.completeStore)

theorem abandonRetrieve (h : s.lanesInLaw) {o : Order} {x : Crane} : (s.abandonRetrieve o x).lanesInLaw := by
  unfold State.abandonRetrieve
  dsimp only
  split
  · exact h
  · exact ite h.returnJob (ite h.strandJob h.completeRetrieve)
  · exact ite h.relocationUndone.returnJob (ite h.relocationUndone.strandJob (ite h.relocationDone.returnJob
      (ite h.relocationDone.strandJob h.relocationDone.completeRetrieve)))

end lanesInLaw
end State

end Sys2Proof.Machine

namespace Sys2Proof.Machine

/-! ## The law of the lanes under the records of cranes, the passes and the clocks -/

namespace State.lanesInLaw

variable {s : State}

/-! ### The life of an order -/

theorem dropOrder (h : s.lanesInLaw) {x : Crane} : (s.dropOrder x).lanesInLaw := h.modCrane

theorem capture (h : s.lanesInLaw) {x : Crane} : (s.capture x).lanesInLaw := h.modOrder

theorem markLegs (h : s.lanesInLaw) {x : Crane} {k : Nat} : (s.markLegs x k).lanesInLaw := h.modCrane

theorem suspendOrder (h : s.lanesInLaw) {x : Crane} : (s.suspendOrder x).lanesInLaw := h.modOrder

theorem loseSight (h : s.lanesInLaw) {x : Crane} : (s.loseSight x).lanesInLaw := setSpan h.modCrane

theorem enterFaulted (h : s.lanesInLaw) {x : Crane} {c : StateCause} : (s.enterFaulted x c).lanesInLaw :=
  craneStateEvent h.setCraneState

theorem measureLeg (h : s.lanesInLaw) {x : Crane} : (s.measureLeg x).lanesInLaw := by
  have accumulate {t : State} (k : t.lanesInLaw) {m n : Nat} : (t.accumulate x m n).lanesInLaw :=
    ite k.setTrimOf.raise k.setTrimOf
  unfold State.measureLeg
  split
  · exact h
  · split
    · exact ite (accumulate h.markLegs.modOrder.capture) h.markLegs.modOrder.capture
    · exact h.markLegs.capture
    · exact h

theorem takeKindState (h : s.lanesInLaw) {x : Crane} : (s.takeKindState x).lanesInLaw := by
  unfold State.takeKindState
  split
  · exact h
  · exact ite (craneStateEvent h.setCraneState) h.setCraneState

theorem startOrder (h : s.lanesInLaw) {x : Crane} {proved : Bool} : (s.startOrder x proved).lanesInLaw := by
  unfold State.startOrder
  split
  · exact h
  · rename_i o _
    have started {f : Order → Order} : ((((s.activateJobs o).modCrane x fun c => { c with timeouts := 0 }).modOrder x f).capture
        x).lanesInLaw := capture (modOrder (modCrane h.activateJobs))
    exact ite started started.takeKindState

theorem startIfSent (h : s.lanesInLaw) {x : Crane} : (s.startIfSent x).lanesInLaw := by
  unfold State.startIfSent
  split
  · exact ite h.startOrder h
  · exact h

theorem discardWaiting (h : s.lanesInLaw) {x : Crane} : (s.discardWaiting x).lanesInLaw := by
  unfold State.discardWaiting
  split
  · exact h
  · exact spanToPosition (dropOrder (modOrder (setPair h.returnJobs.revertEntries)))

theorem releaseWaiting (h : s.lanesInLaw) {w : Option Crane} : (s.releaseWaiting w).lanesInLaw := by
  cases w
  · exact h
  · exact h.discardWaiting.setIdle

theorem releasedTriggers (h : s.lanesInLaw) {w : Option Crane} : (s.releasedTriggers w).lanesInLaw := by
  cases w
  · exact h
  · exact h.idleTriggers

theorem failYield (h : s.lanesInLaw) {y : Crane} : (s.failYield y).lanesInLaw := releasedTriggers h.releaseWaiting

theorem idleAfter (h : s.lanesInLaw) {w : Option Crane} {y : Crane} : (s.idleAfter w y).lanesInLaw :=
  idleTriggers h.setIdle.releasedTriggers

theorem giveUp (h : s.lanesInLaw) {x : Crane} : (s.giveUp x).lanesInLaw := by
  unfold State.giveUp
  split
  · exact h
  · dsimp only
    split
    · exact h.abandonStore.abandonRetrieve.dropOrder.spanToPosition
    · exact h.dropOrder.spanToPosition

theorem orderLostIdle (h : s.lanesInLaw) {x : Crane} : (s.orderLostIdle x).lanesInLaw :=
  idleTriggers (releasedTriggers (craneStateEvent h.releaseWaiting.giveUp.setCraneState))

theorem orderLostSyncing (h : s.lanesInLaw) {x : Crane} : (s.orderLostSyncing x).lanesInLaw :=
  releasedTriggers (craneStateEvent h.releaseWaiting.giveUp.loseSight.setCraneState)

theorem endDone (h : s.lanesInLaw) {x : Crane} {w : Option Crane} : (s.endDone x w).lanesInLaw :=
  h.dropOrder.spanToPosition.idleAfter

theorem endYield (h : s.lanesInLaw) {y : Crane} : (s.endYield y).lanesInLaw := by
  have left : ((s.dropOrder y).spanToPosition y).lanesInLaw := h.dropOrder.spanToPosition
  unfold State.endYield
  split
  · exact h.endDone
  · exact ite left.setIdle.setPair.sendOrder.idleTriggers left.releaseWaiting.idleAfter

theorem endDeclined (h : s.lanesInLaw) {x : Crane} {w : Option Crane} : (s.endDeclined x w).lanesInLaw :=
  have left := spanToPosition (dropOrder (modCrane h))
  ite left.releasedTriggers left.idleAfter

theorem endRevoked (h : s.lanesInLaw) {x : Crane} : (s.endRevoked x).lanesInLaw :=
  have left := h.dropOrder.spanToPosition
  ite (ite left.modCrane left.modCrane.setIdle.idleTriggers) (ite left.modCrane (enterFaulted left.modCrane))

theorem clearFault (h : s.lanesInLaw) {x : Crane} {c : StateCause} : (s.clearFault x c).lanesInLaw := by
  unfold State.clearFault
  split
  · exact craneStateEvent (setCraneState h.modOrder)
  · exact ite (craneStateEvent h.setCraneState) (idleTriggers (craneStateEvent (setCraneState h.spanToPosition)))

theorem expireAccept (h : s.lanesInLaw) {x : Crane} : (s.expireAccept x).lanesInLaw := by
  unfold State.expireAccept
  split
  · exact h
  · split
    · exact failYield (emit h.modOrder)
    · exact emit h.modOrder
    · exact h

theorem loseCrane (h : s.lanesInLaw) {x : Crane} : (s.loseCrane x).lanesInLaw := by
  have lost {t : State} (k : t.lanesInLaw) : ((t.setCraneState x .lost).craneStateEvent x .silence).lanesInLaw :=
    craneStateEvent k.setCraneState
  unfold State.loseCrane
  dsimp only
  split
  case h_1 | h_2 => exact h
  case h_3 | h_4 => exact lost h
  case h_5 => exact (lost h).leaveEngine
  case h_6 => exact lost h.discardWaiting
  all_goals
    split
    · exact lost h
    · exact ite (lost h.suspendOrder).failYield (lost h).failYield

/-! ### Crane records -/

theorem hearCrane (h : s.lanesInLaw) {x : Crane} {record : State → State}
    (hr : ∀ t : State, t.lanesInLaw → (record t).lanesInLaw) : (s.hearCrane x record).lanesInLaw := by
  unfold State.hearCrane
  split
  · exact hr _ h.setSilence
  · exact h

theorem unsettled (h : s.lanesInLaw) {x : Crane} : (s.unsettled x).lanesInLaw := by
  refine emit ?_
  split
  · exact craneStateEvent h.anomaly.setCraneState
  · exact h.anomaly.enterFaulted

theorem notTaken (h : s.lanesInLaw) {x : Crane} : (s.notTaken x).lanesInLaw := ite h.unsettled h.anomaly

theorem takeAccept (h : s.lanesInLaw) {x : Crane} {id : Word16} : (s.takeAccept x id).lanesInLaw := by
  unfold State.takeAccept
  split
  · exact h.notTaken
  · split
    · exact h.startOrder
    · exact ite h.unsettled h.modOrder
    all_goals exact h.notTaken

theorem takeDecline (h : s.lanesInLaw) {x : Crane} {id : Word16} {reason : Byte} : (s.takeDecline x id reason).lanesInLaw := by
  have declined (o : Order) : (s.declineOrder x o reason).lanesInLaw := h.releaseWaiting.declineJobs.endDeclined
  refine ite h.notTaken ?_
  split
  · exact h.notTaken
  · split
    case h_1 | h_2 => exact declined _
    all_goals exact h.notTaken

theorem revokeOrder (h : s.lanesInLaw) {x : Crane} {o : Order} : (s.revokeOrder x o).lanesInLaw :=
  endRevoked (ite h.anomaly h).returnJobs.revertEntries

theorem takeRevoked (h : s.lanesInLaw) {x : Crane} {id : Word16} {started : Bool} : (s.takeRevoked x id started).lanesInLaw := by
  unfold State.takeRevoked
  split
  · exact h.notTaken
  · split
    · exact ite h.startOrder h.revokeOrder
    all_goals exact h.notTaken

theorem resumeLost (h : s.lanesInLaw) {x : Crane} : (s.resumeLost x).lanesInLaw := by
  unfold State.resumeLost
  split
  · exact h
  · exact ite (takeKindState h.modOrder) h.startIfSent

theorem markLegDone (h : s.lanesInLaw) {x : Crane} {o : Order} {i : Nat} {bay level : Byte} :
    (s.markLegDone x o i bay level).lanesInLaw :=
  ite h.anomaly (narrowSpan (ite h.reportPosition.measureLeg h.reportPosition.markLegs.capture))

theorem takeLegDone (h : s.lanesInLaw) {x : Crane} {id : Word16} {i : Nat} {bay level : Byte} :
    (s.takeLegDone x id i bay level).lanesInLaw := by
  unfold State.takeLegDone
  split
  · exact ite h.reportPosition.unsettled h.anomaly
  · refine ite h.resumeLost.markLegDone ?_
    split
    · exact h.markLegDone
    · exact h.startOrder.markLegDone
    · exact h.startOrder.markLegDone
    all_goals exact h.anomaly

theorem finishOrder (h : s.lanesInLaw) {x : Crane} {o : Order} {bay level : Byte} : (s.finishOrder x o bay level).lanesInLaw := by
  have marked := h.reportPosition (x := x) (b := bay.toNat) (l := level.toNat) |>.markLegs (x := x) (k := o.legs.length)
  unfold State.finishOrder
  dsimp only
  split
  · exact marked.endStore.endRetrieve.endDone
  · exact marked.endYield
  · exact marked.endDone

theorem takeOrderDone (h : s.lanesInLaw) {x : Crane} {id : Word16} {bay level : Byte} :
    (s.takeOrderDone x id bay level).lanesInLaw := by
  unfold State.takeOrderDone
  split
  · exact ite h.reportPosition.unsettled h.anomaly
  · refine ite h.resumeLost.finishOrder ?_
    split
    · exact h.finishOrder
    · exact h.startOrder.finishOrder
    · exact h.startOrder.finishOrder
    all_goals exact h.anomaly

theorem faultWaiting (h : s.lanesInLaw) {x : Crane} {bay level : Byte} : (s.faultWaiting x bay level).lanesInLaw :=
  craneStateEvent (reportPosition h.discardWaiting.setCraneState)

theorem applyFault (h : s.lanesInLaw) {x : Crane} {n : Nat} : (s.applyFault x n).lanesInLaw := by
  unfold State.applyFault
  split
  case h_1 | h_2 | h_3 => exact h
  case h_4 | h_5 => exact h.enterFaulted
  case h_6 => exact h.spanToPosition.enterFaulted
  case h_7 => exact h.enterFaulted.leaveEngine
  all_goals
    split
    · exact h.enterFaulted
    · exact ite h.startIfSent.markLegs.suspendOrder.enterFaulted.failYield h.enterFaulted.failYield

theorem countAnomaly (h : s.lanesInLaw) {x : Crane} {id : Word16} {n : Nat} : (s.countAnomaly x id n).lanesInLaw := by
  unfold State.countAnomaly
  split
  · exact ite h h.anomaly
  · exact h

theorem nameAnomaly (h : s.lanesInLaw) {x : Crane} {id : Word16} : (s.nameAnomaly x id).lanesInLaw := ite h h.anomaly

theorem statusAnomalies (h : s.lanesInLaw) {x : Crane} {mode : StatusMode} {id : Word16} {n : Nat} :
    (s.statusAnomalies x mode id n).lanesInLaw := by
  cases mode
  · exact h.countAnomaly.nameAnomaly
  · exact h.countAnomaly
  · exact h.countAnomaly.nameAnomaly

theorem takeFault (h : s.lanesInLaw) {x : Crane} {code bay level : Byte} {id : Word16} {n : Nat} :
    (s.takeFault x code bay level id n).lanesInLaw :=
  have coded := modCrane h.countAnomaly.nameAnomaly
  ite h.notTaken (ite (faultWaiting coded) (applyFault coded.reportPosition))

theorem takeAboard (h : s.lanesInLaw) {x : Crane} {aboard : Bool} : (s.takeAboard x aboard).lanesInLaw := h.modCrane

theorem settleIdle (h : s.lanesInLaw) {x : Crane} : (s.settleIdle x).lanesInLaw :=
  ite (ite (craneStateEvent h.setCraneState) h) h.spanToPosition.setIdle.idleTriggers

theorem loadAboard (h : s.lanesInLaw) {x : Crane} : (s.loadAboard x).lanesInLaw := by
  unfold State.loadAboard
  split
  · exact h.enterFaulted.leaveEngine
  · exact h.spanToPosition.enterFaulted
  · exact h.enterFaulted

theorem markCount (h : s.lanesInLaw) {x : Crane} {n : Nat} : (s.markCount x n).lanesInLaw := by
  unfold State.markCount
  split
  · exact h
  · exact ite h.markLegs h

theorem busyUnknown (h : s.lanesInLaw) {x : Crane} : (s.busyUnknown x).lanesInLaw := by
  unfold State.busyUnknown
  split
  · exact craneStateEvent h.loseSight.setCraneState
  · exact h.loseSight.setCraneState.leaveEngine
  · exact h.loseSight.setCraneState

theorem statusSyncing (h : s.lanesInLaw) {x : Crane} {mode : StatusMode} {aboard : Bool} :
    (s.statusSyncing x mode aboard).lanesInLaw := by
  unfold State.statusSyncing
  split
  · exact h.settleIdle
  · exact h.loadAboard
  · exact h
  · exact h.applyFault

theorem statusFree (h : s.lanesInLaw) {x : Crane} {mode : StatusMode} {aboard : Bool} :
    (s.statusFree x mode aboard).lanesInLaw := by
  unfold State.statusFree
  split
  · exact h
  · exact h.loadAboard
  · exact h.anomaly.busyUnknown
  · exact h.applyFault

theorem statusOrder (h : s.lanesInLaw) {x : Crane} {o : Order} {mode : StatusMode} {named : Bool} {n : Nat} :
    (s.statusOrder x o mode named n).lanesInLaw := by
  unfold State.statusOrder
  split
  · exact ite h.orderLostIdle h
  · exact h.startIfSent.markCount.narrowSpan
  · exact h.anomaly.orderLostSyncing
  · exact h.applyFault

theorem statusFaultedOrder (h : s.lanesInLaw) {x : Crane} {o : Order} {mode : StatusMode} {named : Bool} {n : Nat} :
    (s.statusFaultedOrder x o mode named n).lanesInLaw := by
  unfold State.statusFaultedOrder
  split
  · exact ite h.orderLostIdle h
  · exact h.startIfSent.clearFault.markCount
  · exact h.anomaly.orderLostSyncing
  · exact h

theorem statusFaultedFree (h : s.lanesInLaw) {x : Crane} {mode : StatusMode} {aboard : Bool} :
    (s.statusFaultedFree x mode aboard).lanesInLaw := by
  unfold State.statusFaultedFree
  split
  · exact h.clearFault
  · exact h
  · exact h.anomaly
  · exact h

theorem statusLost (h : s.lanesInLaw) {x : Crane} {mode : StatusMode} {named : Bool} {n : Nat} {aboard : Bool} :
    (s.statusLost x mode named n aboard).lanesInLaw := by
  unfold State.statusLost
  split
  · exact h.orderLostIdle
  · exact h.settleIdle
  · exact h.loadAboard
  · exact h.resumeLost.markCount.narrowSpan
  · exact h.anomaly.orderLostSyncing
  · exact h.anomaly.busyUnknown
  · exact h.applyFault

theorem statusPosition (h : s.lanesInLaw) {x : Crane} {mode : StatusMode} {bay level : Byte} :
    (s.statusPosition x mode bay level).lanesInLaw := ite (ite h h.anomaly) h.reportPosition

theorem statusWaiting (h : s.lanesInLaw) {x : Crane} {mode : StatusMode} {bay level : Byte} {aboard : Bool} :
    (s.statusWaiting x mode bay level aboard).lanesInLaw := by
  cases mode
  · exact h
  · exact h.anomaly
  · exact h.faultWaiting.takeAboard

theorem takeStatus (h : s.lanesInLaw) {x : Crane} {mode : StatusMode} {id : Word16} {n : Nat} {bay level : Byte}
    {aboard : Bool} : (s.takeStatus x mode id n bay level aboard).lanesInLaw := by
  have counted : (s.statusAnomalies x mode id n).lanesInLaw := h.statusAnomalies
  have taken := (counted.statusPosition (x := x) (mode := mode) (bay := bay) (level := level)).takeAboard (x := x)
    (aboard := aboard)
  unfold State.takeStatus
  dsimp only
  split
  · exact h
  · exact counted.statusWaiting
  · exact taken.statusSyncing
  · exact taken.statusLost
  · exact taken.statusFaultedOrder
  · exact taken.statusFaultedFree
  · exact taken.statusOrder
  · exact taken.statusFree

theorem takeFaultClear (h : s.lanesInLaw) {x : Crane} {bay level : Byte} : (s.takeFaultClear x bay level).lanesInLaw := by
  unfold State.takeFaultClear
  dsimp only
  split
  · exact h.reportPosition.takeAboard.settleIdle
  · exact h.reportPosition.clearFault
  · exact h.reportPosition.clearFault
  · exact h.reportPosition.anomaly

theorem dropCraneFrame (h : s.lanesInLaw) {x : Crane} : (s.dropCraneFrame x).lanesInLaw := h.kept

/-! ### Passes -/

theorem setStage (h : s.lanesInLaw) {p : Pass} {st : Stage} : (s.setStage p st).lanesInLaw := h.setPass

theorem endStoreStage (h : s.lanesInLaw) {p : Pass} {tag serial : Word32} {best : Option StorePick} :
    (s.endStoreStage p tag serial best).lanesInLaw := by
  unfold State.endStoreStage
  split
  · refine setStage ?_
    unfold State.stallHead
    split
    · exact h
    · exact ite h.modJobOf h.modJobOf.raise
  · exact setStage h.modJobOf

theorem considerRetrieve (h : s.lanesInLaw) {p : Pass} {j : Job} {a : Slot} {store : Option StorePick}
    {best : Option RetrievePick} : (s.considerRetrieve p j a store best).lanesInLaw := by
  unfold State.considerRetrieve
  refine ite h.setStage ?_
  split
  · exact setStage (ite h h.raise)
  · exact ite h.setStage h.setStage
  · exact ite h.setStage h.setStage

theorem passItem (h : s.lanesInLaw) {p : Pass} {t : State} (e : s.passItem p = some t) : t.lanesInLaw := by
  unfold State.passItem at e
  split at e
  · split at e <;> cases e <;> exact h.setStage
  · split at e <;> cases e
    · exact h.setStage
    · exact h.endStoreStage
  · split at e
    · cases e
    · split at e <;> cases e
      exact h.considerRetrieve
  · cases e

theorem passItems (n : Nat) {s : State} (h : s.lanesInLaw) : (State.passItems n s).lanesInLaw := by
  induction n generalizing s with
  | zero => exact h
  | succ n ih =>
    unfold State.passItems
    split
    · exact h
    · split
      · rename_i e
        exact ih (h.passItem e)
      · exact h

theorem orderJobs (h : s.lanesInLaw) {r : PassResult} : (s.orderJobs r).lanesInLaw := by
  unfold State.orderJobs
  dsimp only
  split <;> split
  · exact h.modJobOf.modJobOf
  · exact h.modJobOf
  · exact h.modJobOf
  · exact h

theorem sendYield (h : s.lanesInLaw) {p : Pass} {x y : Crane} {t : Nat} : (s.sendYield p x y t).lanesInLaw := by
  unfold State.sendYield
  split
  · exact h
  · exact h.placeOrder.claimSpan.setPair.sendOrder

theorem dispatch (h : s.lanesInLaw) {p : Pass} {r : PassResult} {a : SpanAnswer} : (s.dispatch p r a).lanesInLaw := by
  have ordered : ((s.setTable (State.convertRetrieve (State.convertStore s.table r) r)).orderJobs r).lanesInLaw :=
    h.setTable.orderJobs
  unfold State.dispatch
  dsimp only
  split
  · exact engineRun (setPass ordered.placeOrder.claimSpan.setCraneState.sendYield)
  · exact engineRun (setPass ordered.placeOrder.claimSpan.sendOrder)

theorem endStarved (h : s.lanesInLaw) {p : Pass} : (s.endStarved p).lanesInLaw :=
  engineRun (ite (trigger (modCrane h.setPass)) (modCrane h.setPass))

theorem completePass (h : s.lanesInLaw) {p : Pass} : (s.completePass p).lanesInLaw := by
  unfold State.completePass
  split
  · exact h.endStarved
  · refine ite (engineRun (setEngine h)) ?_
    split
    · exact ite h.setPass h.endStarved
    · exact h.dispatch

theorem passCompletes (h : s.lanesInLaw) : s.passCompletes.lanesInLaw := by
  have examined := h.passItems s.itemBound
  unfold State.passCompletes
  dsimp only
  split
  · exact examined.completePass
  · exact examined

/-! ### The clocks and the lines -/

theorem serviceSilence (h : s.lanesInLaw) {x : Crane} : (s.serviceSilence x).lanesInLaw := ite h.loseCrane h

theorem serviceAccept (h : s.lanesInLaw) {x : Crane} : (s.serviceAccept x).lanesInLaw := ite h.expireAccept h

theorem serviceHost (h : s.lanesInLaw) : s.serviceHost.lanesInLaw := ite h.setSup.raise h

theorem poll (h : s.lanesInLaw) {before : Crane → Nat} : (s.poll before).lanesInLaw := by
  unfold State.poll
  split
  · exact h.setSup.emit
  · exact h

theorem tickPace (h : s.lanesInLaw) : s.tickPace.lanesInLaw := h.setSup

theorem countHost (h : s.lanesInLaw) : s.countHost.lanesInLaw := h.setSup

theorem countSilence (h : s.lanesInLaw) {x : Crane} : (s.countSilence x).lanesInLaw := ite h.setSilence h

theorem countAccept (h : s.lanesInLaw) {x : Crane} : (s.countAccept x).lanesInLaw := h.modOrder

theorem paceExpires (h : s.lanesInLaw) : s.paceExpires.lanesInLaw := by
  have each (f : State → Crane → State) (xs : List Crane) {t : State} (k : t.lanesInLaw)
      (hf : ∀ (u : State) x, u.lanesInLaw → (f u x).lanesInLaw) : (xs.foldl f t).lanesInLaw :=
    RailInvariant.foldl (P := State.lanesInLaw) k hf
  unfold State.paceExpires
  generalize allCranes = xs
  have silent := each State.countSilence xs h.tickPace fun _ _ k => k.countSilence
  have counted := countHost (each State.countAccept xs silent fun _ _ k => k.countAccept)
  have served := each State.serviceSilence xs counted fun _ _ k => k.serviceSilence
  exact each State.serviceAccept xs served.poll.serviceHost fun _ _ k => k.serviceAccept

theorem transmitted (h : s.lanesInLaw) : s.transmitted.lanesInLaw := by
  unfold State.transmitted
  split
  · exact h
  · exact h.kept

theorem append (h : s.lanesInLaw) {cs : List Instr} : (s.append cs).lanesInLaw := h.kept

theorem withLines (h : s.lanesInLaw) {p : Port} {l : Lines} : State.lanesInLaw { s with port := p, lines := l } := h.kept

/-- The part's own time keeps the law. -/
theorem idle (h : s.lanesInLaw) : s.idle.lanesInLaw := by
  unfold State.idle
  split
  · unfold State.receiveHost
    exact append h.withLines
  · unfold State.receiveCrane
    exact append h.withLines
  · unfold State.workPass
    split
    · rename_i e
      exact h.passItem e
    · exact h.append
  · have ran : s.runClocks.lanesInLaw := h.setSup
    unfold State.tick State.waitLines
    exact append ran.withLines

end State.lanesInLaw

end Sys2Proof.Machine

namespace Sys2Proof.Machine

open RailInvariant (check)

/-! ## The law of the lanes under the requests, and under every step (R24, R25, R29, R30, R153, R154, R160) -/

namespace State.lanesInLaw

variable {s : State}

/-- A part with CLOSED lanes and no live jobs. -/
theorem powerOn {t : State} (lanes : t.lanes = .replicate 8 .powerOn) (jobs : t.pool.jobs = []) : t.lanesInLaw := by
  rw [lanesInLaw_iff]
  intro l
  rw [laneOf, lanes, laneNames, jobs, get_replicate]
  exact Lane.fits_powerOn

theorem hearHost (h : s.lanesInLaw) : s.hearHost.lanesInLaw := by
  unfold State.hearHost State.autoRelease
  split
  · exact afterRelease (raise h.setSup)
  · exact h.setSup

/-- A request is dropped, or refused without an owner, or answered by its owner. -/
theorem takeRequest (h : s.lanesInLaw) {kind : Byte} {body : List Byte} {owner : State → List Byte → Answer}
    (ho : ∀ (t : State) fields, t.lanesInLaw → (owner t fields).1.lanesInLaw) : (s.takeRequest kind body owner).lanesInLaw := by
  unfold State.takeRequest
  split
  · exact h.kept
  · split
    · exact (ho _ _ h.hearHost).pushReply
    · exact h.hearHost.pushReply

/-- A request whose fields are read. -/
theorem readRequest (h : s.lanesInLaw) {α : Type} {kind : Byte} {body : List Byte} {read : List Byte → Option α}
    {act : State → α → Answer} (ha : ∀ (t : State) r, t.lanesInLaw → (act t r).1.lanesInLaw) :
    (s.takeRequest kind body (State.reading read act)).lanesInLaw :=
  h.takeRequest fun t fields k => by
    unfold State.reading
    split
    · exact ha t _ k
    · exact k

theorem ranged {α : Type} (h : s.lanesInLaw) {n : Option α} {act : State → α → Answer}
    (ha : ∀ a, (act s a).1.lanesInLaw) : (s.ranged n act).1.lanesInLaw := RailInvariant.ranged (P := State.lanesInLaw) h ha

theorem okWith (h : s.lanesInLaw) {d : ReplyData} : (s.okWith d).1.lanesInLaw := h

/-! ### Jobs and spares -/

/-- A job without a lane joins the pool. -/
theorem addJob (h : s.lanesInLaw) {j : Job} (hj : j.lane? = none) : (s.addJob j).lanesInLaw := by
  refine h.kept (watch_lanes ..) ?_
  rw [laneNames, State.addJob, watch_pool, List.filterMap_append, List.filterMap_cons_none hj, List.filterMap_nil,
    List.append_nil, laneNames]

/-- A job joins with a sequence of an OPEN lane that is not stale and that no other live job names (R24, R25). -/
theorem raiseLane_addJob (h : s.lanesInLaw) {j : Job} {l : LaneNo} {d : Word16} (hj : j.lane? = some (l, d))
    (opened : (s.laneOf l).opened = true) (fresh : (s.laneOf l).stale d = false) (free : (l, d) ∉ s.laneNames) :
    ((s.raiseLane (some (l, d))).addJob j).lanesInLaw := by
  have names : ((s.raiseLane (some (l, d))).addJob j).laneNames = s.laneNames ++ [(l, d)] := by
    rw [laneNames, State.addJob, watch_pool, raiseLane_pool, List.filterMap_append, List.filterMap_cons_some hj,
      List.filterMap_nil, laneNames]
  have lanes : ((s.raiseLane (some (l, d))).addJob j).lanes = (s.raiseLane (some (l, d))).lanes := watch_lanes ..
  rw [lanesInLaw_iff]
  intro m
  rw [laneOf, lanes, ← laneOf, names, sequencesOn_append, raiseLane, laneOf_setLane]
  split
  · rename_i e
    subst e
    rw [sequencesOn_cons_self]
    exact (h.fits l).raise opened fresh (mt mem_sequencesOn.1 free)
  · rename_i e
    rw [sequencesOn_cons_other e]
    exact (List.append_nil _).symm ▸ h.fits m

theorem not_mem_laneNames {l : LaneNo} {d : Word16} (h : ¬(s.pool.holder l d).isSome = true) : (l, d) ∉ s.laneNames :=
  mt mem_laneNames.1 (mt (Pool.holder_isSome_iff ..).2 h)

theorem admitStore (h : s.lanesInLaw) {r : StoreRequest} : (s.admitStore r).1.lanesInLaw := by
  unfold State.admitStore
  split
  · exact check (fun _ => h) fun _ => check (fun _ => h) fun _ => check (fun _ => h) fun _ => check (fun _ => h) fun _ =>
      check (fun _ => h) fun _ => check (fun _ => h) fun _ => trigger (h.addJob rfl)
  · exact h

/-- The lane checks of R24 find the lane OPEN, the sequence not stale, and no other live job with it. -/
theorem takeRetrieve (h : s.lanesInLaw) {r : RetrieveRequest} {a : Slot} (taken : s.laneRefusal r.lane = none) :
    (s.takeRetrieve r a).1.lanesInLaw := by
  have reserved : (s.setTable (addEntry s.table a (.retrieveSource r.tag))).lanesInLaw := h.setTable
  unfold State.takeRetrieve
  refine okWith (triggerAisle ?_)
  generalize hj : s.newJob r.tag r.pallet r.cls (.retrieve a r.blocker r.lane) = j
  have lane : j.lane? = r.lane := hj ▸ rfl
  cases e : r.lane with
  | none => exact reserved.addJob (lane.trans e)
  | some n =>
    obtain ⟨l, d⟩ := n
    rw [e, laneRefusal] at taken
    split at taken
    · cases taken
    · rename_i opened
      split at taken
      · cases taken
      · rename_i fresh
        split at taken
        · cases taken
        · rename_i free
          exact reserved.raiseLane_addJob (lane.trans e) (by simpa using opened) (by simpa using fresh)
            (not_mem_laneNames free)

theorem admitRetrieve (h : s.lanesInLaw) {r : RetrieveRequest} : (s.admitRetrieve r).1.lanesInLaw := by
  unfold State.admitRetrieve
  split
  · refine check (fun _ => h) fun _ => check (fun _ => h) fun _ => check (fun _ => h) fun _ => check (fun _ => h) fun _ =>
      check (fun _ => h) fun _ => ?_
    split
    · exact h
    · rename_i taken
      exact check (fun _ => h) fun _ => h.takeRetrieve taken
  · exact h

theorem amendStore (h : s.lanesInLaw) {r : Word32 × List Place} : (s.amendStore r).1.lanesInLaw := by
  unfold State.amendStore
  split
  · exact h
  · split
    · exact h
    · exact check (fun _ => h) fun _ => check (fun _ => h) fun _ => trigger h.modJobOf

/-- The job cancelled has left before its sequence is delivered (R30). -/
theorem cancelJob (h : s.lanesInLaw) {r : Word32 × Bool} : (s.cancelJob r).1.lanesInLaw := by
  unfold State.cancelJob
  split
  · exact h
  · rename_i j hf
    refine check (fun _ => h) fun _ => ?_
    have skipped : ((s.removeJob r.1 false).skipDelivery j r.2).lanesInLaw := by
      unfold State.skipDelivery
      split
      · rename_i hn _
        exact h.removeJob.deliver (h.free_of_removeJob hf hn false)
      · exact h.removeJob
    dsimp only [State.ok, State.cancelTriggers]
    split
    · exact ite skipped.trigger skipped
    · exact skipped.triggerAisle

theorem queryJob (h : s.lanesInLaw) {tag : Word32} : (s.queryJob tag).1.lanesInLaw := by
  unfold State.queryJob
  split <;> exact h

theorem addSpare (h : s.lanesInLaw) {p : Place} : (s.addSpare p).1.lanesInLaw := by
  unfold State.addSpare
  split
  · exact check (fun _ => h) fun _ => check (fun _ => h) fun _ => check (fun _ => h) fun _ => triggerAisle h.setTable
  · exact h

theorem removeSpare (h : s.lanesInLaw) {p : Place} : (s.removeSpare p).1.lanesInLaw := by
  unfold State.removeSpare
  split
  · refine check (fun _ => h) fun _ => ?_
    split
    · exact h.setTable
    · exact h
    · exact h
  · exact h

/-! ### Lanes -/

theorem laneOpen (h : s.lanesInLaw) {r : Byte × Word16 × Nat} : (s.laneOpen r).1.lanesInLaw :=
  ranged h fun l => check (fun _ => h) fun closed =>
    okWith ((h.setLane ((h.fits l).openLane closed r.2.1 r.2.2)).triggerAll _)

theorem laneClose (h : s.lanesInLaw) {b : Byte} : (s.laneClose b).1.lanesInLaw :=
  ranged h fun l => check (fun _ => h) fun _ => check (fun _ => h) fun idle => h.setLane ((h.fits l).closeLane idle)

theorem skipSequence (h : s.lanesInLaw) {r : Byte × Word16} : (s.skipSequence r).1.lanesInLaw := by
  refine ranged h fun _ => check (fun _ => h) fun _ => check (fun _ => h) fun _ => check (fun _ => h) fun _ =>
    check (fun _ => h) fun free => ?_
  unfold State.takeSkip
  exact okWith ((h.deliverOnly (not_mem_laneNames free)).triggerAll _)

/-! ### Cranes and aisles -/

theorem enrol (h : s.lanesInLaw) {b : Byte} : (s.enrol b).1.lanesInLaw :=
  ranged h fun _ => check (fun _ => h) fun _ => check (fun _ => h) fun _ => emit (setSilence (setSpan h.modCrane))

theorem withdraw (h : s.lanesInLaw) {b : Byte} : (s.withdraw b).1.lanesInLaw := by
  have gone {x : Crane} {f : CraneCtx → CraneCtx} : ((s.modCrane x f).setSilence x 0).lanesInLaw := setSilence h.modCrane
  exact ranged h fun _ => check (fun _ => h) fun _ => check (fun _ => h) fun _ => changeSpan (ite gone.craneStateEvent gone)

theorem homeCrane (h : s.lanesInLaw) {b : Byte} : (s.homeCrane b).1.lanesInLaw := by
  refine ranged h fun x => check (fun _ => h) fun _ => check (fun _ => h) fun _ => ?_
  have requested : (s.modCrane x fun c => { c with homeRequest := true }).lanesInLaw := h.modCrane
  dsimp only [State.ok, State.takeHome]
  split
  · exact requested.trigger
  · exact requested.engineRun
  · exact requested

theorem abandonOrder (h : s.lanesInLaw) {b : Byte} : (s.abandonOrder b).1.lanesInLaw :=
  ranged h fun _ => check (fun _ => h.emit.giveUp) fun _ => h

theorem withCost (h : s.lanesInLaw) {c : CostUnit} : State.lanesInLaw { s with cost := c } := h.kept

theorem setGeometry (h : s.lanesInLaw) {r : GeometryRequest} : (s.setGeometry r).1.lanesInLaw := by
  have replaced (a : Aisle) (g : Geometry) : (s.replaceGeometry a g).1.lanesInLaw := check (fun _ => h) fun _ => h.withCost
  unfold State.setGeometry
  split
  · exact h
  · refine check (fun _ => ?_) fun _ => replaced _ _
    split
    · exact h
    · exact check (fun _ => h) fun _ => replaced _ _

theorem setPolicy (h : s.lanesInLaw) {r : PolicyRequest} : (s.setPolicy r).1.lanesInLaw := by
  unfold State.setPolicy
  repeat' split
  all_goals exact h.kept

theorem setProfile (h : s.lanesInLaw) {r : Byte × Profile} : (s.setProfile r).1.lanesInLaw := by
  unfold State.setProfile
  repeat' split
  all_goals exact h.kept

/-! ### Holds, settings and the reset -/

theorem holdRequest (h : s.lanesInLaw) {b : Byte} : (s.holdRequest b).1.lanesInLaw :=
  ranged h fun sc => check (fun _ => h) fun _ => raise (s := s.setCause sc) (by cases sc <;> exact h.setSup)

theorem resumeRequest (h : s.lanesInLaw) {b : Byte} : (s.resumeRequest b).1.lanesInLaw :=
  ranged h fun sc => check
    (fun _ => afterRelease (raise (s := s.clearCauses sc) (by cases sc <;> exact h.setSup))) fun _ => h

theorem queryStatus (h : s.lanesInLaw) {fields : List Byte} : (s.queryStatus fields).1.lanesInLaw := by
  unfold State.queryStatus
  split <;> exact h

theorem resetRequest (h : s.lanesInLaw) {b : Byte} : (s.resetRequest b).1.lanesInLaw :=
  ranged h fun sc => by cases sc <;> exact powerOn rfl rfl

/-! ### Every command and every step -/

/-- Every command keeps the law. -/
theorem exec (h : s.lanesInLaw) {c : Instr} {t : State} (e : exec c s = .next t) : t.lanesInLaw := by
  cases c <;> have e := Host.Outcome.next.inj e <;> subst e
  case powerOn => exact powerOn rfl rfl
  case admitStore => exact h.readRequest fun _ _ k => k.admitStore
  case admitRetrieve => exact h.readRequest fun _ _ k => k.admitRetrieve
  case amendStore => exact h.readRequest fun _ _ k => k.amendStore
  case cancelJob => exact h.readRequest fun _ _ k => k.cancelJob
  case queryJob => exact h.readRequest fun _ _ k => k.queryJob
  case addSpare => exact h.readRequest fun _ _ k => k.addSpare
  case removeSpare => exact h.readRequest fun _ _ k => k.removeSpare
  case laneOpen => exact h.readRequest fun _ _ k => k.laneOpen
  case laneClose => exact h.readRequest fun _ _ k => k.laneClose
  case skipSequence => exact h.readRequest fun _ _ k => k.skipSequence
  case enrolCrane => exact h.readRequest fun _ _ k => k.enrol
  case withdrawCrane => exact h.readRequest fun _ _ k => k.withdraw
  case homeCrane => exact h.readRequest fun _ _ k => k.homeCrane
  case abandonOrder => exact h.readRequest fun _ _ k => k.abandonOrder
  case setAisleGeometry => exact h.readRequest fun _ _ k => k.setGeometry
  case setAislePolicy => exact h.readRequest fun _ _ k => k.setPolicy
  case setProfile => exact h.readRequest fun _ _ k => k.setProfile
  case setScoring => exact h.readRequest fun _ _ k => k.withCost
  case loadWeights =>
    exact h.readRequest fun _ _ k => check (fun _ => k) fun _ => check (fun _ => k) fun _ => k.withCost
  case queryCrane | queryAisle | queryLane => exact h.readRequest fun _ _ k => ranged k fun _ => okWith k
  case setTrim | setTiming | setWatch => exact h.readRequest fun _ _ k => ranged k fun _ => k.kept
  case hold => exact h.readRequest fun _ _ k => k.holdRequest
  case resume => exact h.readRequest fun _ _ k => k.resumeRequest
  case setNotices => exact h.readRequest fun _ _ k => check (fun _ => k) fun _ => k.kept
  case clearFlags => exact h.readRequest fun _ _ k => k.kept
  case queryStatus => exact h.takeRequest fun _ _ k => k.queryStatus
  case reset => exact h.readRequest fun _ _ k => k.resetRequest
  case unknownRequest => exact h.takeRequest fun _ _ k => k
  case managementFrameDropped | frameGapAbandon => exact h.kept
  case craneFrameDropped => exact h.dropCraneFrame
  case unknownCraneRecord => exact h.hearCrane fun _ k => k.notTaken
  case accept => exact h.hearCrane fun _ k => k.takeAccept
  case decline => exact h.hearCrane fun _ k => k.takeDecline
  case legDone => exact h.hearCrane fun _ k => k.takeLegDone
  case orderDone => exact h.hearCrane fun _ k => k.takeOrderDone
  case revoked => exact h.hearCrane fun _ k => k.takeRevoked
  case fault => exact h.hearCrane fun _ k => k.takeFault
  case faultClear => exact h.hearCrane fun _ k => k.takeFaultClear
  case status => exact h.hearCrane fun _ k => k.takeStatus
  case passCompletion => exact h.passCompletes
  case paceIntervalExpiry => exact h.paceExpires
  case silenceLimitReached => exact h.serviceSilence
  case hostLimitReached => exact h.serviceHost
  case acceptTimerExpiry => exact h.serviceAccept
  case frameTransmitComplete => exact h.transmitted

end State.lanesInLaw

/-- Settles O5: a lane at a time, removals, deliveries, admissions and the lane requests keep the law, and all else leaves the
lanes and the lane references as they are. -/
theorem lanesStayInLaw : Obligations.LanesStayInLaw := by
  intro s t h e
  unfold step at e
  split at e
  · rename_i c rest _
    have taken : State.lanesInLaw { s with pending := rest } := h.kept
    exact taken.exec e
  · cases e
    exact h.idle

end Sys2Proof.Machine
